-- ==== Sys2Proof/Word.lean ====
section
/-! DEFINITION. The words the manual counts in: bytes, converter readings, times. -/

namespace Sys2Proof

/-- One byte of either SPI port (00_scope). -/
abbrev Byte := BitVec 8

/-- One result of the 12-bit converter, 0 to 4095 (R40). -/
abbrev Raw := BitVec 12

/-- A set of sensors, bit n being Sn, as payloads carry it (R185). -/
abbrev SensorSet := BitVec 8

/-- Eleven marks, bit n being alert flag n (R179, R185). -/
abbrev FlagSet := BitVec 11

/-- A moment on the model's clock, in microseconds (log 1: DESIGN CHOICE). -/
abbrev Time := Nat

end Sys2Proof
end

