-- ==== Sys2Proof/Syntax.lean ====
section
/-! DEFINITION. The commands: one constructor per row of spec/opcode_table.json, with the operands each row carries. -/

namespace Sys2Proof

/-- The four lens axes (R56). -/
inductive Axis where
  | vshift | hshift | zoom | focus
deriving DecidableEq, Repr

/-- The three fans (07_cooling). -/
inductive Fan where
  | f0 | f1 | f2
deriving DecidableEq, Repr

/-- What a command-link frame carries after its code: as many bytes as its length byte says (R173). A list longer than
48 stands for a frame whose length byte is 49 to 255: such a frame is complete at its length byte, and none of its
payload is taken (log 5). -/
abbrev Payload := List Byte

/-- The commands of the block. A request constructor is a complete frame with that request's code (R187); the others
are the link, reset, lookup, scaler, converter and timer events of the table. -/
inductive Instr where
  | plCreate (p : Payload)
  | plWrite (p : Payload)
  | plRead (p : Payload)
  | plRetire (p : Payload)
  | plList (p : Payload)
  | plCapture (p : Payload)
  | plRecall (p : Payload)
  | plSetPark (p : Payload)
  | rcQuery (p : Payload)
  | lnMove (p : Payload)
  | lnJog (p : Payload)
  | lnStop (p : Payload)
  | lnLearn (p : Payload)
  | lnSetRange (p : Payload)
  | lnQuery (p : Payload)
  | gmSet (p : Payload)
  | gmNudge (p : Payload)
  | gmQuery (p : Payload)
  | gmRaster (p : Payload)
  | gmOrient (p : Payload)
  | thQuiet (p : Payload)
  | thCurve (p : Payload)
  | thMask (p : Payload)
  | thLimits (p : Payload)
  | thQuery (p : Payload)
  | fcTable (p : Payload)
  | fcEnable (p : Payload)
  | fcReference (p : Payload)
  | snQuery (p : Payload)
  | mdWake (p : Payload)
  | mdDown (p : Payload)
  | mdClearTrip (p : Payload)
  | mdSoftReset (p : Payload)
  | mdQuery (p : Payload)
  | alRead (p : Payload)
  | alAck (p : Payload)
  | alEnable (p : Payload)
  | unknownRequest (code : Byte) (p : Payload)
  | frameOverrun
  | frameDiscarded
  | responseFormed
  | fetch
  | responseFetched
  | powerOnReset
  | lookupTransactionStart
  | lookupIndex (index : Byte)
  | recordComplete
  | lookupTransactionEnd
  | frameStart
  | timingTimerExpiry
  | computeComplete
  | slowConversionDue
  | slowConversionEnd (raw : Raw)
  | fastBurstDue
  | fastTrigger
  | fastConversionEnd (raw : Raw)
  | settleWaitExpiry (ax : Axis)
  | moveTimeout (ax : Axis)
  | brakeEnd (ax : Axis)
  | resumeTimerExpiry (ax : Axis)
  | pauseExpiry (ax : Axis)
  | jogStageChange (ax : Axis)
  | jogDeadline (ax : Axis)
  | pendingJogExpiry (ax : Axis)
  | learnLegTimeout (ax : Axis)
  | fanUpdate
  | tachPulse (fan : Fan)
  | tachWindowClose
  | fanCheckExpiry
  | cooldownTimerExpiry
  | powerOnResetEnd
deriving DecidableEq, Repr

end Sys2Proof
end

