-- ==== Sys2Proof/Decode.lean ====
section
/-! DEFINITION. The command link's reading of a transaction's bytes (R172, R173, R187), the frames written back, and
the host's `decodeTableWord`. -/

namespace Sys2Proof

/-- The request that a complete frame with this code carries (R187); a code outside the table is an unknown request. -/
def requestOf (code : Byte) (p : Payload) : Instr :=
  match code.toNat with
  | 0x10 => .plCreate p
  | 0x11 => .plWrite p
  | 0x12 => .plRead p
  | 0x13 => .plRetire p
  | 0x14 => .plList p
  | 0x15 => .plCapture p
  | 0x16 => .plRecall p
  | 0x17 => .plSetPark p
  | 0x20 => .rcQuery p
  | 0x28 => .lnMove p
  | 0x29 => .lnJog p
  | 0x2A => .lnStop p
  | 0x2B => .lnLearn p
  | 0x2C => .lnSetRange p
  | 0x2D => .lnQuery p
  | 0x30 => .gmSet p
  | 0x31 => .gmNudge p
  | 0x32 => .gmQuery p
  | 0x33 => .gmRaster p
  | 0x34 => .gmOrient p
  | 0x38 => .thQuiet p
  | 0x39 => .thCurve p
  | 0x3A => .thMask p
  | 0x3B => .thLimits p
  | 0x3C => .thQuery p
  | 0x40 => .fcTable p
  | 0x41 => .fcEnable p
  | 0x42 => .fcReference p
  | 0x44 => .snQuery p
  | 0x48 => .mdWake p
  | 0x49 => .mdDown p
  | 0x4A => .mdClearTrip p
  | 0x4B => .mdSoftReset p
  | 0x4C => .mdQuery p
  | 0x50 => .alRead p
  | 0x51 => .alAck p
  | 0x52 => .alEnable p
  | _ => .unknownRequest code p

/-- An unknown request code is neither hex 00, which makes a fetch (R172), nor a code of R187's table. -/
def unknownCode (code : Byte) : Bool := code ≠ 0 && requestOf code [] = .unknownRequest code []

/-- The code and payload of the frame that a request command stands for (R187); none for the other commands. -/
def frameOf : Instr → Option (Byte × Payload)
  | .plCreate p => some (0x10, p)
  | .plWrite p => some (0x11, p)
  | .plRead p => some (0x12, p)
  | .plRetire p => some (0x13, p)
  | .plList p => some (0x14, p)
  | .plCapture p => some (0x15, p)
  | .plRecall p => some (0x16, p)
  | .plSetPark p => some (0x17, p)
  | .rcQuery p => some (0x20, p)
  | .lnMove p => some (0x28, p)
  | .lnJog p => some (0x29, p)
  | .lnStop p => some (0x2A, p)
  | .lnLearn p => some (0x2B, p)
  | .lnSetRange p => some (0x2C, p)
  | .lnQuery p => some (0x2D, p)
  | .gmSet p => some (0x30, p)
  | .gmNudge p => some (0x31, p)
  | .gmQuery p => some (0x32, p)
  | .gmRaster p => some (0x33, p)
  | .gmOrient p => some (0x34, p)
  | .thQuiet p => some (0x38, p)
  | .thCurve p => some (0x39, p)
  | .thMask p => some (0x3A, p)
  | .thLimits p => some (0x3B, p)
  | .thQuery p => some (0x3C, p)
  | .fcTable p => some (0x40, p)
  | .fcEnable p => some (0x41, p)
  | .fcReference p => some (0x42, p)
  | .snQuery p => some (0x44, p)
  | .mdWake p => some (0x48, p)
  | .mdDown p => some (0x49, p)
  | .mdClearTrip p => some (0x4A, p)
  | .mdSoftReset p => some (0x4B, p)
  | .mdQuery p => some (0x4C, p)
  | .alRead p => some (0x50, p)
  | .alAck p => some (0x51, p)
  | .alEnable p => some (0x52, p)
  | .unknownRequest code p => some (code, p)
  | .frameOverrun | .frameDiscarded | .responseFormed | .fetch | .responseFetched | .powerOnReset
  | .lookupTransactionStart | .lookupIndex _ | .recordComplete | .lookupTransactionEnd | .frameStart
  | .timingTimerExpiry | .computeComplete | .slowConversionDue | .slowConversionEnd _ | .fastBurstDue | .fastTrigger
  | .fastConversionEnd _ | .settleWaitExpiry _ | .moveTimeout _ | .brakeEnd _ | .resumeTimerExpiry _ | .pauseExpiry _
  | .jogStageChange _ | .jogDeadline _ | .pendingJogExpiry _ | .learnLegTimeout _ | .fanUpdate | .tachPulse _
  | .tachWindowClose | .fanCheckExpiry | .cooldownTimerExpiry | .powerOnResetEnd => none

/-- The longest payload a frame may carry (R173). -/
def maxPayload : Nat := 48

/-- The command that the whole bytes of one command-link transaction, from the fall of CMD_CS_N to its rise, spell
(R172, R173). A first byte of hex 00 is a fetch; a transaction that ends before its first byte has no effect; a frame
cut short is discarded; a length byte of 49 to 255 completes the frame at once, with a payload that is never taken. -/
def decodeTransaction : List Byte → Option Instr
  | [] => none
  | [c] => if c = 0 then some .fetch else some .frameDiscarded
  | c :: n :: rest =>
    if c = 0 then some .fetch
    else if maxPayload < n.toNat then some (requestOf c (List.replicate n.toNat 0))
    else if rest.length < n.toNat then some .frameDiscarded
    else some (requestOf c (rest.take n.toNat))

/-- The bytes of the request frame that a request command stands for (R173); none for the other commands. -/
def encodeFrame (i : Instr) : Option (List Byte) :=
  (frameOf i).map fun f => f.1 :: BitVec.ofNat 8 f.2.length :: f.2

/-- spec/opcode_table.json gives no row any bits ("n_rows_with_fixed": 0, 98_reader), so no word spells a command
(log 31: DEDUCED). -/
def decodeTableWord (_nbits _w : Nat) : Option Instr := none

end Sys2Proof
end

