-- ==== Sys2Proof/Config.lean ====
section
/-! DEFINITION. What the manual leaves open: constants without a body, so that nothing can be proved of their values. -/

namespace Sys2Proof

/-- The order in which the four receivers of a thermal evaluation take its signal, as an index into
`evaluationOrders`, for the evaluation signalled at a time. R46: "The receivers take the signal independently of one
another"; R98 and R167 allow either order. Free (log 10: DESIGN CHOICE). -/
opaque Config.evaluationOrder : Time → Fin 24

/-- The reading that the potentiometer of axis `n` is taken to give at a time when it has not been converted since
power-on. R44 leaves the channel without a result and R62, R38, R76 ask for a position. Free (log 11: DESIGN CHOICE). -/
opaque Config.unreadPot : Nat → Time → Raw

/-- Whether a duration that is no whole number of the unit it is reported in is reported rounded up (log 12: DESIGN CHOICE). -/
opaque Config.roundsUp : Nat → Bool

/-- Whether the stall of R68 is taken before the drive-off of R64 or the soft limit of R75 when one position sample of
axis `n` at a time meets both. Free (log 13: DESIGN CHOICE). -/
opaque Config.stallFirst : Nat → Time → Bool

/-- Whether sensor `n` replaces an equally hot earlier sensor as the one that gave the governing temperature (R121) at
a time. Free (log 14: DESIGN CHOICE). -/
opaque Config.tieTakesLater : Nat → Time → Bool

/-- One millisecond of the model's clock. -/
abbrev ms : Time := 1000

/-- One second of the model's clock. -/
abbrev sec : Time := 1000000

end Sys2Proof
end

