-- ==== Sys2Proof/Machine/Arith.lean ====
section
/-! DEFINITION. The manual's roundings and clamps (00_scope, Arithmetic), and its byte fields (R185). -/

namespace Sys2Proof.Machine

/-- clamp(x, lo, hi) of 00_scope, over the integers. -/
def clampInt (x lo hi : Int) : Int := if x < lo then lo else if hi < x then hi else x

/-- clamp(x, 0, hi) of 00_scope as a natural number. -/
def clampNat (x : Int) (hi : Nat) : Nat := (clampInt x 0 hi).toNat

/-- floor(n / d) for a positive divisor, toward minus infinity (00_scope). -/
def floorDiv (n : Int) (d : Nat) : Int := n.fdiv d

/-- round-half-up of n / d for a positive divisor: an exact half goes to the greater integer (00_scope). -/
def roundHalfUp (n : Int) (d : Nat) : Int := floorDiv (2 * n + d) (2 * d)

/-- round-half-away of n / d for a positive divisor: an exact half goes further from zero (00_scope, RA). -/
def roundHalfAway (n : Int) (d : Nat) : Int :=
  if n < 0 then -((2 * n.natAbs + d) / (2 * d) : Nat) else ((2 * n.natAbs + d) / (2 * d) : Nat)

/-- ceil(n / d) for a positive divisor (00_scope). -/
def ceilDiv (n d : Nat) : Nat := (n + d - 1) / d

/-- A duration in whole units of `unit` microseconds, as a response reports it. The manual does not say how a part of
a unit is rounded, so that choice is free (log 12: DESIGN CHOICE). -/
def inUnits (unit duration : Nat) : Nat :=
  duration / unit + if duration % unit = 0 then 0 else (Config.roundsUp duration).toNat

/-- A duration in milliseconds. -/
def inMs (duration : Nat) : Nat := inUnits ms duration

/-- One byte of a response (R185). -/
def byte (n : Nat) : Byte := BitVec.ofNat 8 n

/-- A two-byte field, least significant byte first (R185). -/
def le16 (n : Nat) : List Byte := [byte n, byte (n / 256)]

/-- A three-byte field, least significant byte first (R185). -/
def le24 (n : Nat) : List Byte := [byte n, byte (n / 256), byte (n / 65536)]

/-- A signed two-byte field, two's complement (R185). -/
def le16s (x : Int) : List Byte := le16 (BitVec.ofInt 16 x).toNat

/-- A yes-or-no field of one byte: 1 for yes and 0 for no, as the numbered choices of R185 and R187 code on and off; no
rule gives the codes of a mark that is a whole byte (R12, R187; log 36: DESIGN CHOICE). -/
def mark (b : Bool) : Byte := if b then 1 else 0

/-- A marks byte: bit n is the n-th mark of the layout, and bits not named are 0 (R185). -/
def marks (bs : List Bool) : Byte := byte (bs.foldr (fun b n => b.toNat + 2 * n) 0)

end Sys2Proof.Machine
end

