-- ==== Sys2Proof/Machine/Bands.lean ====
section
/-! DEFINITION. Keystone geometry: the inputs, their clamps, and the band computation (08_keystone_geometry, R132 to
R147). -/

namespace Sys2Proof.Machine

/-- Six insets in whole pixels: screen terms (R4, R132) or, after the mirrors, panel terms (R139). -/
structure Insets where
  top : Nat
  bottom : Nat
  tl : Nat
  tr : Nat
  bl : Nat
  br : Nat
deriving DecidableEq, Repr

/-- The panel resolution (R132). -/
structure Raster where
  wp : Nat
  hp : Nat
deriving DecidableEq, Repr

/-- The mounting (R132). -/
inductive Orientation where
  | floorFront | floorRear | ceilingFront | ceilingRear
deriving DecidableEq, Repr

/-- The three inputs that a compute copies at its start (R138). -/
structure Inputs where
  geometry : Insets
  raster : Raster
  orient : Orientation
deriving DecidableEq, Repr

/-- The limit of the top and bottom insets, floor(Hp/4) (R133). -/
def rowLimit (r : Raster) : Nat := r.hp / 4

/-- The limit of the corner insets, Wp/4 (R133). -/
def cornerLimit (r : Raster) : Nat := r.wp / 4

/-- Six insets, given as exact integers, clamped against a raster (R133). -/
def clampInsets (r : Raster) (top bottom tl tr bl br : Int) : Insets where
  top := clampNat top (rowLimit r)
  bottom := clampNat bottom (rowLimit r)
  tl := clampNat tl (cornerLimit r)
  tr := clampNat tr (cornerLimit r)
  bl := clampNat bl (cornerLimit r)
  br := clampNat br (cornerLimit r)

/-- Insets clamped again against a raster (R29, R31, R136). -/
def reclamp (r : Raster) (g : Insets) : Insets := clampInsets r g.top g.bottom g.tl g.tr g.bl g.br

/-- The raster that a GM_RASTER's values give: clamped, and Wp rounded down to a multiple of 16 (R136). -/
def clampRaster (wp hp : Nat) : Raster where
  wp := (clampInt wp 1280 4096).toNat / 16 * 16
  hp := (clampInt hp 720 2400).toNat

/-- Mirror V of an orientation (R139). -/
def mirrorV : Orientation → Bool
  | .floorFront | .floorRear => false
  | .ceilingFront | .ceilingRear => true

/-- Mirror H of an orientation (R139). -/
def mirrorH : Orientation → Bool
  | .floorFront | .ceilingRear => false
  | .floorRear | .ceilingFront => true

/-- Whether an orientation is of the CEILING class (R112). -/
def isCeiling : Orientation → Bool
  | .floorFront | .floorRear => false
  | .ceilingFront | .ceilingRear => true

/-- Panel terms: Mirror V first, then Mirror H (R139). -/
def panelTerms (o : Orientation) (g : Insets) : Insets :=
  let v : Insets := if mirrorV o then ⟨g.bottom, g.top, g.bl, g.br, g.tl, g.tr⟩ else g
  if mirrorH o then ⟨v.top, v.bottom, v.tr, v.tl, v.br, v.bl⟩ else v

/-- The values that hold for a whole table (R140). -/
structure FrameValues where
  wp : Nat
  hp : Nat
  yT : Nat
  yE : Nat
  bh : Nat
  activeBands : Nat
  mirrorV : Bool
  mirrorH : Bool
deriving DecidableEq, Repr

/-- The four kinds of band (R141). -/
inductive BandKind where
  | empty | above | below | inside
deriving DecidableEq, Repr

/-- The values of one band record; the generation is the bank's (R156). -/
structure Band where
  kind : BandKind
  startRow : Nat
  xL16 : Nat
  xR16 : Nat
  srcRow256 : Nat
  hStep : Nat
  rowStep : Nat
deriving DecidableEq, Repr

/-- One complete table: 64 bands and the frame values (R149). -/
structure Table where
  bands : Vector Band 64
  frame : FrameValues
deriving DecidableEq, Repr

/-- yE, the last panel row of the image (R140). -/
def imageEnd (r : Raster) (p : Insets) : Nat := r.hp - 1 - p.bottom

/-- h, the image height in rows (R140). -/
def imageHeight (r : Raster) (p : Insets) : Nat := imageEnd r p - p.top + 1

/-- wT, the image width on its top row (R140). -/
def topWidth (r : Raster) (p : Insets) : Nat := r.wp - p.tl - p.tr

/-- wB, the image width on its bottom row (R140). -/
def bottomWidth (r : Raster) (p : Insets) : Nat := r.wp - p.bl - p.br

/-- bh, the band height in rows (R140). -/
def bandHeight (r : Raster) : Nat := ceilDiv r.hp 64

/-- The number of bands whose start row lies in the raster (R140). -/
def activeBandCount (r : Raster) : Nat := (List.range 64).countP fun b => b * bandHeight r < r.hp

/-- The frame values of a set of inputs (R140). -/
def frameValues (i : Inputs) : FrameValues :=
  let p := panelTerms i.orient i.geometry
  { wp := i.raster.wp, hp := i.raster.hp, yT := p.top, yE := imageEnd i.raster p, bh := bandHeight i.raster
    activeBands := activeBandCount i.raster, mirrorV := mirrorV i.orient, mirrorH := mirrorH i.orient }

/-- The kind of the band that starts at panel row `row` (R141). -/
def bandKind (r : Raster) (p : Insets) (row : Nat) : BandKind :=
  if r.hp ≤ row then .empty
  else if row < p.top then .above
  else if imageEnd r p < row then .below
  else .inside

/-- t16, the position of a start row down the image (R142). -/
def bandT16 (r : Raster) (p : Insets) (row : Nat) : Nat :=
  let rc := (clampInt row p.top (imageEnd r p)).toNat
  (rc - p.top) * 65536 / (imageHeight r p - 1)

/-- The inset on a row, in sixteenths of a pixel, between the top and bottom corner insets (R143). -/
def edge16 (top bottom t16 : Nat) : Nat :=
  (16 * top + roundHalfAway (16 * ((bottom : Int) - top) * t16) 65536).toNat

/-- hStep for an image row of `width16` sixteenths (R144). -/
def horizontalStep (r : Raster) (width16 : Nat) : Nat :=
  (roundHalfUp ((r.wp - 1) * 65536 * 16 : Nat) width16).toNat

/-- den, 65536 times the image width at the row (R145). -/
def rowDenominator (wT wB t16 : Nat) : Nat := (65536 - t16) * wT + t16 * wB

/-- u16, the projective parameter of a row (R145). -/
def projective16 (wT wB t16 : Nat) : Nat := t16 * wB * 65536 / rowDenominator wT wB t16

/-- srcRow256, the source row of a panel row (R145). -/
def sourceRow256 (hp wT wB t16 : Nat) : Nat :=
  (roundHalfUp (projective16 wT wB t16 * (hp - 1) * 256 : Nat) 65536).toNat

/-- rowStep, the slope of the projective map at a row (R146). -/
def verticalStep (hp h wT wB t16 : Nat) : Nat :=
  let den := rowDenominator wT wB t16
  (roundHalfUp (65536 * (hp - 1) * wT * wB * 65536 * 65536 : Nat) ((h - 1) * den * den)).toNat

/-- An EMPTY band: every value field 0 (R141, R156). -/
def emptyBand : Band := ⟨.empty, 0, 0, 0, 0, 0, 0⟩

/-- The record of a band that is not EMPTY, at its start row (R142 to R146). -/
def computedBand (r : Raster) (p : Insets) (row : Nat) : Band :=
  let t16 := bandT16 r p row
  let wT := topWidth r p
  let wB := bottomWidth r p
  let xL16 := edge16 p.tl p.bl t16
  let xR16 := 16 * (r.wp - 1) - edge16 p.tr p.br t16
  { kind := bandKind r p row, startRow := row, xL16 := xL16, xR16 := xR16
    srcRow256 := sourceRow256 r.hp wT wB t16
    hStep := horizontalStep r (xR16 - xL16)
    rowStep := verticalStep r.hp (imageHeight r p) wT wB t16 }

/-- Band `b` of the table of a set of inputs (R141). -/
def bandOf (i : Inputs) (b : Nat) : Band :=
  let p := panelTerms i.orient i.geometry
  let row := b * bandHeight i.raster
  if bandKind i.raster p row = .empty then emptyBand else computedBand i.raster p row

/-- The table that a compute gives for its copy of the inputs (R138). -/
def computeTable (i : Inputs) : Table where
  bands := ⟨((List.range 64).map (bandOf i)).toArray, by simp⟩
  frame := frameValues i

/-- The power-on inputs (R132). -/
def resetInputs : Inputs := ⟨⟨0, 0, 0, 0, 0, 0⟩, ⟨3840, 2160⟩, .ceilingFront⟩

end Sys2Proof.Machine
end

