-- ==== Sys2Proof/Machine/Indexed.lean ====
section
/-! DEFINITION. Fixed families of like things: one value for each axis, fan or sensor. -/

namespace Sys2Proof.Machine

/-- The eight thermistors (R40). -/
inductive Sensor where
  | s0 | s1 | s2 | s3 | s4 | s5 | s6 | s7
deriving DecidableEq, Repr

/-- One value for each axis. -/
structure PerAxis (α : Type) where
  vshift : α
  hshift : α
  zoom : α
  focus : α
deriving DecidableEq, Repr

/-- One value for each fan. -/
structure PerFan (α : Type) where
  f0 : α
  f1 : α
  f2 : α
deriving DecidableEq, Repr

/-- One value for each sensor. -/
structure PerSensor (α : Type) where
  s0 : α
  s1 : α
  s2 : α
  s3 : α
  s4 : α
  s5 : α
  s6 : α
  s7 : α
deriving DecidableEq, Repr

/-- The axes in ascending number (R56). -/
def axes : List Axis := [.vshift, .hshift, .zoom, .focus]

/-- The fans in order. -/
def fans : List Fan := [.f0, .f1, .f2]

/-- The sensors in order (R45). -/
def sensors : List Sensor := [.s0, .s1, .s2, .s3, .s4, .s5, .s6, .s7]

/-- The number of an axis (R56). -/
def axisNumber : Axis → Nat
  | .vshift => 0 | .hshift => 1 | .zoom => 2 | .focus => 3

/-- The axis of a number (R56). -/
def axisOf : Nat → Option Axis
  | 0 => some .vshift | 1 => some .hshift | 2 => some .zoom | 3 => some .focus | _ => none

/-- The fan of a number. -/
def fanOf : Nat → Option Fan
  | 0 => some .f0 | 1 => some .f1 | 2 => some .f2 | _ => none

/-- The number of a sensor (R40). -/
def sensorNumber : Sensor → Nat
  | .s0 => 0 | .s1 => 1 | .s2 => 2 | .s3 => 3 | .s4 => 4 | .s5 => 5 | .s6 => 6 | .s7 => 7

/-- The sensor of a number (R40). -/
def sensorOf : Nat → Option Sensor
  | 0 => some .s0 | 1 => some .s1 | 2 => some .s2 | 3 => some .s3
  | 4 => some .s4 | 5 => some .s5 | 6 => some .s6 | 7 => some .s7 | _ => none

/-- The sensor converted after this one (R45). -/
def nextSensor : Sensor → Sensor
  | .s0 => .s1 | .s1 => .s2 | .s2 => .s3 | .s3 => .s4 | .s4 => .s5 | .s5 => .s6 | .s6 => .s7 | .s7 => .s0

/-- The value of one axis. -/
def PerAxis.get {α : Type} (p : PerAxis α) : Axis → α
  | .vshift => p.vshift | .hshift => p.hshift | .zoom => p.zoom | .focus => p.focus

/-- The family with one axis's value replaced. -/
def PerAxis.set {α : Type} (p : PerAxis α) (ax : Axis) (x : α) : PerAxis α :=
  match ax with
  | .vshift => { p with vshift := x }
  | .hshift => { p with hshift := x }
  | .zoom => { p with zoom := x }
  | .focus => { p with focus := x }

/-- The family given by a function of the axis. -/
def PerAxis.make {α : Type} (f : Axis → α) : PerAxis α := ⟨f .vshift, f .hshift, f .zoom, f .focus⟩

/-- The values in ascending axis number. -/
def PerAxis.toList {α : Type} (p : PerAxis α) : List α := [p.vshift, p.hshift, p.zoom, p.focus]

/-- The value of one fan. -/
def PerFan.get {α : Type} (p : PerFan α) : Fan → α
  | .f0 => p.f0 | .f1 => p.f1 | .f2 => p.f2

/-- The family with one fan's value replaced. -/
def PerFan.set {α : Type} (p : PerFan α) (fan : Fan) (x : α) : PerFan α :=
  match fan with
  | .f0 => { p with f0 := x }
  | .f1 => { p with f1 := x }
  | .f2 => { p with f2 := x }

/-- The family given by a function of the fan. -/
def PerFan.make {α : Type} (f : Fan → α) : PerFan α := ⟨f .f0, f .f1, f .f2⟩

/-- The values in order. -/
def PerFan.toList {α : Type} (p : PerFan α) : List α := [p.f0, p.f1, p.f2]

/-- The value of one sensor. -/
def PerSensor.get {α : Type} (p : PerSensor α) : Sensor → α
  | .s0 => p.s0 | .s1 => p.s1 | .s2 => p.s2 | .s3 => p.s3 | .s4 => p.s4 | .s5 => p.s5 | .s6 => p.s6 | .s7 => p.s7

/-- The family with one sensor's value replaced. -/
def PerSensor.set {α : Type} (p : PerSensor α) (sn : Sensor) (x : α) : PerSensor α :=
  match sn with
  | .s0 => { p with s0 := x }
  | .s1 => { p with s1 := x }
  | .s2 => { p with s2 := x }
  | .s3 => { p with s3 := x }
  | .s4 => { p with s4 := x }
  | .s5 => { p with s5 := x }
  | .s6 => { p with s6 := x }
  | .s7 => { p with s7 := x }

/-- The family given by a function of the sensor. -/
def PerSensor.make {α : Type} (f : Sensor → α) : PerSensor α :=
  ⟨f .s0, f .s1, f .s2, f .s3, f .s4, f .s5, f .s6, f .s7⟩

/-- The values in order. -/
def PerSensor.toList {α : Type} (p : PerSensor α) : List α := [p.s0, p.s1, p.s2, p.s3, p.s4, p.s5, p.s6, p.s7]

/-- Whether a sensor is in a set (R112, R185: bit n is Sn). -/
def inSet (m : SensorSet) (sn : Sensor) : Bool := m.getLsbD (sensorNumber sn)

/-- The set of the sensors that meet a test (R185: bit n is Sn). -/
def sensorSet (f : Sensor → Bool) : SensorSet := marks (sensors.map f)

/-- The set of the axes that meet a test, as a byte (R185: bit n is axis n). -/
def axisSet (f : Axis → Bool) : Byte := marks (axes.map f)

end Sys2Proof.Machine
end

