-- ==== Sys2Proof/Machine/Params.lean ====
section
/-! DEFINITION. The manual's tables: power-on limits, curves, masks and coefficients, the fixed caps, drive units and
conversion table, and the durations of its timers. -/

namespace Sys2Proof.Machine

/-- The three limits of a sensor, in tenths of a degree (R110). -/
structure Limits where
  hold : Int
  override : Int
  trip : Int
deriving DecidableEq, Repr

/-- One point of a fan curve (R111). -/
structure CurvePoint where
  temp : Int
  duty : Nat
deriving DecidableEq, Repr

/-- The six points of a fan curve (R111). -/
structure Curve where
  p0 : CurvePoint
  p1 : CurvePoint
  p2 : CurvePoint
  p3 : CurvePoint
  p4 : CurvePoint
  p5 : CurvePoint
deriving DecidableEq, Repr

/-- The points in order. -/
def Curve.points (c : Curve) : List CurvePoint := [c.p0, c.p1, c.p2, c.p3, c.p4, c.p5]

/-- The two masks of a fan (R112). -/
structure Masks where
  floor : SensorSet
  ceiling : SensorSet
deriving DecidableEq, Repr

/-- The five drift coefficients, in tenths of a count per degree (R100). -/
structure DriftTable where
  c0 : Int
  c1 : Int
  c2 : Int
  c3 : Int
  c4 : Int
deriving DecidableEq, Repr

/-- The power-on limits (R110). -/
def resetLimits : PerSensor Limits where
  s0 := ⟨650, 720, 800⟩
  s1 := ⟨900, 1000, 1150⟩
  s2 := ⟨600, 680, 750⟩
  s3 := ⟨550, 620, 700⟩
  s4 := ⟨800, 880, 950⟩
  s5 := ⟨350, 400, 450⟩
  s6 := ⟨600, 680, 750⟩
  s7 := ⟨850, 950, 1050⟩

/-- The power-on curves (R111). -/
def resetCurves : PerFan Curve where
  f0 := ⟨⟨300, 25⟩, ⟨400, 35⟩, ⟨500, 50⟩, ⟨600, 70⟩, ⟨700, 90⟩, ⟨800, 100⟩⟩
  f1 := ⟨⟨300, 30⟩, ⟨450, 40⟩, ⟨550, 55⟩, ⟨650, 75⟩, ⟨750, 95⟩, ⟨850, 100⟩⟩
  f2 := ⟨⟨400, 30⟩, ⟨550, 45⟩, ⟨700, 60⟩, ⟨850, 80⟩, ⟨950, 95⟩, ⟨1050, 100⟩⟩

/-- The power-on masks (R112); bit n is Sn. -/
def resetMasks : PerFan Masks where
  f0 := ⟨0b00110100, 0b01111100⟩
  f1 := ⟨0b01000011, 0b11000011⟩
  f2 := ⟨0b00000111, 0b00000111⟩

/-- The power-on drift table (R100). -/
def resetDrift : DriftTable := ⟨-20, -25, -30, -40, -50⟩

/-- The cap of a fan at a quiet level (R113). -/
def capOf (quiet : Nat) (fan : Fan) : Nat :=
  match quiet, fan with
  | 0, _ => 100
  | 1, .f0 => 80
  | 1, .f1 => 85
  | 1, .f2 => 85
  | 2, .f0 => 60
  | 2, .f1 => 65
  | 2, .f2 => 70
  | _, .f0 => 45
  | _, .f1 => 50
  | _, .f2 => 55

/-- The drive units of an axis (R95). -/
def driveUnits : Axis → Nat
  | .vshift => 3 | .hshift => 2 | .zoom => 2 | .focus => 1

/-- The temperatures T_0 to T_16 of the conversion table (R49). -/
def conversionTable : List Int :=
  [1500, 1215, 1010, 880, 780, 700, 630, 565, 500, 440, 375, 310, 240, 160, 65, -85, -400]

/-- The temperature of a raw reading, by floored interpolation (R49). -/
def temperatureOf (r : Nat) : Int :=
  let i := r / 256
  let a := conversionTable.getD i 0
  let b := conversionTable.getD (i + 1) 0
  a + floorDiv ((b - a) * (r - 256 * i : Int)) 256

/-- The motor supply of a raw reading, in millivolts (R44). -/
def supplyMillivolts (r : Raw) : Nat := (roundHalfUp (r.toNat * 16500 : Nat) 4095).toNat

/-- Whether a thermistor reading is good (R48). -/
def isGoodSample (r : Raw) : Bool := 41 ≤ r.toNat && r.toNat ≤ 4054

/-- The straight line of a curve between two of its points (R111). -/
def curveBetween (a b : CurvePoint) (g : Int) : Nat :=
  (roundHalfUp (a.duty * (b.temp - a.temp) + (b.duty - a.duty : Int) * (g - a.temp)) (b.temp - a.temp).toNat).toNat

/-- The value of a curve, given its points from the first on; at or above the last point it is that point's duty
(R111). -/
def curveFrom (g : Int) : List CurvePoint → Nat
  | [] => 0
  | [p] => p.duty
  | p :: q :: rest => if g < q.temp then curveBetween p q g else curveFrom g (q :: rest)

/-- curve(G): at or below the first point, that point's duty; otherwise along the curve (R111). -/
def curveValue (c : Curve) (g : Int) : Nat := if g ≤ c.p0.temp then c.p0.duty else curveFrom g c.points

/-- The coefficient of the drift table over the zoom (R102). -/
def driftCoefficient (t : DriftTable) (z : Nat) : Int :=
  let cs := [t.c0, t.c1, t.c2, t.c3, t.c4]
  let i := min (z / 1000) 3
  let a := cs.getD i 0
  let b := cs.getD (i + 1) 0
  roundHalfAway (a * 1000 + (b - a) * (z - 1000 * i : Int)) 1000

/-- The duration of a conversion (R40). -/
def conversionTime : Time := 10

/-- The period of the fast bursts in PERIODIC mode (R42). -/
def burstPeriod : Time := 20 * ms

/-- The spacing of the triggers (R43). -/
def triggerPeriod : Time := 200

/-- The slow interval in STANDBY (R45). -/
def slowIntervalStandby : Time := 1 * sec

/-- The slow interval outside STANDBY (R45). -/
def slowIntervalActive : Time := 100 * ms

/-- The settle wait (R65). -/
def settleWait : Time := 30 * ms

/-- The move timeout (R67). -/
def moveLimit : Time := 15 * sec

/-- The drive time after which a stall may be judged: the start grace and the window (R68). -/
def stallGrace : Time := 250 * ms

/-- The window of the stall judgment (R68). -/
def stallWindow : Time := 150 * ms

/-- The brake (R71). -/
def brakeTime : Time := 50 * ms

/-- The time of good supply before a resume (R70). -/
def resumeTime : Time := 100 * ms

/-- The longest pause (R70). -/
def pauseLimit : Time := 2 * sec

/-- The supply below which drive pauses, in millivolts (R69). -/
def supplyLow : Nat := 10800

/-- The supply from which a pause may resume, in millivolts (R70). -/
def supplyGood : Nat := 11200

/-- The end of a jog's first stage (R74). -/
def jogSlowAt : Time := 600 * ms

/-- The end of a jog's second stage (R74). -/
def jogFullAt : Time := 1800 * ms

/-- The hold window of a jog (R80). -/
def jogHold : Time := 250 * ms

/-- The timeout of a learn leg (R76). -/
def learnLegLimit : Time := 20 * sec

/-- The period of the fan update (R119). -/
def fanUpdatePeriod : Time := 500 * ms

/-- The tach window (R124). -/
def tachWindow : Time := 1 * sec

/-- The fan check (R164). -/
def fanCheckTime : Time := 5 * sec

/-- The cooldown timer (R166). -/
def cooldownTime : Time := 240 * sec

/-- The frame timing timer (R154). -/
def timingLimit : Time := 100 * ms

end Sys2Proof.Machine
end

