-- ==== Sys2Proof/Machine/Blocks.lean ====
section
/-! DEFINITION. The blocks of the part as plain data: the fields that the manual gives each of them. -/

namespace Sys2Proof.Machine

/-! ## Placement Table (01) -/

/-- The record of a READY slot (R1). -/
structure Placement where
  label : List Byte
  targets : PerAxis (Option Nat)
  geometry : Option Insets
  quiet : Nat
  focusOn : Bool
deriving DecidableEq, Repr

/-- The 24 slots, slot number n standing at index n - 1 and none being FREE (R1), and the park slot's index (R15). -/
structure PlacementTable where
  slots : Vector (Option Placement) 24
  park : Option (Fin 24)
deriving DecidableEq, Repr

/-! ## Lens Drive (04) -/

/-- End statuses of a motion (R57, R185). -/
inductive EndStatus where
  | arrived | stalled | timeout | supplyLow | stopped | retargeted | unsettled | jogEnd | learnOk | learnFail
deriving DecidableEq, Repr

/-- Kinds of entry (R80). -/
inductive Origin where
  | move | ofRecall | trim | park | jog | learn
deriving DecidableEq, Repr

/-- What an entry or a motion asks of its axis, with the fields that its origin carries (R80). -/
inductive Job where
  | move (target : Nat)
  | ofRecall (target : Nat) (tag : Nat)
  | trim (target : Nat)
  | park (target : Nat)
  | jog (up : Bool) (deadline : Time)
  | learn
deriving DecidableEq, Repr

/-- Axis states (R56). -/
inductive AxisState where
  | uncalibrated | idle | moving | fault
deriving DecidableEq, Repr

/-- Motion phases (R61, R185). -/
inductive Phase where
  | drive | slow | creep | overshoot | settle | correct | paused | brake
  | learnNeg | learnPos | learnReturn | jogCreep | jogSlow | jogFull
deriving DecidableEq, Repr

/-- Duty classes: 100, 50 and 25 percent (R61). -/
inductive Duty where
  | full | slow | creep
deriving DecidableEq, Repr

/-- The drive sense of a leg (R61). -/
inductive Sense where
  | off | positive | negative
deriving DecidableEq, Repr

/-- A pause: the phase paused from, its start, and the start of the resume timer if it runs (R69, R70). -/
structure Pause where
  phase : Phase
  start : Time
  resume : Option Time
deriving DecidableEq, Repr

/-- A brake: the end status fixed and its start (R71). -/
structure Brake where
  status : EndStatus
  start : Time
deriving DecidableEq, Repr

/-- A settle: its start, whether its 30 ms wait still runs, and the samples counted (R65). -/
structure Settle where
  start : Time
  waiting : Bool
  count : Nat
deriving DecidableEq, Repr

/-- The raw readings that a learn keeps: at dispatch, and the two stops once found (R61, R76). -/
structure LearnReadings where
  atDispatch : Raw
  neg : Option Raw
  pos : Option Raw
deriving DecidableEq, Repr

/-- The motion record (R61). -/
structure Motion where
  /-- origin, target, tag, jog direction and deadline, as handed over -/
  job : Job
  returnState : AxisState
  phase : Phase
  legEnd : Option Nat
  sense : Sense
  duty : Duty
  /-- the drive is off between two legs: the next leg begins at the next sample (R63, R76) -/
  between : Bool
  driveStart : Time
  legStart : Time
  dispatched : Time
  corrections : Nat
  settle : Option Settle
  pause : Option Pause
  brake : Option Brake
  learn : Option LearnReadings
  /-- a learn's new calibration has been set (R57) -/
  learned : Bool
  /-- the drive-on samples of the stall window, newest first (R68) -/
  window : List (Time × Raw)
deriving DecidableEq, Repr

/-- The most recent motion end on an axis (R56). -/
structure LastEnd where
  origin : Origin
  tag : Option Nat
  status : EndStatus
  position : Option Nat
deriving DecidableEq, Repr

/-- The raw readings at the motor-negative and motor-positive end stops (R56). -/
structure Calibration where
  neg : Raw
  pos : Raw
deriving DecidableEq, Repr

/-- One axis record (R56). -/
structure AxisRecord where
  state : AxisState
  cal : Option Calibration
  motion : Option Motion
  lastEnd : Option LastEnd
deriving DecidableEq, Repr

/-! ## Motion Queue (05) -/

/-- A pending entry (R80). -/
structure Entry where
  axis : Axis
  job : Job
deriving DecidableEq, Repr

/-- The entry that the executing request appended: its axis, the byte of the response payload that says whether it has
been dispatched when the response is formed, and whether it has been (R85, R88, R91; the model's own record, log 4:
DESIGN CHOICE). -/
structure Awaited where
  axis : Axis
  place : Nat
  started : Bool
deriving DecidableEq, Repr

/-- The pending entries, oldest first, the budget in force (R80, R96), and the entry whose dispatch a response still
waits to report (R85, R88, R91). -/
structure MotionQueue where
  entries : List Entry
  budget : Nat
  awaited : Option Awaited
deriving DecidableEq, Repr

/-! ## Active Setup (02) -/

/-- Recall states (R25). -/
inductive RecallState where
  | none | moving | applying
deriving DecidableEq, Repr

/-- Recall outcomes (R36). -/
inductive RecallOutcome where
  | complete | partly | superseded | abandoned
deriving DecidableEq, Repr

/-- An axis's progress in the current recall (R30). -/
inductive Progress where
  | notNamed | waiting | running | ended (status : EndStatus)
deriving DecidableEq, Repr

/-- The recall in flight (R21, R30, R31). -/
structure Recall where
  slot : Fin 24
  tag : Nat
  progress : PerAxis Progress
  applied : Bool
  outcome : Option RecallOutcome
deriving DecidableEq, Repr

/-- The status of an axis in a recall report (R36). -/
inductive ReportStatus where
  | notNamed | unfinished | ended (status : EndStatus)
deriving DecidableEq, Repr

/-- The last recall report (R36). -/
structure Report where
  tag : Nat
  slot : Fin 24
  outcome : RecallOutcome
  statuses : PerAxis ReportStatus
  geometry : Bool
deriving DecidableEq, Repr

/-- The live record and the recall (R21). The active geometry is the Geometry Engine's. -/
structure ActiveSetup where
  source : Option (Fin 24)
  modified : Bool
  base : PerAxis (Option Nat)
  pendingGeometry : Option Insets
  quiet : Nat
  focusOn : Bool
  tref : Option Int
  recallState : RecallState
  tag : Nat
  current : Option Recall
  report : Option Report
deriving DecidableEq, Repr

/-! ## Measurement Scanner (03) -/

/-- Thermistor states (R47). -/
inductive SensorState where
  | filling | valid | faulted
deriving DecidableEq, Repr

/-- A fast channel's result entry (R47). -/
structure FastEntry where
  raw : Option Raw
  count : Nat
deriving DecidableEq, Repr

/-- A thermistor's result entry (R47). -/
structure Thermistor where
  state : SensorState
  ring : List Raw
  bad : Bool
  filtered : Option Int
  raw : Option Raw
  count : Nat
deriving DecidableEq, Repr

/-- Modes of the fast list (R42). -/
inductive FastMode where
  | off | periodic | triggered
deriving DecidableEq, Repr

/-- The channels of the fast list: AN8 to AN11, and AN12 (R40). -/
inductive FastChannel where
  | pot (ax : Axis)
  | supply
deriving DecidableEq, Repr

/-- The channel of a conversion (R40). -/
inductive Channel where
  | fast (ch : FastChannel)
  | slow (sn : Sensor)
deriving DecidableEq, Repr

/-- A conversion in progress (R55). -/
structure Conversion where
  channel : Channel
  start : Time
deriving DecidableEq, Repr

/-- The slow interval (R45, R55). -/
inductive SlowInterval where
  | tenth | one
deriving DecidableEq, Repr

/-- The result table and the scan state (R47, R55). -/
structure Scanner where
  pots : PerAxis FastEntry
  supply : FastEntry
  therms : PerSensor Thermistor
  fastMode : FastMode
  fastCursor : FastChannel
  nextBurst : Option Time
  burstLeft : Nat
  burstWaiting : Bool
  lastTrigger : Option Time
  slowCursor : Sensor
  slowInterval : SlowInterval
  nextSlow : Option Time
  slowHeld : Bool
  converting : Option Conversion
  rounds : BitVec 8
deriving DecidableEq, Repr

/-! ## Focus Compensator (06) -/

/-- A trim in flight: its target and the base target at its creation (R100). -/
structure Trim where
  target : Nat
  base : Nat
deriving DecidableEq, Repr

/-- The compensator's fields (R100); Tref and the choice are the Active Setup's. -/
structure FocusCompensator where
  table : DriftTable
  coef : Int
  zoomUsed : Nat
  comp : Int
  applied : Int
  trim : Option Trim
deriving DecidableEq, Repr

/-! ## Cooling (07) -/

/-- A governing temperature with the sensor that gave it (R118). -/
structure Governing where
  temp : Int
  sensor : Sensor
deriving DecidableEq, Repr

/-- A fan record (R118). -/
structure FanRecord where
  duty : Nat
  target : Nat
  governing : Option Governing
  demand : Nat
  failsafe : Bool
  override : Bool
  compensating : Bool
  faulted : Bool
  low : Nat
  good : Nat
  rpm : Option Nat
  pulses : Nat
  /-- the commanded duty was below 30 at some moment of the open window (R124) -/
  dipped : Bool
deriving DecidableEq, Repr

/-- What an evaluation took a fan's inputs to be: its mask in force and its curve (R112, R115, R116). -/
structure FanInputs where
  mask : SensorSet
  curve : Curve
deriving DecidableEq, Repr

/-- Cooling's configuration, fan records, light limit and timers (07). -/
structure Cooling where
  limits : PerSensor Limits
  curves : PerFan Curve
  masks : PerFan Masks
  fans : PerFan FanRecord
  light : Nat
  sensorTrip : Bool
  /-- the valid temperatures as the last evaluation found them (R123, R171) -/
  seen : PerSensor (Option Int)
  /-- the masks and the curves as the last evaluation found them: a change of curve, mask or orientation acts from the
  next evaluation (R115, R116, R137; log 39: DEDUCED) -/
  used : PerFan FanInputs
  nextFanUpdate : Option Time
  windowStart : Option Time
deriving DecidableEq, Repr

/-! ## Geometry Engine (08, 09) -/

/-- The STAGED bank (R149). -/
inductive Staged where
  | empty
  | computing (inputs : Inputs)
  | ready (table : Table)
deriving DecidableEq, Repr

/-- The frame timing state with its timer's expiry (R154). -/
inductive Timing where
  | absent
  | present (expiry : Time)
deriving DecidableEq, Repr

/-- The inputs, the two banks and the frame timing (R132, R149, R154). Every LIVE record carries `generation`. -/
structure GeometryEngine where
  active : Insets
  raster : Raster
  orient : Orientation
  live : Table
  generation : BitVec 8
  staged : Staged
  timing : Timing
deriving DecidableEq, Repr

/-! ## Lookup Port (09) -/

/-- Transaction states (R158). -/
inductive LookupState where
  | idle | index | record | void
deriving DecidableEq, Repr

/-- The lookup port (R158): a cursor of 0 to 63 names a band and 64 the frame record; `position` is that of the next byte
within the latched record, 0 without one. No row sends a single byte, so it stands at a record's first byte (log 7: DESIGN
CHOICE). -/
structure LookupPort where
  state : LookupState
  cursor : Fin 65
  latched : Option (List Byte)
  position : Nat
deriving DecidableEq, Repr

/-! ## Mode Controller (10) -/

/-- The operating modes (R162). -/
inductive Mode where
  | standby | starting | run | cooldown | trip
deriving DecidableEq, Repr

/-- The cause of a trip (R162). -/
inductive TripCause where
  | sensor | fan
deriving DecidableEq, Repr

/-- The last trip record (R162). -/
structure TripRecord where
  cause : TripCause
  sensors : SensorSet
  faultedFans : Nat
  enteredFrom : Mode
deriving DecidableEq, Repr

/-- The mode record and the two lines (R162, R163). -/
structure ModeController where
  mode : Mode
  previous : Option Mode
  entered : Time
  fanCheck : Option Time
  cooldown : Option Time
  thermalDone : Bool
  lastTrip : Option TripRecord
  lightPermit : Bool
  thermTrip : Bool
deriving DecidableEq, Repr

/-! ## Command Link (11) -/

/-- The status codes of responses (R177). -/
inductive Status where
  | ok | clamped | badRequest | badLength | badValue | slotFree | slotTaken | tableFull
  | notCalibrated | axisFault | inMotion | wrongMode
deriving DecidableEq, Repr

/-- A response (R174, R177). -/
structure Response where
  overrun : Bool
  status : Status
  payload : List Byte
deriving DecidableEq, Repr

/-- Execution states (R174). -/
inductive ExecState where
  | idle | executing
deriving DecidableEq, Repr

/-- The response slot (R174). A PENDING slot holds what the response will be, since the request has acted (log 4: DESIGN CHOICE). -/
inductive ResponseSlot where
  | empty
  | pending (r : Response)
  | full (r : Response)
deriving DecidableEq, Repr

/-- The answer that a fetch has fixed (R176). -/
inductive FetchAnswer where
  | noResponse
  | notReady
  | response (r : Response)
deriving DecidableEq, Repr

/-- The command link (R174, R176). -/
structure CommandLink where
  exec : ExecState
  slot : ResponseSlot
  fetch : Option FetchAnswer
deriving DecidableEq, Repr

/-! ## Alert Unit (11) -/

/-- The eleven alert flags, field by field; bit n is flag n (R179). -/
structure Alerts where
  set : FlagSet
  enable : FlagSet
  armed : FlagSet
  read : FlagSet
deriving DecidableEq, Repr

end Sys2Proof.Machine
end

