-- ==== Sys2Proof/Machine/PowerOn.lean ====
section
/-! DEFINITION. The values that every block takes at power-on reset. -/

namespace Sys2Proof.Machine

/-- Every slot FREE and no park slot (R6). -/
def resetPlacements : PlacementTable := ⟨Vector.replicate 24 none, none⟩

/-- The live record at power-on (R21). -/
def resetSetup : ActiveSetup where
  source := none
  modified := false
  base := ⟨none, none, none, none⟩
  pendingGeometry := none
  quiet := 1
  focusOn := true
  tref := none
  recallState := .none
  tag := 0
  current := none
  report := none

/-- A thermistor entry at power-on (R47). -/
def resetThermistor : Thermistor := ⟨.filling, [], false, none, none, 0⟩

/-- A fast entry at power-on (R47). -/
def resetFastEntry : FastEntry := ⟨none, 0⟩

/-- The result table and scan state at power-on, with the time at which the first slow conversion falls due (R47, R55).
-/
def resetScanner (nextSlow : Option Time) : Scanner where
  pots := ⟨resetFastEntry, resetFastEntry, resetFastEntry, resetFastEntry⟩
  supply := resetFastEntry
  therms := .make fun _ => resetThermistor
  fastMode := .off
  fastCursor := .pot .vshift
  nextBurst := none
  burstLeft := 0
  burstWaiting := false
  lastTrigger := none
  slowCursor := .s0
  slowInterval := .one
  nextSlow := nextSlow
  slowHeld := false
  converting := none
  rounds := 0

/-- An axis record at power-on (R58). -/
def resetAxis : AxisRecord := ⟨.uncalibrated, none, none, none⟩

/-- The queue at power-on (R82). -/
def resetQueue : MotionQueue := ⟨[], 4, none⟩

/-- The compensator at power-on (R100); the zoom used is the model's choice (log 9: DESIGN CHOICE). -/
def resetFocus : FocusCompensator := ⟨resetDrift, 0, 2000, 0, 0, none⟩

/-- A fan record at power-on (R118). -/
def resetFan : FanRecord := ⟨0, 0, none, 0, false, false, false, false, 0, 0, none, 0, true⟩

/-- Cooling at power-on (R110 to R112, R118, R129, R130), with the times of the next fan update and of the open tach
window's start; before the first evaluation the inputs of the last one stand at those in force (log 9: DESIGN CHOICE).
-/
def resetCooling (nextFanUpdate windowStart : Option Time) : Cooling where
  limits := resetLimits
  curves := resetCurves
  masks := resetMasks
  fans := ⟨resetFan, resetFan, resetFan⟩
  light := 100
  sensorTrip := false
  seen := .make fun _ => none
  used := .make fun fan => ⟨(resetMasks.get fan).ceiling, resetCurves.get fan⟩
  nextFanUpdate := nextFanUpdate
  windowStart := windowStart

/-- The Geometry Engine at power-on: the reset inputs and their identity table (R132, R149, R154, R155). -/
def resetGeometry : GeometryEngine where
  active := resetInputs.geometry
  raster := resetInputs.raster
  orient := resetInputs.orient
  live := computeTable resetInputs
  generation := 0
  staged := .empty
  timing := .absent

/-- The lookup port at power-on (R161). -/
def resetLookup : LookupPort := ⟨.idle, 0, none, 0⟩

/-- The mode record at power-on, entered at a time (R162). -/
def resetMode (entered : Time) : ModeController where
  mode := .standby
  previous := none
  entered := entered
  fanCheck := none
  cooldown := none
  thermalDone := false
  lastTrip := none
  lightPermit := false
  thermTrip := false

/-- The command link at power-on (R178). -/
def resetLink : CommandLink := ⟨.idle, .empty, none⟩

/-- The alert flags at power-on and after a soft reset: only TRIP's enable (R184). -/
def resetAlerts : Alerts := ⟨0, 0b00100000000, 0, 0⟩

end Sys2Proof.Machine
end

