-- ==== Sys2Proof/Machine/State.lean ====
section
/-! DEFINITION. The state of the whole part, why a command might have no next state, and the state right after reset. -/

namespace Sys2Proof.Machine

/-- The state of the part. -/
structure State where
  /-- the commands that wait, first in first out -/
  pending : List Instr
  /-- the model's clock (log 1: DESIGN CHOICE) -/
  now : Time
  /-- RESET_N holds the part: between POWER_ON_RESET and POWER_ON_RESET_END (R162, log 8: DESIGN CHOICE) -/
  held : Bool
  pt : PlacementTable
  setup : ActiveSetup
  scan : Scanner
  lens : PerAxis AxisRecord
  mq : MotionQueue
  fc : FocusCompensator
  cc : Cooling
  ge : GeometryEngine
  lp : LookupPort
  mc : ModeController
  cl : CommandLink
  au : Alerts
deriving DecidableEq, Repr

/-- No command stops the part: the spec names no fault that does, and a refused request is an ordinary response
(R177). -/
inductive Fault where
deriving DecidableEq, Repr

/-- Why a command has no next state. -/
inductive Refusal where
  /-- Raised by an arm of `exec` for a row without a meaning. No arm raises it: every row has its meaning. Safe, since
  the model would stop. -/
  | notModelled (mnemonic : String)
deriving DecidableEq, Repr

/-- The machine right after reset: POWER_ON_RESET_END has just been taken at time 0 (R162, log 8: DESIGN CHOICE). -/
def State.reset : State where
  pending := []
  now := 0
  held := false
  pt := resetPlacements
  setup := resetSetup
  scan := resetScanner (some slowIntervalStandby)
  lens := .make fun _ => resetAxis
  mq := resetQueue
  fc := resetFocus
  cc := resetCooling (some fanUpdatePeriod) (some 0)
  ge := resetGeometry
  lp := resetLookup
  mc := resetMode 0
  cl := resetLink
  au := resetAlerts

end Sys2Proof.Machine
end

