-- ==== Sys2Proof/Machine/Ops.lean ====
section
/-! DEFINITION. The named operations over the state that every block uses: updating one block, reading the axes and the
queue, and the two ways a command acts: as a request of the command link, or as an event that must be due. -/

namespace Sys2Proof.Machine

/-! ## Updates of one block -/

/-- The state with the Placement Table changed. -/
def State.mapPt (s : State) (f : PlacementTable → PlacementTable) : State := { s with pt := f s.pt }
/-- The state with the Active Setup changed. -/
def State.mapSetup (s : State) (f : ActiveSetup → ActiveSetup) : State := { s with setup := f s.setup }
/-- The state with the Measurement Scanner changed. -/
def State.mapScan (s : State) (f : Scanner → Scanner) : State := { s with scan := f s.scan }
/-- The state with one axis record changed. -/
def State.mapAxis (s : State) (ax : Axis) (f : AxisRecord → AxisRecord) : State :=
  { s with lens := s.lens.set ax (f (s.lens.get ax)) }
/-- The state with the Motion Queue changed. -/
def State.mapMq (s : State) (f : MotionQueue → MotionQueue) : State := { s with mq := f s.mq }
/-- The state with the Focus Compensator changed. -/
def State.mapFc (s : State) (f : FocusCompensator → FocusCompensator) : State := { s with fc := f s.fc }
/-- The state with Cooling changed. -/
def State.mapCc (s : State) (f : Cooling → Cooling) : State := { s with cc := f s.cc }
/-- The state with the Geometry Engine changed. -/
def State.mapGe (s : State) (f : GeometryEngine → GeometryEngine) : State := { s with ge := f s.ge }
/-- The state with the Lookup Port changed. -/
def State.mapLp (s : State) (f : LookupPort → LookupPort) : State := { s with lp := f s.lp }
/-- The state with the Mode Controller changed. -/
def State.mapMc (s : State) (f : ModeController → ModeController) : State := { s with mc := f s.mc }
/-- The state with the Command Link changed. -/
def State.mapCl (s : State) (f : CommandLink → CommandLink) : State := { s with cl := f s.cl }
/-- The state with the Alert Unit changed. -/
def State.mapAu (s : State) (f : Alerts → Alerts) : State := { s with au := f s.au }

/-! ## Reading the axes and the queue -/

/-- An axis has a running motion (R56: it is MOVING). -/
def State.moving (s : State) (ax : Axis) : Bool := (s.lens.get ax).motion.isSome

/-- At least one axis is MOVING. -/
def State.anyMoving (s : State) : Bool := axes.any s.moving

/-- The drive units held by the running motions (R95, R98). -/
def State.unitsHeld (s : State) : Nat := (axes.map fun ax => if s.moving ax then driveUnits ax else 0).sum

/-- The pending entry of an axis (R80: at most one). -/
def State.entryOf (s : State) (ax : Axis) : Option Entry := s.mq.entries.find? (·.axis = ax)

/-- The newest raw reading handed over for an axis (R44, R56). -/
def State.reading (s : State) (ax : Axis) : Option Raw := (s.scan.pots.get ax).raw

/-- The reading that a motion, a capture or a learn works from: the newest one, or a free value before the first
(log 11: DESIGN CHOICE). -/
def State.rawNow (s : State) (ax : Axis) : Raw := (s.reading ax).getD (Config.unreadPot (axisNumber ax) s.now)

/-- The newest motor supply sample, in millivolts (R44). -/
def State.supply (s : State) : Option Nat := s.scan.supply.raw.map supplyMillivolts

/-- The newest supply sample lies below the pause limit (R69). -/
def State.supplyIsLow (s : State) : Bool := s.supply.any (· < supplyLow)

/-- The filtered temperature of a sensor if the sensor is valid (R53). -/
def State.validTemp (s : State) (sn : Sensor) : Option Int :=
  let t := s.scan.therms.get sn
  if t.state = .valid then t.filtered else none

/-- A time has been set and the clock has reached it. -/
def State.reached (s : State) (due : Option Time) : Bool := due.any (· ≤ s.now)

/-! ## Requests -/

/-- What the owning block returns for a request (R175). -/
structure Reply where
  status : Status
  payload : List Byte
deriving DecidableEq, Repr

/-- A refused request: its status, no payload, no change of state (R175, R177). -/
def refuse (status : Status) (s : State) : Reply × State := (⟨status, []⟩, s)

/-- OK or CLAMPED, as a clamp changed a value of the request or not (R177). -/
def clampedIf (b : Bool) : Status := if b then .clamped else .ok

/-- An accepted request: status, payload and the state after it (R175). -/
def accept (status : Status) (payload : List Byte) (s : State) : Reply × State := (⟨status, payload⟩, s)

/-- The length check of the Command Link for a request of one fixed length (R175, R187). -/
def ofLength (n : Nat) (p : Payload) (body : State → Reply × State) (s : State) : Reply × State :=
  if p.length = n then body s else refuse .badLength s

/-- The overrun marker of the pending response is set (R174). The lost frame's transaction ends any earlier fetch. -/
def markOverrun (c : CommandLink) : CommandLink :=
  match c.slot with
  | .pending r => { c with slot := .pending { r with overrun := true }, fetch := none }
  | .empty | .full _ => { c with fetch := none }

/-- The link after a request has acted: EXECUTING, its response waiting to be formed (R174, log 4: DESIGN CHOICE). -/
def executing (r : Reply) : CommandLink := ⟨.executing, .pending ⟨false, r.status, r.payload⟩, none⟩

/-- A complete frame reaches the Command Link (R174). While a request executes the frame is lost and sets the overrun
marker. Otherwise an unfetched response is discarded and the frame is executed. While RESET_N is held nothing happens
(log 8: DESIGN CHOICE). -/
def takeFrame (handler : State → Reply × State) (s : State) : Host.Outcome State Fault Refusal :=
  if s.held then .next s
  else match s.cl.exec with
    | .executing => .next (s.mapCl markOverrun)
    | .idle => .next ((handler s).2.mapCl fun _ => executing (handler s).1)

/-- A complete frame of a known request: a length above 48 is BAD_LENGTH, and otherwise the owning block acts (R173,
R175). -/
def request (handler : Payload → State → Reply × State) (p : Payload) (s : State) :
    Host.Outcome State Fault Refusal :=
  takeFrame (if maxPayload < p.length then refuse .badLength else handler p) s

/-! ## Events -/

/-- An event of the part or its surroundings: it acts when it can occur in the state and RESET_N is not held; a command
whose event cannot occur changes nothing (log 2: DESIGN CHOICE, log 8: DESIGN CHOICE). -/
def event (due : Bool) (effect : State → State) (s : State) : Host.Outcome State Fault Refusal :=
  .next (if !s.held && due then effect s else s)

end Sys2Proof.Machine
end

