-- ==== Sys2Proof/Machine/Flags.lean ====
section
/-! DEFINITION. The alert flags: every change of their four fields (11_command_link_and_alerts, R179 to R184). -/

namespace Sys2Proof.Machine

/-- The eleven flags, in the order of R179. -/
inductive Flag where
  | motionEnd | axisFault | recallDone | geometryLive | fanFault | sensorFault | derate | override | trip
  | modeChange | timingLost
deriving DecidableEq, Repr

/-- The number of a flag (R179). -/
def flagNumber : Flag → Nat
  | .motionEnd => 0 | .axisFault => 1 | .recallDone => 2 | .geometryLive => 3 | .fanFault => 4 | .sensorFault => 5
  | .derate => 6 | .override => 7 | .trip => 8 | .modeChange => 9 | .timingLost => 10

/-- The set that holds one flag (R185). -/
def flagBit (f : Flag) : FlagSet := 1#11 <<< flagNumber f

/-- An occurrence of a flag: it becomes set, its read marker no, and it is armed if enabled or if it is TRIP (R179). -/
def occurIn (f : Flag) (a : Alerts) : Alerts where
  set := a.set ||| flagBit f
  enable := a.enable
  armed := a.armed ||| (flagBit f &&& (a.enable ||| flagBit .trip))
  read := a.read &&& ~~~flagBit f

/-- A block hands an occurrence to the Alert Unit (R179). -/
def occur (f : Flag) (s : State) : State := s.mapAu (occurIn f)

/-- An occurrence if a condition holds. -/
def occurIf (b : Bool) (f : Flag) (s : State) : State := if b then occur f s else s

/-- AL_ENABLE's effect: the enables follow the mask, TRIP's staying yes, and a flag newly disabled is disarmed (R180). -/
def enableIn (mask : FlagSet) (a : Alerts) : Alerts :=
  let enable := mask ||| flagBit .trip
  { a with enable := enable, armed := a.armed &&& ~~~(a.enable &&& ~~~enable) }

/-- AL_READ's effect: every set flag is read-marked (R181). -/
def readIn (a : Alerts) : Alerts := { a with read := a.read ||| a.set }

/-- The flags that an acknowledgement of a mask clears: named, set and read-marked (R182). -/
def ackCleared (mask : FlagSet) (a : Alerts) : FlagSet := mask &&& a.set &&& a.read

/-- AL_ACK's effect (R182). -/
def ackIn (mask : FlagSet) (a : Alerts) : Alerts :=
  let kept := ~~~ackCleared mask a
  { a with set := a.set &&& kept, armed := a.armed &&& kept, read := a.read &&& kept }

/-- The flags after a soft reset: power-on values, with TRIP set and armed again if the mode is TRIP (R184). -/
def softResetAlerts (mode : Mode) : Alerts := if mode = .trip then occurIn .trip resetAlerts else resetAlerts

/-- ATTN_N is low exactly while a flag is armed (R183). -/
def attentionLow (a : Alerts) : Bool := a.armed ≠ 0

end Sys2Proof.Machine
end

