-- ==== Sys2Proof/Machine/Operands.lean ====
section
/-! DEFINITION. The fields of request payloads, the placement record, and the codes of responses (12, R185 to R187). -/

namespace Sys2Proof.Machine

/-! ## Fields of a request payload -/

/-- The byte at a position of a payload, as a number; 0 past its end. -/
def u8 (p : Payload) (i : Nat) : Nat := (p.getD i 0).toNat

/-- An unsigned two-byte field, least significant byte first (R185). -/
def u16 (p : Payload) (i : Nat) : Nat := u8 p i + 256 * u8 p (i + 1)

/-- A signed two-byte field, two's complement (R185). -/
def s16 (p : Payload) (i : Nat) : Int := (BitVec.ofNat 16 (u16 p i)).toInt

/-- The slot index of a slot number of 1 to 24 (R8). -/
def slotOf (n : Nat) : Option (Fin 24) := if h : 1 ≤ n ∧ n ≤ 24 then some ⟨n - 1, by omega⟩ else none

/-- The slot number of a slot index (R1). -/
def slotNumber (i : Fin 24) : Nat := i.val + 1

/-- The slot number of an optional slot, 0 for none (R15, R39). -/
def optSlotNumber (o : Option (Fin 24)) : Nat := o.elim 0 slotNumber

/-- A label of 0 to 12 bytes from hex 20 to hex 7E (R2). -/
def labelOk (l : List Byte) : Bool := l.length ≤ 12 && l.all fun c => 0x20 ≤ c.toNat && c.toNat ≤ 0x7E

/-- The alert mask of a payload, with bits 11 to 15 required 0 (R180, R182). -/
def maskOf (p : Payload) : Option FlagSet := if u16 p 0 < 2048 then some (BitVec.ofNat 11 (u16 p 0)) else none

/-! ## The placement record (R186) -/

/-- Bit `k` of a number. -/
def bit (n k : Nat) : Bool := n.testBit k

/-- The number of target bits of a presence byte. -/
def targetCount (presence : Nat) : Nat := (axes.filter fun ax => bit presence (axisNumber ax)).length

/-- The length of a PL_CREATE or PL_WRITE payload that its own fields imply (R186). -/
def recordLength (p : Payload) : Nat :=
  5 + u8 p 4 + 2 * targetCount (u8 p 1) + if bit (u8 p 1) 4 then 12 else 0

/-- The offset of an axis's target, if present: the targets follow the label in axis order (R186). -/
def targetOffset (p : Payload) (ax : Axis) : Nat :=
  5 + u8 p 4 + 2 * (axes.filter fun a => axisNumber a < axisNumber ax && bit (u8 p 1) (axisNumber a)).length

/-- The label bytes of a record (R186). -/
def recordLabel (p : Payload) : List Byte := (p.drop 5).take (u8 p 4)

/-- An axis's target of a record as the frame gives it (R3, R186). -/
def recordTarget (p : Payload) (ax : Axis) : Option Nat :=
  if bit (u8 p 1) (axisNumber ax) then some (u16 p (targetOffset p ax)) else none

/-- The six insets of a record as the frame gives them (R4, R186). -/
def recordInsets (p : Payload) : Option Insets :=
  let g := 5 + u8 p 4 + 2 * targetCount (u8 p 1)
  if bit (u8 p 1) 4 then
    some ⟨u16 p g, u16 p (g + 2), u16 p (g + 4), u16 p (g + 6), u16 p (g + 8), u16 p (g + 10)⟩
  else none

/-- The record that a frame stores: targets, insets and quiet level clamped (R3, R4, R5). -/
def storedRecord (r : Raster) (p : Payload) : Placement where
  label := recordLabel p
  targets := .make fun ax => (recordTarget p ax).map (min · 4000)
  geometry := (recordInsets p).map (reclamp r)
  quiet := min (u8 p 2) 3
  focusOn := u8 p 3 = 1

/-- Whether the clamp changed any value of the frame's record (R7). -/
def recordClamped (r : Raster) (p : Payload) : Bool :=
  axes.any (fun ax => (recordTarget p ax).any (4000 < ·))
    || (recordInsets p).any (fun g => reclamp r g ≠ g) || 3 < u8 p 2

/-- Checks 3, 4 and 5 of R7: presence bits, label, focus choice. -/
def recordOk (p : Payload) : Bool := u8 p 1 < 32 && labelOk (recordLabel p) && u8 p 3 ≤ 1

/-- Six insets as 12 bytes (R186). -/
def insetBytes (g : Insets) : List Byte :=
  le16 g.top ++ le16 g.bottom ++ le16 g.tl ++ le16 g.tr ++ le16 g.bl ++ le16 g.br

/-- The record as PL_READ sends it (R186). -/
def recordBytes (r : Placement) : List Byte :=
  [marks ((r.targets.toList.map Option.isSome) ++ [r.geometry.isSome]), byte r.quiet, mark r.focusOn,
    byte r.label.length] ++ r.label ++ (r.targets.toList.flatMap fun t => t.elim [] le16)
    ++ r.geometry.elim [] insetBytes

/-! ## Codes (R177, R185) -/

/-- Code of a status (R177). -/
def statusCode : Status → Nat
  | .ok => 0 | .clamped => 1 | .badRequest => 2 | .badLength => 3 | .badValue => 4 | .slotFree => 5
  | .slotTaken => 6 | .tableFull => 7 | .notCalibrated => 8 | .axisFault => 9 | .inMotion => 10 | .wrongMode => 11

/-- Code of an axis state. -/
def stateCode : AxisState → Nat
  | .uncalibrated => 0 | .idle => 1 | .moving => 2 | .fault => 3

/-- Code of an origin. -/
def originCode : Origin → Nat
  | .move => 0 | .ofRecall => 1 | .trim => 2 | .park => 3 | .jog => 4 | .learn => 5

/-- Code of an origin where there may be none: hex FF (R185). -/
def optOriginCode (o : Option Origin) : Nat := o.elim 0xFF originCode

/-- Code of a phase. -/
def phaseCode : Phase → Nat
  | .drive => 0 | .slow => 1 | .creep => 2 | .overshoot => 3 | .settle => 4 | .correct => 5 | .paused => 6
  | .brake => 7 | .learnNeg => 8 | .learnPos => 9 | .learnReturn => 10 | .jogCreep => 11 | .jogSlow => 12
  | .jogFull => 13

/-- Code of an end status among the axis statuses. -/
def endCode : EndStatus → Nat
  | .arrived => 1 | .stalled => 2 | .timeout => 3 | .supplyLow => 4 | .stopped => 5 | .retargeted => 6
  | .unsettled => 7 | .jogEnd => 8 | .learnOk => 9 | .learnFail => 10

/-- Code of an axis's progress among the axis statuses. -/
def progressCode : Progress → Nat
  | .notNamed => 0 | .waiting => 12 | .running => 13 | .ended st => endCode st

/-- Code of a report's status among the axis statuses. -/
def reportCode : ReportStatus → Nat
  | .notNamed => 0 | .unfinished => 11 | .ended st => endCode st

/-- Code of a duty class. -/
def dutyCode : Duty → Nat
  | .full => 0 | .slow => 1 | .creep => 2

/-- Code of a recall state. -/
def recallCode : RecallState → Nat
  | .none => 0 | .moving => 1 | .applying => 2

/-- Code of an outcome. -/
def outcomeCode : RecallOutcome → Nat
  | .complete => 0 | .partly => 1 | .superseded => 2 | .abandoned => 3

/-- Code of a mode. -/
def modeCode : Mode → Nat
  | .standby => 0 | .starting => 1 | .run => 2 | .cooldown => 3 | .trip => 4

/-- Code of an orientation. -/
def orientCode : Orientation → Nat
  | .floorFront => 0 | .floorRear => 1 | .ceilingFront => 2 | .ceilingRear => 3

/-- The orientation of a code (R137). -/
def orientOf : Nat → Option Orientation
  | 0 => some .floorFront | 1 => some .floorRear | 2 => some .ceilingFront | 3 => some .ceilingRear | _ => none

/-- Code of a sensor state. -/
def sensorCode : SensorState → Nat
  | .filling => 0 | .valid => 1 | .faulted => 2

/-- Code of a fast mode. -/
def fastCode : FastMode → Nat
  | .off => 0 | .periodic => 1 | .triggered => 2

/-- Code of the STAGED state. -/
def stagedCode : Staged → Nat
  | .empty => 0 | .computing _ => 1 | .ready _ => 2

/-- Code of the timing state. -/
def timingCode : Timing → Nat
  | .absent => 0 | .present _ => 1

/-- The origin of a job. -/
def originOf : Job → Origin
  | .move _ => .move | .ofRecall _ _ => .ofRecall | .trim _ => .trim | .park _ => .park | .jog _ _ => .jog
  | .learn => .learn

/-- The target of a positioning job (R80). -/
def jobTarget : Job → Option Nat
  | .move t => some t | .ofRecall t _ => some t | .trim t => some t | .park t => some t | .jog _ _ => none
  | .learn => none

/-- The recall tag of a job (R80). -/
def jobTag : Job → Option Nat
  | .ofRecall _ g => some g
  | .move _ | .trim _ | .park _ | .jog _ _ | .learn => none

/-- The direction and deadline of a jog (R80). -/
def jobJog : Job → Option (Bool × Time)
  | .jog up d => some (up, d)
  | .move _ | .ofRecall _ _ | .trim _ | .park _ | .learn => none

/-- The bytes of a response as a fetch sends them: status with the overrun marker in bit 7, length, payload (R176). -/
def responseBytes (r : Response) : List Byte :=
  byte (statusCode r.status + if r.overrun then 128 else 0) :: byte r.payload.length :: r.payload

end Sys2Proof.Machine
end

