-- ==== Sys2Proof/Machine/MotionRules.lean ====
section
/-! DEFINITION. The course of one motion, as functions of its record: positions, legs, settle, stall, pause, brake, jog
and learn (04_lens_axes, R59 to R78). -/

namespace Sys2Proof.Machine

/-- The position of a raw reading under a calibration, in lens counts (R59). -/
def normalise (c : Calibration) (raw : Raw) : Nat :=
  let neg : Int := c.neg.toNat
  let pos : Int := c.pos.toNat
  let sign : Int := if neg < pos then 1 else -1
  let a := neg + 24 * sign
  let b := pos - 24 * sign
  clampNat (roundHalfUp ((raw.toNat - a) * 4000 * sign) (b - a).natAbs) 4000

/-- Whether two end-stop readings make a valid calibration (R59, R60). -/
def validSpan (neg pos : Raw) : Bool := 1000 ≤ (pos.toNat - neg.toNat : Int).natAbs

/-- Where a motion stands, in lens counts under a calibration; without one, the raw reading itself. -/
def countsOf (cal : Option Calibration) (raw : Raw) : Nat := cal.elim raw.toNat fun c => normalise c raw

/-- The distance of two positions. -/
def distance (a b : Nat) : Nat := (a - b : Int).natAbs

/-- The phases in which the drive is on (R61). -/
def driveOn : Phase → Bool
  | .drive | .slow | .creep | .overshoot | .correct | .learnNeg | .learnPos | .learnReturn
  | .jogCreep | .jogSlow | .jogFull => true
  | .settle | .paused | .brake => false

/-- A motion of origin MOVE, RECALL, TRIM or PARK (section 4.4). -/
def isPositioning (m : Motion) : Bool := (jobTarget m.job).isSome

/-- A jog. -/
def isJog (m : Motion) : Bool := (jobJog m.job).isSome

/-- A learn. -/
def isLearn (m : Motion) : Bool := m.job = .learn

/-- What becomes of a motion: it goes on, or it ends with a status. -/
inductive Fate where
  | goes (m : Motion)
  | ends (status : EndStatus)
deriving DecidableEq, Repr

/-! ## Legs -/

/-- The duty class at a distance from the leg end point (R64). -/
def dutyAt (d : Nat) : Duty := if 200 ≤ d then .full else if 40 ≤ d then .slow else .creep

/-- The phase of a final leg at a distance (R64). -/
def finalPhaseAt (d : Nat) : Phase := if 200 ≤ d then .drive else if 40 ≤ d then .slow else .creep

/-- The duty class, and for a final leg the phase, chosen afresh at a position (R64). An overshoot and a return leg keep
their phase; a correction keeps CREEP duty. -/
def chooseDuty (pos : Nat) (m : Motion) : Motion :=
  let d := distance pos (m.legEnd.getD pos)
  match m.phase with
  | .drive | .slow | .creep => { m with phase := finalPhaseAt d, duty := dutyAt d }
  | .overshoot | .learnReturn => { m with duty := dutyAt d }
  | .correct => { m with duty := .creep }
  | .settle | .paused | .brake | .learnNeg | .learnPos | .jogCreep | .jogSlow | .jogFull => m

/-- A leg toward an end point starts from a position, in a phase (R64): the drive turns on, which opens the stall
grace. -/
def startLeg (now : Time) (phase : Phase) (target pos : Nat) (m : Motion) : Motion :=
  chooseDuty pos { m with
    phase := phase, legEnd := some target, sense := if pos < target then .positive else .negative
    driveStart := now, legStart := now, window := [], between := false, settle := none }

/-- The leg's drive turns off at this position: within 3 counts of the end point, or at or past it in the drive sense
(R64). -/
def legDone (pos : Nat) (m : Motion) : Bool :=
  match m.legEnd with
  | none => false
  | some e => distance pos e ≤ 3 || (m.sense = .positive && e ≤ pos) || (m.sense = .negative && pos ≤ e)

/-- The motion enters SETTLE, its 30 ms wait starting now (R65). There is no present leg any more. -/
def enterSettle (now : Time) (m : Motion) : Motion :=
  { m with
    phase := .settle, legEnd := none, sense := .off, between := false, window := []
    settle := some ⟨now, true, 0⟩ }

/-- A leg's drive turns off: an overshoot leg waits for the next sample, a learn's return ends LEARN_OK, and a final or
correction leg settles (R63, R64, R77). -/
def legOff (now : Time) (m : Motion) : Fate :=
  match m.phase with
  | .overshoot => .goes { m with between := true, window := [] }
  | .learnReturn => .ends .learnOk
  | .drive | .slow | .creep | .correct | .settle | .paused | .brake | .learnNeg | .learnPos
  | .jogCreep | .jogSlow | .jogFull => .goes (enterSettle now m)

/-! ## Stall (R68) -/

/-- The measure in which movement is taken: raw steps in LEARN_NEG and LEARN_POS and without a calibration, lens counts
otherwise (R68). -/
def stallMeasure (cal : Option Calibration) (phase : Phase) (raw : Raw) : Nat :=
  match phase with
  | .learnNeg | .learnPos => raw.toNat
  | .drive | .slow | .creep | .overshoot | .settle | .correct | .paused | .brake | .learnReturn
  | .jogCreep | .jogSlow | .jogFull => countsOf cal raw

/-- The samples that a later judgment may need: newest first, down to the first that is 150 ms old (log 22: DEDUCED). -/
def keepWindow (now : Time) : List (Time × Raw) → List (Time × Raw)
  | [] => []
  | x :: xs => if x.1 + stallWindow ≤ now then [x] else x :: keepWindow now xs

/-- A drive-on sample joins the stall window. -/
def pushSample (now : Time) (raw : Raw) (m : Motion) : Motion :=
  { m with window := (now, raw) :: keepWindow now m.window }

/-- A stall is judged on the present sample: drive on for 250 ms and movement below 3 against the sample taken 150 ms
earlier (R68), or the newest one at least that old (log 22: DEDUCED). -/
def stalled (cal : Option Calibration) (now : Time) (raw : Raw) (m : Motion) : Bool :=
  m.driveStart + stallGrace ≤ now
    && (m.window.find? fun x => x.1 + stallWindow ≤ now).any fun x =>
      distance (stallMeasure cal m.phase raw) (stallMeasure cal m.phase x.2) < 3

/-! ## Brake and pause -/

/-- The motion enters BRAKE with its end status fixed (R71). Its leg end point is kept, and LN_QUERY goes on reporting it
(R79, log 38: DESIGN CHOICE). -/
def enterBrake (now : Time) (status : EndStatus) (m : Motion) : Motion :=
  { m with phase := .brake, brake := some ⟨status, now⟩, window := [] }

/-- An end request taken by a motion (R71). -/
def endRequest (now : Time) (status : EndStatus) (m : Motion) : Fate :=
  match m.phase with
  | .brake => .goes m
  | .settle | .paused => .ends status
  | .drive | .slow | .creep | .overshoot | .correct | .learnNeg | .learnPos | .learnReturn
  | .jogCreep | .jogSlow | .jogFull => .goes (enterBrake now status m)

/-- The status with which a motion ends when the drive is cut at once: the one fixed in BRAKE, or the one given (R72). -/
def cutStatus (status : EndStatus) (m : Motion) : EndStatus := m.brake.elim status (·.status)

/-- A motion that is not in BRAKE or PAUSED enters PAUSED (R69). -/
def pauseMotion (now : Time) (m : Motion) : Motion :=
  match m.phase with
  | .brake | .paused => m
  | .drive | .slow | .creep | .overshoot | .settle | .correct | .learnNeg | .learnPos | .learnReturn
  | .jogCreep | .jogSlow | .jogFull =>
    { m with phase := .paused, pause := some ⟨m.phase, now, none⟩, window := [] }

/-- A supply sample at a motion: it pauses a motion below 10 800 mV, and starts or empties the resume timer of a paused
one at 11 200 mV (R69, R70). -/
def supplyAtMotion (now : Time) (mv : Nat) (m : Motion) : Motion :=
  match m.phase, m.pause with
  | .paused, some p => { m with pause := some { p with resume := if supplyGood ≤ mv then some (p.resume.getD now) else none } }
  | _, _ => if mv < supplyLow then pauseMotion now m else m

/-- The jog stage at a time since dispatch (R74). -/
def jogStage (since : Time) : Phase := if since < jogSlowAt then .jogCreep else if since < jogFullAt then .jogSlow else .jogFull

/-- The duty class of a jog stage (R74). -/
def jogDuty : Phase → Duty
  | .jogSlow => .slow
  | .jogFull => .full
  | .drive | .slow | .creep | .overshoot | .settle | .correct | .paused | .brake | .learnNeg | .learnPos
  | .learnReturn | .jogCreep => .creep

/-- The jog runs at the stage that its time since dispatch gives (R74). -/
def atJogStage (now : Time) (m : Motion) : Motion :=
  let stage := jogStage (now - m.dispatched)
  { m with phase := stage, duty := jogDuty stage }

/-- A paused motion resumes the phase it paused from (R70): a leg with its drive start set and its duty chosen afresh,
or turned off if it is done (R64); a settle afresh; a jog at its stage; a learn leg driving again. -/
def resumeMotion (cal : Option Calibration) (now : Time) (raw : Raw) (m : Motion) : Fate :=
  let pos := countsOf cal raw
  let r := { m with pause := none, phase := m.pause.elim m.phase (·.phase), driveStart := now, window := [] }
  match r.phase with
  | .settle => .goes (enterSettle now r)
  | .jogCreep | .jogSlow | .jogFull => .goes (atJogStage now r)
  | .learnNeg | .learnPos | .paused | .brake => .goes r
  | .drive | .slow | .creep | .overshoot | .correct | .learnReturn =>
    if legDone pos r then legOff now r else .goes (chooseDuty pos { r with between := false })

/-! ## The dispatch step (R61, R62, R74, R76) -/

/-- The approach direction of an axis, increasing or decreasing; none for HSHIFT, which approaches as it travels (R62). -/
def approachUp (ax : Axis) (o : Orientation) : Option Bool :=
  match ax with
  | .vshift => some !(isCeiling o)
  | .zoom | .focus => some true
  | .hshift => none

/-- The overshoot point of a motion (R63). -/
def overshootPoint (up : Bool) (target : Nat) : Nat :=
  clampNat (if up then (target : Int) + 60 else (target : Int) - 60) 4000

/-- The motion record at a dispatch, before its first phase (R61). -/
def newMotion (now : Time) (ret : AxisState) (job : Job) : Motion where
  job := job
  returnState := ret
  phase := .settle
  legEnd := none
  sense := .off
  duty := .creep
  between := false
  driveStart := now
  legStart := now
  dispatched := now
  corrections := 0
  settle := none
  pause := none
  brake := none
  learn := none
  learned := false
  window := []

/-- The first phase of a positioning motion: SETTLE within 3 counts of the target, otherwise an overshoot leg if the
travel is opposite to the approach and the overshoot point is not the target itself, otherwise the final leg (R62,
R63). -/
def startPositioning (ax : Axis) (o : Orientation) (now : Time) (pos target : Nat) (m : Motion) : Motion :=
  let up := decide (pos < target)
  let beyond := overshootPoint up target
  if distance pos target ≤ 3 then enterSettle now m
  else if (approachUp ax o).any (· ≠ up) && beyond ≠ target then startLeg now .overshoot beyond pos m
  else startLeg now .drive target pos m

/-- A jog stands at its soft limit: 0 while jogging down or 4000 while jogging up, on an axis with a calibration (R75). -/
def atSoftLimit (cal : Option Calibration) (up : Bool) (raw : Raw) : Bool :=
  cal.any fun c => normalise c raw = if up then 4000 else 0

/-- The dispatch step of a motion: its first phase, or the immediate end of a jog at its soft limit (R62, R74 to R76). -/
def firstPhase (ax : Axis) (o : Orientation) (cal : Option Calibration) (now : Time) (raw : Raw) (m : Motion) : Fate :=
  match m.job with
  | .move t | .ofRecall t _ | .trim t | .park t => .goes (startPositioning ax o now (countsOf cal raw) t m)
  | .jog up _ =>
    if atSoftLimit cal up raw then .ends .jogEnd
    else .goes { m with phase := .jogCreep, duty := .creep, sense := if up then .positive else .negative }
  | .learn =>
    .goes { m with phase := .learnNeg, duty := .slow, sense := .negative, learn := some ⟨raw, none, none⟩ }

/-- A jog dispatched after its deadline ends JOG_END: through a brake, or at once if it is paused (R75, R89). -/
def afterDeadline (now : Time) (m : Motion) : Fate :=
  match m.job with
  | .jog _ d => if d ≤ now then endRequest now .jogEnd m else .goes m
  | .move _ | .ofRecall _ _ | .trim _ | .park _ | .learn => .goes m

/-- A motion's fate carried into a further rule. -/
def Fate.andThen (f : Fate) (g : Motion → Fate) : Fate :=
  match f with
  | .goes m => g m
  | .ends st => .ends st

/-- A motion at its dispatch: its dispatch step, then the pause of a supply below 10 800 mV, then a deadline already
passed (R61, R69, R89). -/
def dispatchMotion (ax : Axis) (o : Orientation) (cal : Option Calibration) (now : Time) (raw : Raw) (low : Bool)
    (ret : AxisState) (job : Job) : Fate :=
  (firstPhase ax o cal now raw (newMotion now ret job)).andThen fun m =>
    afterDeadline now (if low then pauseMotion now m else m)

/-! ## Position samples (R63 to R66, R68, R75 to R77) -/

/-- What a position sample brings about: the motion's fate, and the calibration that a learn has set. -/
structure SampleResult where
  fate : Fate
  learned : Option Calibration
deriving DecidableEq, Repr

/-- A sample judged in SETTLE (R65, R66). -/
def settleSample (now : Time) (pos target : Nat) (m : Motion) : Fate :=
  match m.settle with
  | none => .goes m
  | some st =>
    if st.waiting then .goes m
    else if distance pos target ≤ 3 then
      if st.count + 1 = 5 then .ends .arrived else .goes { m with settle := some { st with count := st.count + 1 } }
    else if m.corrections < 3 then
      .goes (startLeg now .correct target pos { m with corrections := m.corrections + 1 })
    else .ends .unsettled

/-- A sample at a leg with its drive on (R64, R68). Where it is done and stalled on the same sample, `first` says
whether the stall is taken first (log 13: DESIGN CHOICE). -/
def legSample (cal : Option Calibration) (now : Time) (raw : Raw) (first : Bool) (m : Motion) : Fate :=
  let pos := countsOf cal raw
  let stall := stalled cal now raw m
  if legDone pos m && !(stall && first) then legOff now m
  else if stall then .ends .stalled
  else .goes (pushSample now raw (chooseDuty pos m))

/-- The final leg begins at the sample after an overshoot leg's end (R63); a leg that is done at its first sample turns
off at once (log 23: DEDUCED). -/
def finalLegSample (now : Time) (pos target : Nat) (m : Motion) : Fate :=
  let leg := startLeg now .drive target pos m
  if legDone pos leg then legOff now leg else .goes leg

/-- A sample at a running jog with its drive on (R68, R75). One that falls while the jog is PAUSED comes to no judgment,
also at the soft limit (`sampleMotion`, log 41: DESIGN CHOICE). -/
def jogSample (cal : Option Calibration) (now : Time) (raw : Raw) (first up : Bool) (m : Motion) : Fate :=
  let stall := stalled cal now raw m
  if atSoftLimit cal up raw && !(stall && first) then endRequest now .jogEnd m
  else if stall then .ends (if m.returnState = .idle then .stalled else .jogEnd)
  else .goes (pushSample now raw m)

/-- LEARN_POS begins at the sample after LEARN_NEG's stall (R76). -/
def startLearnPos (now : Time) (m : Motion) : Motion :=
  { m with phase := .learnPos, sense := .positive, duty := .slow, driveStart := now, legStart := now, window := []
           between := false }

/-- The end of LEARN_POS: the span is judged and the return leg begins, or the learn ends (R77). -/
def learnSpan (now : Time) (raw : Raw) (m : Motion) (l : LearnReadings) : SampleResult :=
  let neg := l.neg.getD raw
  if validSpan neg raw then
    let c : Calibration := ⟨neg, raw⟩
    let pos := normalise c raw
    let back := normalise c l.atDispatch
    let m' := { m with learn := some { l with pos := some raw }, learned := true }
    ⟨if distance back pos ≤ 3 then .ends .learnOk else .goes (startLeg now .learnReturn back pos m'), some c⟩
  else ⟨.ends .learnFail, none⟩

/-- A sample at LEARN_NEG or LEARN_POS (R76, R77). -/
def learnSample (now : Time) (raw : Raw) (m : Motion) : SampleResult :=
  match m.learn with
  | none => ⟨.goes m, none⟩
  | some l =>
    if m.between then ⟨.goes (startLearnPos now m), none⟩
    else if stalled none now raw m then
      if m.phase = .learnNeg then ⟨.goes { m with learn := some { l with neg := some raw }, between := true, window := [] }, none⟩
      else learnSpan now raw m l
    else ⟨.goes (pushSample now raw m), none⟩

/-- A position sample at a running motion, by its phase. In PAUSED and BRAKE, with the drive off, no position sample is
judged: a jog that is PAUSED at its soft limit ends at the first sample after its resume, since R75 names PAUSED for the
deadline alone and leaves this case of the soft limit open (log 41: DESIGN CHOICE). -/
def sampleMotion (cal : Option Calibration) (now : Time) (raw : Raw) (first : Bool) (m : Motion) : SampleResult :=
  let pos := countsOf cal raw
  match m.phase with
  | .paused | .brake => ⟨.goes m, none⟩
  | .settle => ⟨settleSample now pos ((jobTarget m.job).getD pos) m, none⟩
  | .overshoot =>
    ⟨if m.between then finalLegSample now pos ((jobTarget m.job).getD pos) m else legSample cal now raw first m, none⟩
  | .drive | .slow | .creep | .correct | .learnReturn => ⟨legSample cal now raw first m, none⟩
  | .learnNeg | .learnPos => learnSample now raw m
  | .jogCreep | .jogSlow | .jogFull => ⟨jogSample cal now raw first ((jobJog m.job).any (·.1)) m, none⟩

/-! ## The end -/

/-- The state of the axis after a motion's end (R57, R78). -/
def stateAfter (m : Motion) (status : EndStatus) : AxisState :=
  match status with
  | .arrived | .unsettled | .learnOk => .idle
  | .stalled | .timeout => .fault
  | .learnFail => .uncalibrated
  | .supplyLow | .stopped | .retargeted | .jogEnd => if m.learned then .idle else m.returnState

/-- The status of a stop asked of a motion by LN_STOP: JOG_END for a jog, STOPPED otherwise (R90). -/
def stopStatus (m : Motion) : EndStatus := if isJog m then .jogEnd else .stopped

end Sys2Proof.Machine
end

