-- ==== Sys2Proof/Machine/SetupOps.lean ====
section
/-! DEFINITION. The recall in flight and the banks it waits for: compute start, the ends of a recall, and the swap
(02, R25 to R36; 09, R149 to R154). -/

namespace Sys2Proof.Machine

/-! ## Compute start -/

/-- The three inputs in force (R138). -/
def inputsOf (g : GeometryEngine) : Inputs := ⟨g.active, g.raster, g.orient⟩

/-- A compute starts from a copy of the inputs, whatever the STAGED bank held (R138, R150). -/
def startCompute (s : State) : State := s.mapGe fun g => { g with staged := .computing (inputsOf g) }

/-- A geometry, clamped against the raster in force, becomes the active geometry and a compute starts (R29, R31,
R133). -/
def applyGeometry (g : Insets) (s : State) : State :=
  startCompute (s.mapGe fun e => { e with active := reclamp e.raster g })

/-! ## The end of a recall -/

/-- The status that a report gives an axis: UNFINISHED if its entry has neither ended nor been removed (R36). -/
def reportStatus : Progress → ReportStatus
  | .notNamed => .notNamed
  | .waiting | .running => .unfinished
  | .ended st => .ended st

/-- The report of a recall (R36). -/
def reportOf (outcome : RecallOutcome) (r : Recall) : Report where
  tag := r.tag
  slot := r.slot
  outcome := outcome
  statuses := .make fun ax => reportStatus (r.progress.get ax)
  geometry := r.applied

/-- The recall in flight ends with an outcome: its report is written, its pending geometry is gone and the state is
NONE; RECALL_DONE is set unless a soft reset ends it (R22, R27, R31, R32, R35, R36). -/
def endRecall (outcome : RecallOutcome) (flagged : Bool) (s : State) : State :=
  occurIf flagged .recallDone (s.mapSetup fun a =>
    { a with report := (a.current.map (reportOf outcome)).or a.report
             current := none, recallState := .none, pendingGeometry := none })

/-- An axis's entry of the current recall has neither ended nor been removed (R30). -/
def unfinished : Progress → Bool
  | .waiting | .running => true
  | .notNamed | .ended _ => false

/-- Every axis that the recall names has ended (R31). -/
def allEnded (r : Recall) : Bool := axes.all fun ax => !unfinished (r.progress.get ax)

/-- The outcome of an axis phase: COMPLETE if every named axis's status is ARRIVED (R31). -/
def phaseOutcome (r : Recall) : RecallOutcome :=
  if axes.all fun ax => r.progress.get ax = .notNamed || r.progress.get ax = .ended .arrived then .complete else .partly

/-- The axis phase is over (R31): the outcome is fixed, PARTIAL sets modified; a pending geometry is applied and the
recall goes on in APPLYING, and without one the recall ends. -/
def axisPhaseEnd (r : Recall) (s : State) : State :=
  let outcome := phaseOutcome r
  let s := s.mapSetup fun a => { a with modified := a.modified || outcome = .partly }
  match s.setup.pendingGeometry with
  | none => endRecall outcome true s
  | some g =>
    applyGeometry g (s.mapSetup fun a =>
      { a with pendingGeometry := none, recallState := .applying
               current := some { r with applied := true, outcome := some outcome } })

/-- The entry or motion of an axis that carries a recall tag has ended, or been removed, with a status. It counts only
toward the recall of that tag in MOVING, and only once; the last one ends the axis phase (R30, R31). -/
def recordRecall (ax : Axis) (tag : Nat) (status : EndStatus) (s : State) : State :=
  match s.setup.current with
  | none => s
  | some r =>
    if s.setup.recallState = .moving && r.tag = tag && unfinished (r.progress.get ax) then
      let r := { r with progress := r.progress.set ax (.ended status) }
      let s := s.mapSetup fun a => { a with current := some r }
      if allEnded r then axisPhaseEnd r s else s
    else s

/-- A RECALL entry of the current tag has been dispatched: its axis is running (R30, R98). -/
def markRunning (ax : Axis) (tag : Nat) (s : State) : State :=
  match s.setup.current with
  | none => s
  | some r =>
    if r.tag = tag && r.progress.get ax = .waiting then
      s.mapSetup fun a => { a with current := some { r with progress := r.progress.set ax .running } }
    else s

/-- The status that an abandonment records for an axis: STOPPED for an entry it removes and for a motion it ends or
brakes, the status already fixed for a motion in BRAKE (R35). -/
def abandonedProgress (s : State) (ax : Axis) : Progress → Progress
  | .notNamed => .notNamed
  | .ended st => .ended st
  | .waiting => .ended .stopped
  | .running => .ended ((s.lens.get ax).motion.elim .stopped (cutStatus .stopped))

/-- A recall in MOVING or APPLYING is abandoned (R22, R35). -/
def abandonRecall (flagged : Bool) (s : State) : State :=
  match s.setup.current with
  | none => s
  | some r =>
    endRecall .abandoned flagged (s.mapSetup fun a =>
      { a with current := some { r with progress := .make fun ax => abandonedProgress s ax (r.progress.get ax) } })

/-! ## The swap -/

/-- A recall in APPLYING ends at a swap, with the outcome fixed for it (R32). -/
def recallAtSwap (s : State) : State :=
  if s.setup.recallState = .applying then
    endRecall ((s.setup.current.bind (·.outcome)).getD .complete) true s
  else s

/-- A table becomes the LIVE bank whole, with the next generation; GEOMETRY_LIVE is set and a recall in APPLYING ends
(R152). -/
def swapTo (t : Table) (s : State) : State :=
  recallAtSwap (occur .geometryLive (s.mapGe fun g =>
    { g with live := t, generation := g.generation + 1, staged := .empty }))

/-- A READY table swaps; otherwise nothing happens (R153, R154). -/
def swapIfReady (s : State) : State :=
  match s.ge.staged with
  | .ready t => swapTo t s
  | .empty | .computing _ => s

end Sys2Proof.Machine
end

