-- ==== Sys2Proof/Machine/ScanOps.lean ====
section
/-! DEFINITION. The scanner's arbiter and the modes of the fast list (03, R41 to R45), and the entries of the result
table (R47 to R52). -/

namespace Sys2Proof.Machine

/-- The channel after this one in the fast list's cyclic order (R42). -/
def nextFast : FastChannel → FastChannel
  | .pot .vshift => .pot .hshift
  | .pot .hshift => .pot .zoom
  | .pot .zoom => .pot .focus
  | .pot .focus => .supply
  | .supply => .pot .vshift

/-- A fast conversion starts on the channel named by the fast cursor (R42, R43). -/
def startFast (now : Time) (c : Scanner) : Scanner :=
  { c with converting := some ⟨.fast c.fastCursor, now⟩, fastCursor := nextFast c.fastCursor }

/-- A slow conversion starts on the sensor named by the slow cursor (R45). -/
def startSlow (now : Time) (c : Scanner) : Scanner :=
  { c with converting := some ⟨.slow c.slowCursor, now⟩, slowCursor := nextSensor c.slowCursor, slowHeld := false }

/-- The arbiter grants the converter if it is free: the rest of a burst first, then a slow conversion that waits (in
TRIGGERED mode only at the end of a fast conversion), then a burst that waits (R41). -/
def grant (now : Time) (afterFast : Bool) (c : Scanner) : Scanner :=
  match c.converting with
  | some _ => c
  | none =>
    if 0 < c.burstLeft then startFast now { c with burstLeft := c.burstLeft - 1 }
    else if c.slowHeld && (c.fastMode ≠ .triggered || afterFast) then startSlow now c
    else if c.burstWaiting then startFast now { c with burstLeft := 4, burstWaiting := false }
    else c

/-- The first axis has become MOVING: TRIGGERED mode begins, and a burst in progress runs to its end (R43). -/
def toTriggered (c : Scanner) : Scanner :=
  match c.fastMode with
  | .periodic => { c with fastMode := .triggered, nextBurst := none, burstWaiting := false }
  | .off | .triggered => c

/-- The last MOVING axis has left MOVING: TRIGGERED mode ends, the first burst falls due 20 ms later, and a held slow
conversion starts when the converter is free (R41, R42). -/
def toPeriodic (now : Time) (c : Scanner) : Scanner :=
  match c.fastMode with
  | .triggered => grant now false { c with fastMode := .periodic, nextBurst := some (now + burstPeriod) }
  | .off | .periodic => c

/-- The fast list leaves TRIGGERED if no axis is MOVING any more (R42, R43). -/
def settleFastMode (s : State) : State := if s.anyMoving then s else s.mapScan (toPeriodic s.now)

/-- The scanner on leaving STANDBY: PERIODIC with a burst due now, and the fast slow schedule (R42, R45). The last trigger
is kept, since no rule gives the phase in which the timebase starts again (R164, `triggerDue`, log 25: DESIGN CHOICE). -/
def scanOnWake (now : Time) (c : Scanner) : Scanner :=
  { c with fastMode := .periodic, nextBurst := some now, slowInterval := .tenth
           nextSlow := some (now + slowIntervalActive) }

/-- The scanner on entering STANDBY: the fast list OFF, and the slow schedule of STANDBY (R42, R45). -/
def scanOnStandby (now : Time) (c : Scanner) : Scanner :=
  grant now false { c with fastMode := .off, nextBurst := none, burstLeft := 0, burstWaiting := false
                           slowInterval := .one, nextSlow := some (now + slowIntervalStandby) }

/-- The duration of a slow interval (R45). -/
def intervalTime : SlowInterval → Time
  | .tenth => slowIntervalActive
  | .one => slowIntervalStandby

/-- A count that stops at 255 (R47, R118). -/
def countUp (n : Nat) : Nat := min (n + 1) 255

/-- A fast result is stored (R44, R47). -/
def storeFast (raw : Raw) (e : FastEntry) : FastEntry := ⟨some raw, countUp e.count⟩

/-- The filtered temperature of a full ring (R48). -/
def filteredOf (ring : List Raw) : Int := temperatureOf ((ring.map (·.toNat)).sum / 4)

/-- A good sample joins the ring; a ring of 4 makes the sensor VALID with its filtered temperature (R48, R52). -/
def goodSample (raw : Raw) (t : Thermistor) : Thermistor :=
  let ring := (if t.ring.length < 4 then t.ring else t.ring.drop 1) ++ [raw]
  let t := { t with ring := ring, count := countUp t.count, bad := false }
  if ring.length = 4 then { t with state := .valid, filtered := some (filteredOf ring) } else t

/-- The entry of a sensor that has faulted, or whose recovery starts again (R51, R52). -/
def emptyRing (t : Thermistor) : Thermistor :=
  { t with state := .faulted, ring := [], count := 0, bad := false, filtered := none }

/-- A bad sample: held back once, faulting at the second, emptying the ring of a FAULTED sensor (R50 to R52). -/
def badSample (t : Thermistor) : Thermistor :=
  match t.state with
  | .faulted => emptyRing t
  | .filling | .valid => if t.bad then emptyRing t else { t with bad := true }

/-- A thermistor sample applied to its entry (R48). -/
def applySample (raw : Raw) (t : Thermistor) : Thermistor :=
  let t := { t with raw := some raw }
  if isGoodSample raw then goodSample raw t else badSample t

/-- The sample makes the sensor enter FAULTED (R51). -/
def faultsNow (raw : Raw) (t : Thermistor) : Bool := !isGoodSample raw && t.bad && t.state ≠ .faulted

end Sys2Proof.Machine
end

