-- ==== Sys2Proof/Machine/LensOps.lean ====
section
/-! DEFINITION. Motions and entries in the state: the end of a motion and what it hands on, dispatch, removal and append
(04, R57, R73; 05, R80 to R98; 06, R103, R107). -/

namespace Sys2Proof.Machine

/-- The position of an axis: absent without a calibration or without a reading (R56, R59). -/
def State.position (s : State) (ax : Axis) : Option Nat :=
  (s.lens.get ax).cal.bind fun c => (s.reading ax).map (normalise c)

/-! ## What an end is handed to -/

/-- The reference is taken: Tref is S3's temperature if S3 is valid, and both compensations are 0 (R103). -/
def takeReference (s : State) : State :=
  (s.mapSetup fun a => { a with tref := s.validTemp .s3 }).mapFc fun f => { f with comp := 0, applied := 0 }

/-- A trim has arrived at its target: the applied compensation is the target less the base of its creation (R107). -/
def trimArrived (f : FocusCompensator) : FocusCompensator :=
  { f with applied := f.trim.elim f.applied fun t => (t.target : Int) - t.base }

/-- The end of a FOCUS motion at the Focus Compensator (R103, R107). -/
def focusEnd (job : Job) (status : EndStatus) (s : State) : State :=
  match job with
  | .move _ | .ofRecall _ _ => if status = .arrived then takeReference s else s
  | .jog _ _ => if status = .retargeted then s else takeReference s
  | .trim _ => s.mapFc fun f => { (if status = .arrived then trimArrived f else f) with trim := none }
  | .park _ | .learn => s

/-- The end of a jog on an axis with a calibration sets the base target to the position at the end, except RETARGETED
(R75). -/
def jogBase (ax : Axis) (cal : Option Calibration) (status : EndStatus) (s : State) : State :=
  match cal with
  | none => s
  | some c =>
    if status = .retargeted then s
    else s.mapSetup fun a => { a with base := a.base.set ax (some (normalise c (s.rawNow ax))) }

/-- The end of a motion at the Active Setup (R73). -/
def setupEnd (ax : Axis) (cal : Option Calibration) (job : Job) (status : EndStatus) (s : State) : State :=
  match job with
  | .ofRecall _ tag => recordRecall ax tag status s
  | .jog _ _ => jogBase ax cal status s
  | .move _ | .trim _ | .park _ | .learn => s

/-- The axis record after a motion's end (R57, R73, R78). -/
def endedAxis (m : Motion) (status : EndStatus) (reading : Option Raw) (r : AxisRecord) : AxisRecord :=
  let cal := if status = .learnFail then none else r.cal
  { state := stateAfter m status, cal := cal, motion := none
    lastEnd := some ⟨originOf m.job, jobTag m.job, status, cal.bind fun c => reading.map (normalise c)⟩ }

/-- A motion ends (R73): the axis takes its new state and last end, its units are released with it, and the end is
handed to the Active Setup, the Focus Compensator and the Alert Unit; the fast list follows. Dispatch is the caller's. -/
def endMotion (ax : Axis) (status : EndStatus) (s : State) : State :=
  match (s.lens.get ax).motion with
  | none => s
  | some m =>
    let reading := s.reading ax
    let s := s.mapAxis ax (endedAxis m status reading)
    let s := setupEnd ax (s.lens.get ax).cal m.job status s
    let s := if ax = .focus then focusEnd m.job status s else s
    settleFastMode (occurIf (status = .stalled || status = .timeout) .axisFault (occur .motionEnd s))

/-- A motion's fate takes place. -/
def applyFate (ax : Axis) (f : Fate) (s : State) : State :=
  match f with
  | .goes m => s.mapAxis ax fun r => { r with motion := some m }
  | .ends status => endMotion ax status s

/-- An end request reaches an axis: its running motion, if any, brakes, ends or stands as it is (R71). -/
def requestEnd (ax : Axis) (status : Motion → EndStatus) (s : State) : State :=
  match (s.lens.get ax).motion with
  | none => s
  | some m => applyFate ax (endRequest s.now (status m) m) s

/-- The drive of an axis is cut at once: its motion ends STOPPED, or as fixed in BRAKE (R72). -/
def cutMotion (ax : Axis) (s : State) : State :=
  match (s.lens.get ax).motion with
  | none => s
  | some m => endMotion ax (cutStatus .stopped m) s

/-- Every running motion is cut (R72). -/
def cutAll (s : State) : State := axes.foldl (fun s ax => cutMotion ax s) s

/-! ## Dispatch -/

/-- An entry starts as a motion on its axis (R57, R61, R98): the axis is MOVING, a recall's axis is running, and the
fast list is TRIGGERED. A jog that ends at its dispatch does so at once (R75). -/
def startEntry (e : Entry) (s : State) : State :=
  let r := s.lens.get e.axis
  let fate := dispatchMotion e.axis s.ge.orient r.cal s.now (s.rawNow e.axis) s.supplyIsLow r.state e.job
  let s := s.mapAxis e.axis fun r =>
    { r with state := .moving, motion := some (newMotion s.now r.state e.job) }
  let s := (jobTag e.job).elim s fun tag => markRunning e.axis tag s
  applyFate e.axis fate (s.mapScan toTriggered)

/-- The head entry dispatches: outside STANDBY, its axis is not MOVING and its units fit what the budget leaves (R84,
R97). -/
def canDispatch (s : State) (e : Entry) : Bool :=
  s.mc.mode ≠ .standby && !s.moving e.axis && s.unitsHeld + driveUnits e.axis ≤ s.mq.budget

/-- An entry of the axis has been dispatched: if it is the one that a response waits for, that is recorded (R85, R88,
R91). -/
def Awaited.start (ax : Axis) (a : Awaited) : Awaited := if a.axis = ax then { a with started := true } else a

/-- The entries of the axes have been removed: one that was not dispatched before will not be (R85, R88, R91). -/
def Awaited.drop (gone : Axis → Bool) (a : Awaited) : Option Awaited := if gone a.axis && !a.started then none else some a

/-- The head entry leaves the list at its dispatch (R98). -/
def takeHead (e : Entry) (rest : List Entry) (q : MotionQueue) : MotionQueue :=
  { q with entries := rest, awaited := q.awaited.map (Awaited.start e.axis) }

/-- The entries of the axes leave the list without dispatch (R83). -/
def dropEntries (gone : Axis → Bool) (q : MotionQueue) : MotionQueue :=
  { q with entries := q.entries.filter (!gone ·.axis), awaited := q.awaited.bind (Awaited.drop gone) }

/-- At most `n` head entries dispatch, oldest first, up to the first that does not (R97). -/
def dispatchUpTo : Nat → State → State
  | 0, s => s
  | n + 1, s =>
    match s.mq.entries with
    | [] => s
    | e :: rest =>
      if canDispatch s e then dispatchUpTo n (startEntry e (s.mapMq (takeHead e rest))) else s

/-- Dispatch runs (R97). -/
def dispatch (s : State) : State := dispatchUpTo s.mq.entries.length s

/-! ## Entries -/

/-- A removed entry is handed to the Active Setup, which records a RECALL entry of the current tag, and for a TRIM to
the Focus Compensator (R83, R107). -/
def handRemoved (status : EndStatus) (e : Entry) (s : State) : State :=
  match e.job with
  | .ofRecall _ tag => recordRecall e.axis tag status s
  | .trim _ => s.mapFc fun f => { f with trim := none }
  | .move _ | .park _ | .jog _ _ | .learn => s

/-- The pending entry of an axis is removed, its recall status as given (R83). Dispatch is the caller's. -/
def removeEntry (ax : Axis) (status : EndStatus) (s : State) : State :=
  match s.entryOf ax with
  | none => s
  | some e => handRemoved status e (s.mapMq (dropEntries (· = ax)))

/-- Every pending entry is removed, a RECALL entry recorded STOPPED (R82, R84). -/
def clearQueue (s : State) : State :=
  s.mq.entries.foldl (fun s e => handRemoved .stopped e s) (s.mapMq (dropEntries fun _ => true))

/-- An entry joins at the tail, and dispatch runs (R80, R97). -/
def appendEntry (e : Entry) (s : State) : State := dispatch (s.mapMq fun q => { q with entries := q.entries ++ [e] })

/-- A request's own entry joins at the tail, and its response waits to say at `place` whether it has been dispatched when
the response is formed (R85, R88, R91). -/
def appendAwaited (place : Nat) (e : Entry) (s : State) : State :=
  appendEntry e (s.mapMq fun q => { q with awaited := some ⟨e.axis, place, false⟩ })

/-! ## Classification (R26, R81) -/

/-- The axis counts as uncalibrated (R26, R81). -/
def State.countsUncalibrated (s : State) (ax : Axis) : Bool :=
  let r := s.lens.get ax
  r.state = .uncalibrated
    || r.motion.any (fun m => isLearn m || isJog m && m.returnState = .uncalibrated)
    || (s.entryOf ax).any (fun e => e.job = .learn)

/-- The axis counts as in fault (R26, R81). -/
def State.countsFaulted (s : State) (ax : Axis) : Bool :=
  let r := s.lens.get ax
  r.state = .fault || r.motion.any fun m => isJog m && m.returnState = .fault

/-- The axis counts as healthy (R81). -/
def State.healthy (s : State) (ax : Axis) : Bool := !s.countsUncalibrated ax && !s.countsFaulted ax

/-- No axis is MOVING and the queue holds no entry (R37, R137, R167). -/
def State.lensAtRest (s : State) : Bool := !s.anyMoving && s.mq.entries.isEmpty

end Sys2Proof.Machine
end

