-- ==== Sys2Proof/Machine/CoolingOps.lean ====
section
/-! DEFINITION. The fans and the light limit: the duty pipeline, the cap cut, the duties of the modes, faults and
recoveries, the derate (07, R110 to R130). -/

namespace Sys2Proof.Machine

/-! ## Sensors, masks and caps -/

/-- The mask in force of a fan, by the class of the orientation held at the moment of reading (R112). -/
def maskInForce (s : State) (fan : Fan) : SensorSet :=
  let m := s.cc.masks.get fan
  if isCeiling s.ge.orient then m.ceiling else m.floor

/-- The mask and the curve of a fan in force now, which an evaluation goes by (R112, R115). -/
def inputsInForce (s : State) (fan : Fan) : FanInputs := ⟨maskInForce s fan, s.cc.curves.get fan⟩

/-- The valid sensors of a mask with their temperatures, from a set of readings (R53, R121). -/
def governedBy (mask : SensorSet) (temps : PerSensor (Option Int)) : List (Sensor × Int) :=
  sensors.filterMap fun sn => if inSet mask sn then (temps.get sn).map fun t => (sn, t) else none

/-- The sensor recorded between two of a mask: the hotter, and of two equally hot ones either (log 14: DESIGN CHOICE).
-/
def hotter (now : Time) (best : Governing) (x : Sensor × Int) : Governing :=
  if best.temp < x.2 || (best.temp = x.2 && Config.tieTakesLater (sensorNumber x.1) now) then ⟨x.2, x.1⟩ else best

/-- The governing temperature among valid sensors, with a sensor that gave it; none if there is none (R121). -/
def governingOf (now : Time) : List (Sensor × Int) → Option Governing
  | [] => none
  | x :: xs => some (xs.foldl (hotter now) ⟨x.2, x.1⟩)

/-- The present valid temperatures (R53). -/
def temperatures (s : State) : PerSensor (Option Int) := .make s.validTemp

/-- The cap in force of a fan (R113). -/
def capInForce (s : State) (fan : Fan) : Nat := capOf s.setup.quiet fan

/-- The number of faulted fans (R130). -/
def faultedFans (c : Cooling) : Nat := (c.fans.toList.filter (·.faulted)).length

/-! ## One fan record -/

/-- The commanded duty is set; a duty below 30 spoils the open tach window (R119, R124). -/
def setDuty (d : Nat) (f : FanRecord) : FanRecord := { f with duty := d, dipped := f.dipped || d < 30 }

/-- One point toward the target (R119). -/
def slew (f : FanRecord) : FanRecord :=
  if f.duty < f.target then setDuty (f.duty + 1) f else if f.target < f.duty then setDuty (f.duty - 1) f else f

/-- The fan's cap does not bind it: override, fault compensation or failsafe (R122). -/
def exempt (f : FanRecord) : Bool := f.override || f.compensating || f.failsafe

/-- The cap acts at once: a commanded duty and a target above the cap become the cap (R122, log 18: DEDUCED). -/
def cutTo (cap : Nat) (f : FanRecord) : FanRecord :=
  if exempt f then f
  else { (if cap < f.duty then setDuty cap f else f) with target := min f.target cap }

/-- The fan is in override after an evaluation's judgment (R120): it enters when a valid sensor of its mask is at or
above that sensor's override limit, and leaves when every one is below that limit minus 50. -/
def overrideAfter (limits : PerSensor Limits) (temps : List (Sensor × Int)) (f : FanRecord) : Bool :=
  if f.override then temps.any fun x => (limits.get x.1).override - 50 ≤ x.2
  else temps.any fun x => (limits.get x.1).override ≤ x.2

/-- The demand of a fan in RUN before its cap: at least 20, and for F1 under the ceiling at least 35 (R121 step 2). -/
def runDemand (c : Curve) (fan : Fan) (ceiling : Bool) (g : Int) : Nat :=
  let d := max (curveValue c g) 20
  if ceiling && fan = .f1 then max d 35 else d

/-- The demand stored in RUN: capped unless in override, and at least 30 for a faulted fan (R121 step 3). -/
def storedDemand (cap : Nat) (f : FanRecord) (d : Nat) : Nat :=
  let d := if f.override then d else min d cap
  if f.faulted then max d 30 else d

/-- A fan's record after the pipeline in RUN, its override mark already judged and `entered` saying that it was entered
at this evaluation (R121). -/
def runPipeline (now : Time) (c : Curve) (fan : Fan) (ceiling : Bool) (cap : Nat) (temps : List (Sensor × Int))
    (entered : Bool) (f : FanRecord) : FanRecord :=
  match governingOf now temps with
  | none => { f with failsafe := true, governing := none, target := 80 }
  | some g =>
    let demand := storedDemand cap f (runDemand c fan ceiling g.temp)
    let target := if f.compensating then 100 else demand
    let f := { f with failsafe := false, governing := some g, demand := demand, target := target }
    if entered && f.duty < target then setDuty target f else f

/-- A fan's uncapped demand in COOLDOWN: its curve, or 80 without a valid sensor (R123). -/
def uncappedDemand (now : Time) (c : Curve) (temps : List (Sensor × Int)) : Nat :=
  (governingOf now temps).elim 80 fun g => curveValue c g.temp

/-- The target of a fan in COOLDOWN (R123). -/
def cooldownTarget (f : FanRecord) (uncapped : Nat) : Nat := if f.compensating then 100 else max uncapped 70

/-! ## The whole of Cooling -/

/-- Every fan record changed by its own rule. -/
def mapFans (s : State) (f : Fan → FanRecord → FanRecord) : State :=
  s.mapCc fun c => { c with fans := .make fun fan => f fan (c.fans.get fan) }

/-- The cap cut of every fan (R122); it acts in RUN. -/
def capCut (s : State) : State :=
  if s.mc.mode = .run then mapFans s fun fan f => cutTo (capInForce s fan) f else s

/-- The light limit takes a value; a change sets DERATE (R129). -/
def setLight (l : Nat) (s : State) : State :=
  occurIf (l ≠ s.cc.light) .derate (s.mapCc fun c => { c with light := l })

/-- The valid sensors that governed a fan at the last evaluation: those of the mask and with the temperatures that it
found (R123; log 19: DESIGN CHOICE, log 39: DEDUCED). -/
def governedAtLast (c : Cooling) (fan : Fan) : List (Sensor × Int) := governedBy (c.used.get fan).mask c.seen

/-- The targets of COOLDOWN outside an evaluation, at an entry, a recovery or a soft reset (R123): from the sensors, the
mask and the curve as the last evaluation found them, since a curve, mask or orientation changed after it acts from the
next one (R115, R116, R137; log 19: DESIGN CHOICE, log 39: DEDUCED). The commanded duty stays: a fan that compensated in
failsafe in RUN, with its target of 80, takes the target 100 here and slews to it (log 42: DESIGN CHOICE). -/
def cooldownTargets (s : State) : State :=
  mapFans s fun fan f =>
    { f with target := cooldownTarget f (uncappedDemand s.now (s.cc.used.get fan).curve (governedAtLast s.cc fan)) }

/-- The targets of COOLDOWN computed under R123: a mask without a valid sensor sets the failsafe mark, by the mask and
the sensors as the last evaluation found them (R116; log 39: DEDUCED). -/
def aimCooldown (s : State) : State :=
  mapFans (cooldownTargets s) fun fan f => { f with failsafe := (governedAtLast s.cc fan).isEmpty }

/-- Cooling at an evaluation in COOLDOWN: governing temperature, demand, failsafe and target afresh (R118, R123). -/
def cooldownPipeline (s : State) : State :=
  mapFans s fun fan f =>
    let temps := governedBy (maskInForce s fan) s.cc.seen
    let demand := uncappedDemand s.now (s.cc.curves.get fan) temps
    { f with governing := governingOf s.now temps, demand := demand, failsafe := temps.isEmpty
             target := cooldownTarget f demand }

/-- The derate judgment of an evaluation in RUN (R129): the light limit it gives. -/
def deratedLight (s : State) : Nat :=
  let governed := sensors.filter fun sn =>
    ((s.cc.seen.get sn).isSome && fans.any fun fan => inSet (maskInForce s fan) sn)
  let temp (sn : Sensor) : Int := (s.cc.seen.get sn).getD 0
  let hold (sn : Sensor) : Int := (s.cc.limits.get sn).hold
  let atCap (fan : Fan) : Bool := (s.cc.fans.get fan).duty = capInForce s fan && !(s.cc.fans.get fan).override
  let l :=
    if governed.any fun sn => hold sn ≤ temp sn && fans.all fun fan => !inSet (maskInForce s fan) sn || atCap fan then
      max (s.cc.light - 5) 40
    else if governed.all fun sn => temp sn ≤ hold sn - 30 then min (s.cc.light + 5) 100
    else s.cc.light
  if 0 < faultedFans s.cc then min l 60 else l

/-- Override, targets, cap cut and derate of an evaluation in RUN (R120 to R122, R129). -/
def runEvaluation (s : State) : State :=
  let temps (fan : Fan) := governedBy (maskInForce s fan) s.cc.seen
  let hot (fan : Fan) : Bool := overrideAfter s.cc.limits (temps fan) (s.cc.fans.get fan)
  let entered (fan : Fan) : Bool := hot fan && !(s.cc.fans.get fan).override
  let s' := mapFans s fun fan f =>
    runPipeline s.now (s.cc.curves.get fan) fan (isCeiling s.ge.orient) (capInForce s fan) (temps fan) (entered fan)
      { f with override := hot fan }
  let s' := capCut (occurIf (fans.any entered) .override s')
  setLight (deratedLight s') s'

/-- The set of valid sensors at or above their trip limits, as the evaluation finds them (R130). -/
def sensorsAtTrip (s : State) : SensorSet :=
  sensorSet fun sn => (s.cc.seen.get sn).any ((s.cc.limits.get sn).trip ≤ ·)

/-! ## Faults and recoveries (R124 to R128) -/

/-- A fan's record after the judgment of a closing window in RUN, COOLDOWN or TRIP (R125, R126). -/
def judgeWindow (f : FanRecord) : FanRecord :=
  let rpm := f.pulses * 30
  let low := if !f.faulted && !f.dipped && rpm < 300 then f.low + 1 else 0
  let good := if f.faulted && !f.dipped && 600 ≤ rpm then f.good + 1 else 0
  if low = 3 then { f with faulted := true, low := 0, good := 0 }
  else if good = 3 then { f with faulted := false, low := 0, good := 0 }
  else { f with low := low, good := good }

/-- The last RPM of a closing window (R124). -/
def recordRpm (f : FanRecord) : FanRecord := { f with rpm := some (f.pulses * 30) }

/-- A new window opens: no pulse counted, and spoiled from the start by a duty below 30 (R124). Which of the duties of one
moment it opens with is the caller's order (log 43: DESIGN CHOICE). -/
def openWindow (f : FanRecord) : FanRecord := { f with pulses := 0, dipped := f.duty < 30 }

/-- A fan's record when some fan has become faulted (R127): a faulted fan is never compensating; every other one is, and
in RUN and COOLDOWN goes to 100 at once, a failsafe fan in RUN keeping its target. -/
def compensate (mode : Mode) (f : FanRecord) : FanRecord :=
  if f.faulted then { f with compensating := false }
  else
    let f := { f with compensating := true }
    if mode = .cooldown || (mode = .run && !f.failsafe) then { setDuty 100 f with target := 100 } else f

/-- The consequences of one or more fans having become faulted: compensation, the bound on the light limit and FAN_FAULT
(R127, R128). -/
def faultConsequences (s : State) : State :=
  let s := mapFans (occur .fanFault s) fun _ f => compensate s.mc.mode f
  setLight (min s.cc.light 60) s

/-- A fan's record when a recovery leaves no fan faulted: compensation ends, and in RUN its target becomes its demand, a
failsafe fan keeping its target (R127, log 20: DEDUCED). -/
def endCompensation (mode : Mode) (f : FanRecord) : FanRecord :=
  let f := { f with compensating := false }
  if mode = .run && !f.failsafe then { f with target := f.demand } else f

/-- A recovered fan's record while another fan is faulted (R127): it takes the compensating mark and the target 100; in
RUN failsafe stands before compensation (R121), so a failsafe fan keeps its target (log 20: DEDUCED). -/
def compensateRecovered (mode : Mode) (f : FanRecord) : FanRecord :=
  if mode = .run && f.failsafe then { f with compensating := true }
  else { f with compensating := true, target := 100 }

/-- The consequences of a recovery (R127): with no fan faulted any more compensation ends, and otherwise the recovered
fans take the compensating mark and the target 100. -/
def recoveryConsequences (recovered : Fan → Bool) (s : State) : State :=
  if faultedFans s.cc = 0 then
    let s := mapFans s fun _ f => endCompensation s.mc.mode f
    if s.mc.mode = .cooldown then aimCooldown s else s
  else mapFans s fun fan f => if recovered fan then compensateRecovered s.mc.mode f else f

/-- The judgment of a window close and what follows for the fans and the light limit (R124 to R127). -/
def judgeFans (s : State) : State :=
  let before := s.cc.fans
  let s := mapFans s fun _ f => judgeWindow f
  let newly (fan : Fan) : Bool := !(before.get fan).faulted && (s.cc.fans.get fan).faulted
  let recovered (fan : Fan) : Bool := (before.get fan).faulted && !(s.cc.fans.get fan).faulted
  let s := if fans.any recovered then recoveryConsequences recovered s else s
  let s := if fans.any newly then faultConsequences s else s
  capCut s

/-- Whether a window close made a fan faulted while another is faulted (R130). -/
def fanTripBetween (before after : Cooling) : Bool :=
  fans.any (fun fan => !(before.fans.get fan).faulted && (after.fans.get fan).faulted) && 2 ≤ faultedFans after

/-! ## The fans at a mode change (R123, R128) -/

/-- The fans at entry to STANDBY: off, with the marks cleared (R123). -/
def fanOnStandby (f : FanRecord) : FanRecord :=
  { setDuty 0 f with target := 0, override := false, compensating := false, failsafe := false, governing := none }

/-- The fans at entry to STARTING: faults cleared, 60 at once, and a new tach window (R123, R124, R128). -/
def fanOnStarting (f : FanRecord) : FanRecord :=
  openWindow { f with
    duty := 60, target := 60, override := false, compensating := false, faulted := false, low := 0, good := 0 }

/-- The fans at entry to RUN: the target is the commanded duty until the first evaluation, and a compensating fan goes
to 100 (R123, R127). -/
def fanOnRun (f : FanRecord) : FanRecord :=
  if f.compensating then { setDuty 100 f with target := 100 } else { f with target := f.duty }

/-- The fans at entry to TRIP: 100 at once (R123). -/
def fanOnTrip (f : FanRecord) : FanRecord := { setDuty 100 f with target := 100, override := false }

end Sys2Proof.Machine
end

