-- ==== Sys2Proof/Machine/ModeOps.lean ====
section
/-! DEFINITION. The changes of mode and what each is handed on as (10, R163 to R170; R84, R93, R123), and the judgment of
the end of cooldown. -/

namespace Sys2Proof.Machine

/-- The mode record and the lines at a change (R163); MODE_CHANGE is set unless a soft reset makes the change. -/
def setMode (mode : Mode) (flagged : Bool) (s : State) : State :=
  occurIf flagged .modeChange (s.mapMc fun m =>
    { m with mode := mode, previous := some m.mode, entered := s.now
             lightPermit := mode = .run, thermTrip := mode = .trip })

/-- The entry to STARTING (R164): the fans at 60, the light limit 100, new tach windows, the fan check timer, and the
scanner's active schedule. -/
def enterStarting (s : State) : State :=
  let s := setMode .starting true s
  let s := setLight 100 (mapFans s fun _ f => fanOnStarting f)
  let s := s.mapCc fun c => { c with windowStart := some s.now }
  let s := s.mapScan (scanOnWake s.now)
  s.mapMc fun m => { m with fanCheck := some (s.now + fanCheckTime) }

/-- The entry to RUN (R123, R165). -/
def enterRun (s : State) : State :=
  let s := setMode .run true s
  let s := s.mapMc fun m => { m with fanCheck := none }
  capCut (mapFans s fun _ f => fanOnRun f)

/-- The entry to STANDBY (R84, R123, R167). -/
def enterStandby (flagged : Bool) (s : State) : State :=
  let s := setMode .standby flagged s
  let s := s.mapMc fun m => { m with cooldown := none }
  let s := mapFans s fun _ f => fanOnStandby f
  clearQueue (s.mapScan (scanOnStandby s.now))

/-- The mode becomes STANDBY if COOLDOWN's thermal part is done and the lens is at rest (R167). -/
def judgeCooldown (flagged : Bool) (s : State) : State :=
  if s.mc.mode = .cooldown && s.mc.thermalDone && s.lensAtRest then enterStandby flagged s else s

/-- What follows motion ends and removals of one event: dispatch runs, and in COOLDOWN its end is judged (R97, R167). -/
def afterLens (s : State) : State := judgeCooldown true (dispatch s)

/-- A step at one axis that may end its motion: if it does, dispatch and the end of cooldown follow (R73). -/
def stepAxis (ax : Axis) (f : State → State) (s : State) : State :=
  if s.moving ax && !(f s).moving ax then afterLens (f s) else f s

/-- An axis is cleared for a new entry: the running motion is sent an end request and the pending entry is removed, and
dispatch runs after each release and removal (R85, R88, R92, R97). -/
def clearAxis (ax : Axis) (status : Motion → EndStatus) (removal : EndStatus) (s : State) : State :=
  let s := stepAxis ax (requestEnd ax status) s
  if (s.entryOf ax).isSome then dispatch (removeEntry ax removal s) else s

/-- The park slot's targets, as copies (R16). -/
def parkTargets (t : PlacementTable) : PerAxis (Option Nat) :=
  (t.park.bind fun i => t.slots[i]).elim ⟨none, none, none, none⟩ (·.targets)

/-- The axes that take a PARK entry: those with a target that count as healthy at their turn (R93). -/
def parkEntry (targets : PerAxis (Option Nat)) (s : State) (ax : Axis) : State :=
  match targets.get ax with
  | none => s
  | some t => if s.healthy ax then appendEntry ⟨ax, .park t⟩ s else s

/-- The PARK entries of an entry to COOLDOWN are appended in ascending axis number (R16, R93). -/
def appendParks (s : State) : State := axes.foldl (parkEntry (parkTargets s.pt)) s

/-- The axes for which an entry to COOLDOWN appends PARK entries, as its response reports them (R166): those with a
target that count as healthy once the queue is cleared. -/
def parkAxes (s : State) : Axis → Bool := fun ax => ((parkTargets s.pt).get ax).isSome && s.healthy ax

/-- The first half of an entry to COOLDOWN (R84, R166): lines, timers, fans, the recall abandoned, the queue cleared and
every running motion sent STOPPED. Every fan keeps its commanded duty, also one whose target this entry makes 100 because
it compensates (R123's table; R123's exception for a change to 100 by compensation is taken as that of a fault in
COOLDOWN, R127; log 42: DESIGN CHOICE). -/
def leaveForCooldown (flagged : Bool) (s : State) : State :=
  let s := setMode .cooldown flagged s
  let s := s.mapMc fun m =>
    { m with fanCheck := none, thermalDone := false, cooldown := some (s.now + cooldownTime) }
  let s := aimCooldown (mapFans s fun _ f => { f with override := false })
  let s := clearQueue (abandonRecall true s)
  axes.foldl (fun s ax => requestEnd ax (fun _ => .stopped) s) s

/-- The entry to COOLDOWN (R166); `flagged` is no when a soft reset makes the change (R170). -/
def enterCooldown (flagged : Bool) (s : State) : State := appendParks (leaveForCooldown flagged s)

/-- The entry to TRIP (R168): lines, the trip record, the recall abandoned, every motion cut and the queue cleared, fans
at 100, timers idle, TRIP and MODE_CHANGE. `atTrip` is the set of sensors recorded: those at their limits for a sensor
trip, and none for a fan trip (log 40: DESIGN CHOICE). -/
def enterTrip (cause : TripCause) (atTrip : SensorSet) (s : State) : State :=
  let record : TripRecord := ⟨cause, atTrip, faultedFans s.cc, s.mc.mode⟩
  let s := occur .trip (setMode .trip true s)
  let s := s.mapMc fun m => { m with lastTrip := some record, fanCheck := none, cooldown := none }
  let s := mapFans s fun _ f => fanOnTrip f
  cutAll (clearQueue (abandonRecall true s))

/-- A trip condition reaches the Mode Controller: it acts in STARTING, RUN and COOLDOWN (R130, R168). -/
def tripCondition (cause : TripCause) (atTrip : SensorSet) (s : State) : State :=
  match s.mc.mode with
  | .starting | .run | .cooldown => enterTrip cause atTrip s
  | .standby | .trip => s

end Sys2Proof.Machine
end

