-- ==== Sys2Proof/Machine/EvaluationOps.lean ====
section
/-! DEFINITION. The thermal evaluation: what each of its four receivers does, and the orders in which they may take it
(R46; R96, R102, R105, R106, R120 to R123, R129, R130, R167). -/

namespace Sys2Proof.Machine

/-! ## Cooling -/

/-- Cooling at an evaluation (R121 to R123, R129, R130): the work of the mode, and then the trip conditions. -/
def evaluateCooling (s : State) : State :=
  let s := match s.mc.mode with
    | .run => runEvaluation s
    | .cooldown => cooldownPipeline s
    | .standby | .starting | .trip => s
  let atTrip := sensorsAtTrip s
  let s := s.mapCc fun c => { c with sensorTrip := atTrip ≠ 0 }
  if atTrip ≠ 0 then tripCondition .sensor atTrip s else s

/-! ## Focus Compensator -/

/-- The zoom position at an evaluation: ZOOM's, or 2000 without a calibration or a reading (R102). -/
def zoomPosition (s : State) : Nat := (s.position .zoom).getD 2000

/-- The compensation at an evaluation, with a coefficient (R105). -/
def compensation (coef : Int) (s : State) : Int :=
  if !s.setup.focusOn then 0
  else match s.setup.tref, s.cc.seen.get .s3 with
    | none, _ => 0
    | some _, none => s.fc.comp
    | some tref, some t3 => clampInt (roundHalfAway (coef * (t3 - tref)) 100) (-150) 150

/-- The trim threshold at a quiet level (R106). -/
def trimThreshold (quiet : Nat) : Nat := if quiet = 3 then 15 else 6

/-- The effective target of FOCUS for a base target (R106). -/
def effectiveTarget (base : Nat) (comp : Int) : Nat := clampNat (base + comp) 4000

/-- FOCUS may be trimmed: it has a calibration, is IDLE and has no entry (R106). -/
def focusFree (s : State) : Bool :=
  (s.lens.get .focus).cal.isSome && (s.lens.get .focus).state = .idle && (s.entryOf .focus).isNone

/-- The trim judgment of an evaluation (R106): in RUN, a TRIM entry to the effective target if it differs from where the
lens stands by the threshold. -/
def judgeTrim (s : State) : State :=
  match s.setup.base.get .focus with
  | none => s
  | some base =>
    let target := effectiveTarget base s.fc.comp
    if s.mc.mode = .run && focusFree s
        && trimThreshold s.setup.quiet ≤ ((target : Int) - (base + s.fc.applied)).natAbs then
      appendEntry ⟨.focus, .trim target⟩ (s.mapFc fun f => { f with trim := some ⟨target, base⟩ })
    else s

/-- The Focus Compensator at an evaluation (R102, R105, R106). -/
def evaluateFocus (s : State) : State :=
  let z := zoomPosition s
  let coef := driftCoefficient s.fc.table z
  judgeTrim (s.mapFc fun f => { f with coef := coef, zoomUsed := z, comp := compensation coef s })

/-! ## Motion Queue -/

/-- The budget for S7 at an evaluation (R96). -/
def budgetFor (l : Limits) : Option Int → Nat
  | none => 4
  | some t => if t < l.hold then 4 else if t < l.override then 3 else 0

/-- The Motion Queue at an evaluation: the budget in force, and dispatch if it rises (R96). -/
def evaluateQueue (s : State) : State :=
  let b := budgetFor (s.cc.limits.get .s7) (s.cc.seen.get .s7)
  let s' := s.mapMq fun q => { q with budget := b }
  if s.mq.budget < b then dispatch s' else s'

/-! ## Mode Controller -/

/-- S0 meets the cooldown criterion (R167). -/
def s0Cool (seen : PerSensor (Option Int)) : Bool := (seen.get .s0).any (· < 450)

/-- S1 meets the cooldown criterion (R167). -/
def s1Cool (seen : PerSensor (Option Int)) : Bool := (seen.get .s1).any (· < 500)

/-- The Mode Controller at an evaluation: the cooldown's thermal criterion, and the end it may complete (R167). -/
def evaluateMode (s : State) : State :=
  if s.mc.mode = .cooldown && s0Cool s.cc.seen && s1Cool s.cc.seen then
    judgeCooldown true (s.mapMc fun m => { m with thermalDone := true })
  else s

/-! ## The evaluation -/

/-- The receivers of a thermal evaluation (R46). -/
inductive Receiver where
  | cooling | focus | queue | mode
deriving DecidableEq, Repr

/-- What a receiver does at an evaluation. -/
def receive : Receiver → State → State
  | .cooling => evaluateCooling
  | .focus => evaluateFocus
  | .queue => evaluateQueue
  | .mode => evaluateMode

/-- A receiver put at every place of an order. -/
def insertEverywhere (r : Receiver) : List Receiver → List (List Receiver)
  | [] => [[r]]
  | x :: xs => (r :: x :: xs) :: (insertEverywhere r xs).map (x :: ·)

/-- The orders of a list of receivers. -/
def ordersOf : List Receiver → List (List Receiver)
  | [] => [[]]
  | r :: rs => (ordersOf rs).flatMap (insertEverywhere r)

/-- The 24 orders in which the four receivers may take an evaluation. -/
def evaluationOrders : List (List Receiver) := ordersOf [.cooling, .focus, .queue, .mode]

/-- The order in which an evaluation at a time is taken: a free one (log 10: DESIGN CHOICE). -/
def orderAt (now : Time) : List Receiver :=
  evaluationOrders.getD (Config.evaluationOrder now).val [.cooling, .focus, .queue, .mode]

/-- The signal of a thermal evaluation: the round is counted, the valid temperatures are those of the table, the masks
and the curves in force are the ones it goes by (R112, R115; log 39: DEDUCED), and the receivers take it one after
another (R46). -/
def evaluate (s : State) : State :=
  let s := s.mapScan fun c => { c with rounds := c.rounds + 1 }
  let s := s.mapCc fun c => { c with seen := temperatures s, used := .make (inputsInForce s) }
  (orderAt s.now).foldl (fun s r => receive r s) s

end Sys2Proof.Machine
end

