-- ==== Sys2Proof/Machine/Placements.lean ====
section
/-! DEFINITION. The placement requests (01_the_placement_table, R7 to R20). -/

namespace Sys2Proof.Machine

/-- The record of a slot; none for a FREE slot (R1). -/
def slotAt (t : PlacementTable) (i : Fin 24) : Option Placement := t.slots[i]

/-- A slot takes a record, or becomes FREE (R1). -/
def putSlot (i : Fin 24) (r : Option Placement) (s : State) : State :=
  s.mapPt fun t => { t with slots := t.slots.set i r }

/-- The slot indices in ascending order. -/
def slotIndices : List (Fin 24) := List.finRange 24

/-- The lowest-numbered FREE slot (R9). -/
def lowestFree (t : PlacementTable) : Option (Fin 24) := slotIndices.find? fun i => (slotAt t i).isNone

/-- The length check of a record frame, and checks 2 to 5 of R7 with the slot check given, in R7's order (R7, R186). -/
def recordChecked (slotValid : Nat → Bool) (p : Payload) (body : State → Reply × State) (s : State) : Reply × State :=
  if p.length < 5 || p.length ≠ recordLength p then refuse .badLength s
  else if !slotValid (u8 p 0) then refuse .badValue s
  else if !recordOk p then refuse .badValue s
  else body s

/-- A slot takes the frame's record, clamped; OK or CLAMPED, with the slot number (R7, R9, R10). -/
def storeFrame (i : Fin 24) (p : Payload) (s : State) : Reply × State :=
  accept (clampedIf (recordClamped s.ge.raster p)) [byte (slotNumber i)]
    (putSlot i (some (storedRecord s.ge.raster p)) s)

/-- PL_CREATE (R7, R9). -/
def plCreate (p : Payload) : State → Reply × State :=
  recordChecked (· ≤ 24) p fun s =>
    match slotOf (u8 p 0) with
    | some i => if (slotAt s.pt i).isSome then refuse .slotTaken s else storeFrame i p s
    | none =>
      match lowestFree s.pt with
      | some i => storeFrame i p s
      | none => refuse .tableFull s

/-- PL_CREATE as a command. -/
def execPlCreate (p : Payload) (s : State) : Host.Outcome State Fault Refusal := request plCreate p s

/-- The Active Setup is modified if a slot is its source (R10, R13, R23). -/
def modifyIfSource (i : Fin 24) (s : State) : State :=
  s.mapSetup fun a => { a with modified := a.modified || a.source = some i }

/-- PL_WRITE (R7, R10). -/
def plWrite (p : Payload) : State → Reply × State :=
  recordChecked (fun n => 1 ≤ n && n ≤ 24) p fun s =>
    match slotOf (u8 p 0) with
    | none => refuse .badValue s
    | some i => if (slotAt s.pt i).isNone then refuse .slotFree s else storeFrame i p (modifyIfSource i s)

/-- PL_WRITE as a command. -/
def execPlWrite (p : Payload) (s : State) : Host.Outcome State Fault Refusal := request plWrite p s

/-- A request whose first byte names a slot of 1 to 24 (R8). -/
def withSlot (p : Payload) (body : Fin 24 → State → Reply × State) (s : State) : Reply × State :=
  match slotOf (u8 p 0) with
  | none => refuse .badValue s
  | some i => body i s

/-- A request on a READY slot (R12, R13). -/
def withReady (p : Payload) (body : Fin 24 → Placement → State → Reply × State) : State → Reply × State :=
  withSlot p fun i s =>
    match slotAt s.pt i with
    | none => refuse .slotFree s
    | some r => body i r s

/-- PL_READ (R12). -/
def plRead (p : Payload) : State → Reply × State :=
  ofLength 1 p (withReady p fun i r s =>
    accept .ok (byte (slotNumber i) :: mark (s.pt.park = some i) :: recordBytes r) s)

/-- PL_READ as a command. -/
def execPlRead (p : Payload) (s : State) : Host.Outcome State Fault Refusal := request plRead p s

/-- The state after a retire: the slot FREE, and the park slot and the source slot cleared where they name it (R13). -/
def retire (i : Fin 24) (s : State) : State :=
  let s := (putSlot i none s).mapPt fun t => if t.park = some i then { t with park := none } else t
  s.mapSetup fun a => if a.source = some i then { a with source := none, modified := true } else a

/-- PL_RETIRE (R13). -/
def plRetire (p : Payload) : State → Reply × State :=
  ofLength 1 p (withReady p fun i _ s =>
    accept .ok [byte (slotNumber i), marks [s.pt.park = some i, s.setup.source = some i]] (retire i s))

/-- PL_RETIRE as a command. -/
def execPlRetire (p : Payload) (s : State) : Host.Outcome State Fault Refusal := request plRetire p s

/-- The READY slots from a start slot upward with their labels (R18). -/
def readyFrom (t : PlacementTable) (start : Fin 24) : List (Fin 24 × List Byte) :=
  slotIndices.filterMap fun i => if start ≤ i then (slotAt t i).map fun r => (i, r.label) else none

/-- The entries that the scan takes: in order, while fewer than `room` are taken and each fits the bytes left; it stops
at the first that does not (R18). -/
def takeEntries : Nat → Nat → List (Fin 24 × List Byte) → List (Fin 24 × List Byte)
  | _, _, [] => []
  | 0, _, _ :: _ => []
  | room + 1, bytes, e :: rest =>
    if 2 + e.2.length ≤ bytes then e :: takeEntries room (bytes - (2 + e.2.length)) rest else []

/-- The bytes left for entries in a PL_LIST response (R18). -/
def listBytes : Nat := 46

/-- A PL_LIST entry: slot, label length, label (R18, R186). -/
def listEntry (e : Fin 24 × List Byte) : List Byte := byte (slotNumber e.1) :: byte e.2.length :: e.2

/-- The payload of a PL_LIST response: entry count, entries, and the count of READY slots above the last one returned
(R18, R19). -/
def listPayload (t : PlacementTable) (start : Fin 24) (maximum : Nat) : List Byte :=
  let ready := readyFrom t start
  let taken := takeEntries maximum listBytes ready
  byte taken.length :: taken.flatMap listEntry ++ [byte (ready.length - taken.length)]

/-- PL_LIST (R17 to R19). -/
def plList (p : Payload) : State → Reply × State :=
  ofLength 2 p (withSlot p fun start s =>
    if 1 ≤ u8 p 1 && u8 p 1 ≤ 24 then accept .ok (listPayload s.pt start (u8 p 1)) s else refuse .badValue s)

/-- PL_LIST as a command. -/
def execPlList (p : Payload) (s : State) : Host.Outcome State Fault Refusal := request plList p s

/-- The park slot takes a value; the response gives the previous and the new one (R15). -/
def setPark (park : Option (Fin 24)) (s : State) : Reply × State :=
  accept .ok [byte (optSlotNumber s.pt.park), byte (optSlotNumber park)] (s.mapPt fun t => { t with park := park })

/-- PL_SET_PARK (R15). -/
def plSetPark (p : Payload) : State → Reply × State :=
  ofLength 1 p fun s =>
    if u8 p 0 = 0 then setPark none s
    else withReady p (fun i _ s => setPark (some i) s) s

/-- PL_SET_PARK as a command. -/
def execPlSetPark (p : Payload) (s : State) : Host.Outcome State Fault Refusal := request plSetPark p s

end Sys2Proof.Machine
end

