-- ==== Sys2Proof/Machine/Recalls.lean ====
section
/-! DEFINITION. Recall, capture and RC_QUERY (02_recall_and_the_active_setup, R26 to R39). -/

namespace Sys2Proof.Machine

/-! ## PL_RECALL -/

/-- The placement names an axis: it holds a target for it (R26). -/
def names (r : Placement) (ax : Axis) : Bool := (r.targets.get ax).isSome

/-- The next recall tag: 255 is followed by 1 (R25). -/
def nextTag (tag : Nat) : Nat := if tag = 255 then 1 else tag + 1

/-- A recall in flight ends SUPERSEDED (R27). -/
def supersede (s : State) : State :=
  match s.setup.recallState with
  | .none => s
  | .moving | .applying => endRecall .superseded true s

/-- The new recall in flight, every named axis waiting (R25, R30). -/
def newRecall (i : Fin 24) (tag : Nat) (r : Placement) : Recall where
  slot := i
  tag := tag
  progress := .make fun ax => if names r ax then .waiting else .notNamed
  applied := false
  outcome := none

/-- A recall acts on one axis that its placement names (R28, R92): the running motion ends RETARGETED, the pending entry is
removed, and a RECALL entry is appended. -/
def recallAxis (r : Placement) (tag : Nat) (s : State) (ax : Axis) : State :=
  (r.targets.get ax).elim s fun target =>
    appendEntry ⟨ax, .ofRecall target tag⟩ (clearAxis ax (fun _ => .retargeted) .retargeted s)

/-- The Active Setup takes its copies of the placement (R28). -/
def takeCopies (i : Fin 24) (r : Placement) (s : State) : State :=
  s.mapSetup fun a =>
    { a with source := some i, modified := false, quiet := r.quiet, focusOn := r.focusOn
             base := .make fun ax => (r.targets.get ax).or (a.base.get ax) }

/-- The focus-compensation choice taken by a recall: turning it off zeroes the compensation at once (R108). -/
def takeFocusChoice (on : Bool) (s : State) : State :=
  if s.setup.focusOn && !on then s.mapFc fun f => { f with comp := 0 } else s

/-- The state of a recall after its acceptance, before its axes act: the earlier recall superseded, the tag advanced, and
the new recall in MOVING if it names an axis (R25, R27, R28). -/
def beginRecall (i : Fin 24) (r : Placement) (s : State) : State :=
  let s := supersede s
  let tag := nextTag s.setup.tag
  s.mapSetup fun a =>
    { a with tag := tag, current := some (newRecall i tag r), recallState := .moving
             pendingGeometry := r.geometry.map (reclamp s.ge.raster) }

/-- The geometry step of a recall that names no axis (R29): its geometry is applied and the recall waits for a swap, or
it ends COMPLETE at once. -/
def axislessRecall (s : State) : State :=
  match s.setup.current with
  | none => s
  | some r => axisPhaseEnd r s

/-- An accepted recall (R27 to R29). A quiet level with lower caps acts on the fans at once (R122). -/
def acceptRecall (i : Fin 24) (r : Placement) (s : State) : State :=
  let s := beginRecall i r s
  let s := axes.foldl (recallAxis r s.setup.tag) s
  let s := capCut (takeCopies i r (takeFocusChoice r.focusOn s))
  if axes.any (names r) then s else axislessRecall s

/-- The response payload of an accepted recall (R29, R187). -/
def recallPayload (i : Fin 24) (r : Placement) (s : State) : List Byte :=
  [byte s.setup.tag, byte (slotNumber i), axisSet (names r), byte (recallCode s.setup.recallState)]

/-- PL_RECALL (R26 to R29). -/
def plRecall (p : Payload) : State → Reply × State :=
  ofLength 1 p (withSlot p fun i s =>
    if s.mc.mode ≠ .run then refuse .wrongMode s
    else match slotAt s.pt i with
    | none => refuse .slotFree s
    | some r =>
      if axes.any fun ax => names r ax && s.countsUncalibrated ax then refuse .notCalibrated s
      else if axes.any fun ax => names r ax && s.countsFaulted ax then refuse .axisFault s
      else
        let s' := acceptRecall i r s
        accept (clampedIf (r.geometry.any fun g => reclamp s.ge.raster g ≠ g)) (recallPayload i r s') s')

/-- PL_RECALL as a command. -/
def execPlRecall (p : Payload) (s : State) : Host.Outcome State Fault Refusal := request plRecall p s

/-! ## PL_CAPTURE -/

/-- The length check of PL_CAPTURE: the slot alone, or the slot, a label length and the label (R186). -/
def captureLengthOk (p : Payload) : Bool := p.length = 1 || 2 ≤ p.length && p.length = 2 + u8 p 1

/-- The label that a capture carries, if any (R37, R186). -/
def captureLabel (p : Payload) : Option (List Byte) := if p.length = 1 then none else some (p.drop 2)

/-- The FOCUS target of a capture before its clamp: the measured position less the applied compensation (R38). -/
def captureFocus (s : State) (measured : Nat) : Int := measured - s.fc.applied

/-- The target that a capture stores for an axis (R38). -/
def captureTarget (s : State) (ax : Axis) : Option Nat :=
  (s.lens.get ax).cal.map fun c =>
    let measured := normalise c (s.rawNow ax)
    if ax = .focus then clampNat (captureFocus s measured) 4000 else measured

/-- The focus clamp changed the stored value (R38). -/
def captureClamped (s : State) : Bool :=
  (s.lens.get .focus).cal.any fun c =>
    let x := captureFocus s (normalise c (s.rawNow .focus))
    clampInt x 0 4000 ≠ x

/-- The record that a capture stores in a slot (R38). -/
def captured (label : Option (List Byte)) (old : Option Placement) (s : State) : Placement where
  label := label.getD (old.elim [] (·.label))
  targets := .make (captureTarget s)
  geometry := some s.ge.active
  quiet := s.setup.quiet
  focusOn := s.setup.focusOn

/-- The Active Setup after a capture (R38). -/
def afterCapture (i : Fin 24) (r : Placement) (s : State) : State :=
  s.mapSetup fun a => { a with source := some i, modified := false, base := r.targets }

/-- PL_CAPTURE (R37, R38). -/
def plCapture (p : Payload) (s : State) : Reply × State :=
  if !captureLengthOk p then refuse .badLength s
  else withSlot p (fun i s =>
    if !(captureLabel p).all labelOk then refuse .badValue s
    else if s.mc.mode ≠ .run then refuse .wrongMode s
    else if !s.lensAtRest then refuse .inMotion s
    else
      let r := captured (captureLabel p) (slotAt s.pt i) s
      accept (clampedIf (captureClamped s)) [byte (slotNumber i), mark (slotAt s.pt i).isNone]
        (afterCapture i r (putSlot i (some r) s))) s

/-- PL_CAPTURE as a command. -/
def execPlCapture (p : Payload) (s : State) : Host.Outcome State Fault Refusal := request plCapture p s

/-! ## RC_QUERY -/

/-- An optional two-byte value, 0 when absent (R185). -/
def optLe16 (o : Option Nat) : List Byte := le16 (o.getD 0)

/-- The current recall as RC_QUERY reports it, in MOVING and APPLYING: slot and progress (R39). -/
def currentBytes (a : ActiveSetup) : List Byte :=
  match a.current with
  | none => [0, 0, 0, 0, 0]
  | some r => byte (slotNumber r.slot) :: r.progress.toList.map fun x => byte (progressCode x)

/-- The last recall report as RC_QUERY reports it, after its marks (R39, R188). -/
def reportBytes : Option Report → List Byte
  | none => [0, 0, 0, 0, 0, 0, 0]
  | some r => [byte r.tag, byte (slotNumber r.slot), byte (outcomeCode r.outcome)]
      ++ r.statuses.toList.map fun x => byte (reportCode x)

/-- The RC_QUERY response (R39, R188). -/
def setupBytes (a : ActiveSetup) (active : Insets) : List Byte :=
  [byte (optSlotNumber a.source),
    marks [a.modified, a.focusOn, a.tref.isSome, a.pendingGeometry.isSome, a.report.isSome, a.report.any (·.geometry)],
    marks (a.base.toList.map Option.isSome)]
  ++ a.base.toList.flatMap optLe16 ++ insetBytes active
  ++ insetBytes (a.pendingGeometry.getD ⟨0, 0, 0, 0, 0, 0⟩)
  ++ [byte a.quiet] ++ le16s (a.tref.getD 0) ++ [byte (recallCode a.recallState), byte a.tag]
  ++ currentBytes a ++ reportBytes a.report

/-- RC_QUERY (R39). -/
def rcQuery (p : Payload) : State → Reply × State :=
  ofLength 0 p fun s => accept .ok (setupBytes s.setup s.ge.active) s

/-- RC_QUERY as a command. -/
def execRcQuery (p : Payload) (s : State) : Host.Outcome State Fault Refusal := request rcQuery p s

end Sys2Proof.Machine
end

