-- ==== Sys2Proof/Machine/LensRequests.lean ====
section
/-! DEFINITION. The lens requests (04, R60, R79; 05, R85 to R91, R99). -/

namespace Sys2Proof.Machine

/-- A request whose first byte names an axis (R60, R85, R86, R91). -/
def withAxis (p : Payload) (body : Axis → State → Reply × State) (s : State) : Reply × State :=
  match axisOf (u8 p 0) with
  | none => refuse .badValue s
  | some ax => body ax s

/-- Checks 4 and 5 of R85: the axis counts neither as uncalibrated nor as in fault. -/
def ifHealthy (ax : Axis) (body : State → Reply × State) (s : State) : Reply × State :=
  if s.countsUncalibrated ax then refuse .notCalibrated s
  else if s.countsFaulted ax then refuse .axisFault s
  else body s

/-! ## What a request displaces -/

/-- A running motion that an end request still reaches: one that is not in BRAKE, whose end is fixed (R71, log 16: DEDUCED). -/
def endable (s : State) (ax : Axis) : Option Motion := (s.lens.get ax).motion.filter (·.phase ≠ .brake)

/-- What a request displaces on an axis, or an LN_STOP does to it, with its origin: 2 a running motion, 1 a pending
entry, 0 nothing (R85, R88, R90, R187, log 16: DEDUCED). -/
def displacedBytes (s : State) (ax : Axis) : List Byte :=
  match endable s ax, s.entryOf ax with
  | some m, _ => [2, byte (originCode (originOf m.job))]
  | none, some e => [1, byte (originCode (originOf e.job))]
  | none, none => [0, byte (optOriginCode none)]

/-- The entry just appended for an axis has been dispatched within the request: none is pending for it any more. A
dispatch that comes between the request and its response still marks it, when the response is formed (`formedPayload`;
R85, R88, R91). -/
def dispatchedMark (s : State) (ax : Axis) : Byte := mark (s.entryOf ax).isNone

/-! ## LN_MOVE -/

/-- The base target of an axis is set and the setup is modified (R23, R85). -/
def setBase (ax : Axis) (target : Nat) (s : State) : State :=
  s.mapSetup fun a => { a with base := a.base.set ax (some target), modified := true }

/-- LN_MOVE (R85). -/
def lnMove (p : Payload) : State → Reply × State :=
  ofLength 3 p (withAxis p fun ax s =>
    if s.mc.mode ≠ .run then refuse .wrongMode s
    else ifHealthy ax (fun s =>
      let target := min (u16 p 1) 4000
      let s' := setBase ax target
        (appendAwaited 4 ⟨ax, .move target⟩ (clearAxis ax (fun _ => .retargeted) .retargeted s))
      accept (clampedIf (4000 < u16 p 1)) (le16 target ++ displacedBytes s ax ++ [dispatchedMark s' ax]) s') s)

/-- LN_MOVE as a command. -/
def execLnMove (p : Payload) (s : State) : Host.Outcome State Fault Refusal := request lnMove p s

/-! ## LN_JOG -/

/-- The job is a jog in a direction. -/
def jogs (up : Bool) (job : Job) : Bool := (jobJog job).any (·.1 = up)

/-- The job with a new hold deadline, if it is a jog (R87). -/
def refreshJob (deadline : Time) : Job → Job
  | .jog up _ => .jog up deadline
  | .move t => .move t
  | .ofRecall t g => .ofRecall t g
  | .trim t => .trim t
  | .park t => .park t
  | .learn => .learn

/-- A running jog that an LN_JOG in a direction refreshes: one in that direction that is not in BRAKE (R87). -/
def refreshable (s : State) (ax : Axis) (up : Bool) : Bool := (endable s ax).any fun m => jogs up m.job

/-- A pending JOG entry that an LN_JOG in a direction refreshes (R87). -/
def refreshableEntry (s : State) (ax : Axis) (up : Bool) : Bool := (s.entryOf ax).any fun e => jogs up e.job

/-- The running jog's hold deadline moves (R87). -/
def refreshMotion (ax : Axis) (deadline : Time) (s : State) : State :=
  s.mapAxis ax fun r => { r with motion := r.motion.map fun m => { m with job := refreshJob deadline m.job } }

/-- The pending JOG entry's hold deadline moves; it keeps its place (R87). -/
def refreshEntry (ax : Axis) (deadline : Time) (s : State) : State :=
  s.mapMq fun q =>
    { q with entries := q.entries.map fun e => if e.axis = ax then { e with job := refreshJob deadline e.job } else e }

/-- The status that a new jog asks of the running motion: RETARGETED of a jog, which then runs in the other direction,
STOPPED of any other (R88). -/
def jogSupersedes (m : Motion) : EndStatus := if isJog m then .retargeted else .stopped

/-- The LN_JOG response: kind, what was displaced, the dispatched mark, and the time to the deadline, which is always
250 ms (R87, R88, R187, log 27: DEDUCED). -/
def jogPayload (kind : Byte) (displaced : List Byte) (dispatched : Byte) : List Byte :=
  kind :: displaced ++ [dispatched] ++ le16 (inMs jogHold)

/-- LN_JOG (R86 to R88). -/
def lnJog (p : Payload) : State → Reply × State :=
  ofLength 2 p (withAxis p fun ax s =>
    if 1 < u8 p 1 then refuse .badValue s
    else if s.mc.mode ≠ .run then refuse .wrongMode s
    else
      let up := decide (u8 p 1 = 1)
      let deadline := s.now + jogHold
      let s := s.mapSetup fun a => { a with modified := true }
      let refreshed := jogPayload 0 [0, byte (optOriginCode none)] 0
      if refreshable s ax up then accept .ok refreshed (refreshMotion ax deadline s)
      else if refreshableEntry s ax up then accept .ok refreshed (refreshEntry ax deadline s)
      else
        let s' := appendAwaited 3 ⟨ax, .jog up deadline⟩ (clearAxis ax jogSupersedes .stopped s)
        accept .ok (jogPayload 1 (displacedBytes s ax) (dispatchedMark s' ax)) s')

/-- LN_JOG as a command. -/
def execLnJog (p : Payload) (s : State) : Host.Outcome State Fault Refusal := request lnJog p s

/-! ## LN_STOP -/

/-- The axes that a selector names: 0 to 3 one axis, 4 all four (R79, R90). -/
def selected (n : Nat) : Option (List Axis) := if n = 4 then some axes else (axisOf n).map ([·])

/-- LN_STOP on one axis: the motion's end request, and the entry's removal (R90). -/
def stopAxis (s : State) (ax : Axis) : State := removeEntry ax .stopped (requestEnd ax stopStatus s)

/-- The state after an LN_STOP (R35, R90): a stop of all axes first abandons a recall in MOVING; dispatch runs once after
the ends and removals (log 15: DEDUCED), and in COOLDOWN its end is judged (R167). -/
def stopAxes (axs : List Axis) (all : Bool) (s : State) : State :=
  let s := if all && s.setup.recallState = .moving then abandonRecall true s else s
  afterLens (axs.foldl stopAxis s)

/-- LN_STOP (R90). -/
def lnStop (p : Payload) : State → Reply × State :=
  ofLength 1 p fun s =>
    match selected (u8 p 0) with
    | none => refuse .badValue s
    | some axs => accept .ok (axs.flatMap (displacedBytes s)) (stopAxes axs (u8 p 0 = 4) s)

/-- LN_STOP as a command. -/
def execLnStop (p : Payload) (s : State) : Host.Outcome State Fault Refusal := request lnStop p s

/-! ## LN_LEARN -/

/-- The axis is MOVING or the queue holds an entry for it (R60, R91). -/
def axisBusy (s : State) (ax : Axis) : Bool := s.moving ax || (s.entryOf ax).isSome

/-- LN_LEARN (R91). -/
def lnLearn (p : Payload) : State → Reply × State :=
  ofLength 1 p (withAxis p fun ax s =>
    if s.mc.mode ≠ .run then refuse .wrongMode s
    else if axisBusy s ax then refuse .inMotion s
    else
      let s' := appendAwaited 0 ⟨ax, .learn⟩ s
      accept .ok [dispatchedMark s' ax] s')

/-- LN_LEARN as a command. -/
def execLnLearn (p : Payload) (s : State) : Host.Outcome State Fault Refusal := request lnLearn p s

/-! ## LN_SET_RANGE -/

/-- LN_SET_RANGE (R60). -/
def lnSetRange (p : Payload) : State → Reply × State :=
  ofLength 5 p (withAxis p fun ax s =>
    let neg : Raw := BitVec.ofNat 12 (u16 p 1)
    let pos : Raw := BitVec.ofNat 12 (u16 p 3)
    if 4095 < u16 p 1 || 4095 < u16 p 3 then refuse .badValue s
    else if !validSpan neg pos then refuse .badValue s
    else if axisBusy s ax then refuse .inMotion s
    else accept .ok [] (s.mapAxis ax fun r => { r with state := .idle, cal := some ⟨neg, pos⟩ }))

/-- LN_SET_RANGE as a command. -/
def execLnSetRange (p : Payload) (s : State) : Host.Outcome State Fault Refusal := request lnSetRange p s

/-! ## LN_QUERY -/

/-- An optional count of one byte, 0 when absent (R185). -/
def optByte (o : Option Nat) : Byte := byte (o.getD 0)

/-- The time left to a deadline in milliseconds; 0 when there is none or it has passed (R79, R99). -/
def timeLeft (now : Time) (deadline : Option Time) : List Byte := le16 (inMs (deadline.elim 0 (· - now)))

/-- The bytes of a jog in a response: its direction and the time left to its deadline (R79, R99). -/
def jogBytes (now : Time) (job : Option Job) : List Byte :=
  let jog := job.bind jobJog
  mark (jog.any (·.1)) :: timeLeft now (jog.map (·.2))

/-- The duty class applies while the drive is on (R61, log 17: DEDUCED). -/
def dutyByte (m : Motion) : Byte := if driveOn m.phase && !m.between then byte (dutyCode m.duty) else 0

/-- The running motion's fields of an axis record, from origin to time to deadline (R79, R188). -/
def motionBytes (now : Time) (o : Option Motion) : List Byte :=
  [optByte (o.map fun m => originCode (originOf m.job)), optByte (o.bind fun m => jobTag m.job)]
  ++ optLe16 (o.bind fun m => jobTarget m.job)
  ++ [optByte (o.map fun m => phaseCode m.phase),
      optByte (o.bind fun m => if m.phase = .paused then m.pause.map fun x => phaseCode x.phase else none)]
  ++ optLe16 (o.bind (·.legEnd))
  ++ [o.elim 0 dutyByte, optByte (o.map (·.corrections))]
  ++ le16 (min (inMs (o.elim 0 fun m => now - m.dispatched)) 65535)
  ++ jogBytes now (o.map (·.job))

/-- The last end's fields of an axis record (R79, R188). -/
def lastEndBytes (o : Option LastEnd) : List Byte :=
  [optByte (o.map fun e => originCode e.origin), optByte (o.bind (·.tag)), optByte (o.map fun e => endCode e.status)]
  ++ optLe16 (o.bind (·.position))

/-- An axis record of LN_QUERY (R79, R188). -/
def axisRecordBytes (s : State) (ax : Axis) : List Byte :=
  let r := s.lens.get ax
  [byte (axisNumber ax), byte (stateCode r.state),
    marks [r.cal.isSome, (s.reading ax).isSome, (s.position ax).isSome, r.motion.isSome, r.lastEnd.isSome,
      (r.lastEnd.bind (·.position)).isSome]]
  ++ optLe16 (r.cal.map (·.neg.toNat)) ++ optLe16 (r.cal.map (·.pos.toNat))
  ++ optLe16 ((s.reading ax).map (·.toNat)) ++ optLe16 (s.position ax)
  ++ motionBytes s.now r.motion ++ lastEndBytes r.lastEnd

/-- An entry of the queue view (R99, R188). -/
def entryBytes (now : Time) (e : Entry) : List Byte :=
  [byte (axisNumber e.axis), byte (originCode (originOf e.job))] ++ optLe16 (jobTarget e.job)
  ++ [optByte (jobTag e.job)] ++ jogBytes now (some e.job)

/-- The queue view (R99, R188). -/
def queueBytes (s : State) : List Byte :=
  [byte s.mq.budget, byte s.unitsHeld, byte (s.mq.budget - s.unitsHeld), byte s.mq.entries.length]
  ++ s.mq.entries.flatMap (entryBytes s.now)

/-- LN_QUERY (R79, R99). -/
def lnQuery (p : Payload) : State → Reply × State :=
  ofLength 1 p fun s =>
    match selected (u8 p 0) with
    | none => refuse .badValue s
    | some axs =>
      accept .ok (axs.flatMap (axisRecordBytes s) ++ if u8 p 0 = 4 then queueBytes s else []) s

/-- LN_QUERY as a command. -/
def execLnQuery (p : Payload) (s : State) : Host.Outcome State Fault Refusal := request lnQuery p s

end Sys2Proof.Machine
end

