-- ==== Sys2Proof/Machine/LensEvents.lean ====
section
/-! DEFINITION. The timers of a running motion and of a pending jog (04, R65 to R78; 05, R89). -/

namespace Sys2Proof.Machine

/-- A timer of the running motion of an axis has run out: the test on the motion says whether it is due, and the effect
gives the motion's fate; an end is followed by dispatch and, in COOLDOWN, by the judgment of its end (R73, R97, R167). -/
def motionEvent (ax : Axis) (due : Time → Motion → Bool) (fate : State → Motion → Fate) (s : State) :
    Host.Outcome State Fault Refusal :=
  event ((s.lens.get ax).motion.any (due s.now))
    (stepAxis ax fun s => (s.lens.get ax).motion.elim s fun m => applyFate ax (fate s m) s) s

/-- The settle wait has run 30 ms (R65). -/
def settleWaitOver (now : Time) (m : Motion) : Bool :=
  m.phase = .settle && m.settle.any fun st => st.waiting && st.start + settleWait ≤ now

/-- The samples of the settle are judged from now on (R65). -/
def endSettleWait (m : Motion) : Motion := { m with settle := m.settle.map fun st => { st with waiting := false } }

/-- SETTLE_WAIT_EXPIRY (R65). -/
def execSettleWaitExpiry (ax : Axis) (s : State) : Host.Outcome State Fault Refusal :=
  motionEvent ax settleWaitOver (fun _ m => .goes (endSettleWait m)) s

/-- A positioning motion has not ended 15 s after its dispatch; BRAKE has its end fixed (R67). -/
def moveTimedOut (now : Time) (m : Motion) : Bool :=
  isPositioning m && m.phase ≠ .brake && m.dispatched + moveLimit ≤ now

/-- MOVE_TIMEOUT (R67). -/
def execMoveTimeout (ax : Axis) (s : State) : Host.Outcome State Fault Refusal :=
  motionEvent ax moveTimedOut (fun _ _ => .ends .timeout) s

/-- The brake has run 50 ms (R71). -/
def brakeOver (now : Time) (m : Motion) : Bool := m.phase = .brake && m.brake.any fun b => b.start + brakeTime ≤ now

/-- BRAKE_END (R71). -/
def execBrakeEnd (ax : Axis) (s : State) : Host.Outcome State Fault Refusal :=
  motionEvent ax brakeOver (fun _ m => .ends (cutStatus .stopped m)) s

/-- The resume timer of a paused motion has run 100 ms (R70). -/
def resumeDue (now : Time) (m : Motion) : Bool :=
  m.phase = .paused && m.pause.any fun x => x.resume.any (· + resumeTime ≤ now)

/-- RESUME_TIMER_EXPIRY (R70). -/
def execResumeTimerExpiry (ax : Axis) (s : State) : Host.Outcome State Fault Refusal :=
  motionEvent ax resumeDue (fun s m => resumeMotion (s.lens.get ax).cal s.now (s.rawNow ax) m) s

/-- A pause has lasted 2 s (R70). -/
def pauseOver (now : Time) (m : Motion) : Bool := m.phase = .paused && m.pause.any fun x => x.start + pauseLimit ≤ now

/-- PAUSE_EXPIRY (R70). -/
def execPauseExpiry (ax : Axis) (s : State) : Host.Outcome State Fault Refusal :=
  motionEvent ax pauseOver (fun _ _ => .ends .supplyLow) s

/-- A jog that drives stands at an earlier stage than its time since dispatch gives (R74, log 26: DEDUCED). -/
def jogStageDue (now : Time) (m : Motion) : Bool :=
  isJog m && driveOn m.phase && m.phase ≠ jogStage (now - m.dispatched)

/-- JOG_STAGE_CHANGE (R74). -/
def execJogStageChange (ax : Axis) (s : State) : Host.Outcome State Fault Refusal :=
  motionEvent ax jogStageDue (fun s m => .goes (atJogStage s.now m)) s

/-- The hold deadline of a running jog has passed; BRAKE has its end fixed (R75, log 26: DEDUCED). -/
def jogDeadlineDue (now : Time) (m : Motion) : Bool := m.phase ≠ .brake && (jobJog m.job).any (·.2 ≤ now)

/-- JOG_DEADLINE (R75). -/
def execJogDeadline (ax : Axis) (s : State) : Host.Outcome State Fault Refusal :=
  motionEvent ax jogDeadlineDue (fun s m => endRequest s.now .jogEnd m) s

/-- A learn leg has run 20 s from its start (R76, R78, log 24: DEDUCED). -/
def learnLegOver (now : Time) (m : Motion) : Bool :=
  isLearn m && m.phase ≠ .brake && !m.between && m.legStart + learnLegLimit ≤ now

/-- LEARN_LEG_TIMEOUT (R78). -/
def execLearnLegTimeout (ax : Axis) (s : State) : Host.Outcome State Fault Refusal :=
  motionEvent ax learnLegOver (fun _ _ => .ends .learnFail) s

/-- The hold deadline of a pending JOG entry has passed (R89). -/
def pendingJogDue (s : State) (ax : Axis) : Bool :=
  (s.entryOf ax).any fun e => (jobJog e.job).any (·.2 ≤ s.now)

/-- PENDING_JOG_EXPIRY (R89). -/
def execPendingJogExpiry (ax : Axis) (s : State) : Host.Outcome State Fault Refusal :=
  event (pendingJogDue s ax) (fun s => dispatch (removeEntry ax .jogEnd s)) s

end Sys2Proof.Machine
end

