-- ==== Sys2Proof/Machine/GeometryRequests.lean ====
section
/-! DEFINITION. The geometry requests (08, R134 to R137, R148) and the events of the band table: a compute's end, the
FRAME_START input and the timing timer (09, R151 to R154). -/

namespace Sys2Proof.Machine

/-! ## GM_SET and GM_NUDGE -/

/-- The discard of a pending geometry, which a recall in MOVING may hold (R33, R134). -/
def discardPending (s : State) : State :=
  if s.setup.recallState = .moving then s.mapSetup fun a => { a with pendingGeometry := none } else s

/-- A geometry request of six exact insets (R134, R135): they are clamped and become the active geometry, a pending
geometry is discarded, the setup is modified and a compute starts. CLAMPED if any inset lay outside its limits. -/
def setInsets (top bottom tl tr bl br : Int) (s : State) : Reply × State :=
  let g := clampInsets s.ge.raster top bottom tl tr bl br
  let clamped : Bool := [top, bottom, tl, tr, bl, br] ≠ [(g.top : Int), g.bottom, g.tl, g.tr, g.bl, g.br]
  let discarded : Bool := s.setup.recallState = .moving && s.setup.pendingGeometry.isSome
  let s := discardPending (s.mapGe fun e => { e with active := g })
  accept (clampedIf clamped) (insetBytes g ++ [mark discarded])
    (startCompute (s.mapSetup fun a => { a with modified := true }))

/-- GM_SET (R134). -/
def gmSet (p : Payload) : State → Reply × State :=
  ofLength 12 p (setInsets (u16 p 0) (u16 p 2) (u16 p 4) (u16 p 6) (u16 p 8) (u16 p 10))

/-- GM_SET as a command. -/
def execGmSet (p : Payload) (s : State) : Host.Outcome State Fault Refusal := request gmSet p s

/-- GM_NUDGE (R135). -/
def gmNudge (p : Payload) : State → Reply × State :=
  ofLength 12 p fun s =>
    let g := s.ge.active
    setInsets (g.top + s16 p 0) (g.bottom + s16 p 2) (g.tl + s16 p 4) (g.tr + s16 p 6) (g.bl + s16 p 8)
      (g.br + s16 p 10) s

/-- GM_NUDGE as a command. -/
def execGmNudge (p : Payload) (s : State) : Host.Outcome State Fault Refusal := request gmNudge p s

/-! ## GM_QUERY -/

/-- The GM_QUERY response (R148, R188). -/
def geometryBytes (e : GeometryEngine) : List Byte :=
  let p := panelTerms e.orient e.active
  insetBytes e.active ++ le16 e.raster.wp ++ le16 e.raster.hp ++ le16 (rowLimit e.raster) ++ le16 (cornerLimit e.raster)
  ++ [byte (orientCode e.orient), marks [mirrorV e.orient, mirrorH e.orient]]
  ++ le16 p.top ++ le16 p.bottom ++ le16 p.tl ++ le16 p.tr ++ le16 p.bl ++ le16 p.br
  ++ le16 (imageEnd e.raster p) ++ le16 (imageHeight e.raster p) ++ le16 (topWidth e.raster p)
  ++ le16 (bottomWidth e.raster p) ++ le16 (bandHeight e.raster)
  ++ [byte (activeBandCount e.raster), byte (stagedCode e.staged), e.generation, byte (timingCode e.timing)]

/-- GM_QUERY (R148). -/
def gmQuery (p : Payload) : State → Reply × State :=
  ofLength 0 p fun s => accept .ok (geometryBytes s.ge) s

/-- GM_QUERY as a command. -/
def execGmQuery (p : Payload) (s : State) : Host.Outcome State Fault Refusal := request gmQuery p s

/-! ## GM_RASTER and GM_ORIENT -/

/-- GM_RASTER (R136). -/
def gmRaster (p : Payload) : State → Reply × State :=
  ofLength 4 p fun s =>
    let r := clampRaster (u16 p 0) (u16 p 2)
    let g := reclamp r s.ge.active
    accept (clampedIf (r.wp ≠ u16 p 0 || r.hp ≠ u16 p 2))
      (le16 r.wp ++ le16 r.hp ++ insetBytes g ++ [mark (g ≠ s.ge.active)])
      (startCompute (s.mapGe fun e => { e with raster := r, active := g }))

/-- GM_RASTER as a command. -/
def execGmRaster (p : Payload) (s : State) : Host.Outcome State Fault Refusal := request gmRaster p s

/-- GM_ORIENT (R137). -/
def gmOrient (p : Payload) : State → Reply × State :=
  ofLength 1 p fun s =>
    match orientOf (u8 p 0) with
    | none => refuse .badValue s
    | some o =>
      if !s.lensAtRest then refuse .inMotion s
      else accept .ok [byte (orientCode s.ge.orient), byte (orientCode o)]
        (startCompute (s.mapGe fun e => { e with orient := o }))

/-- GM_ORIENT as a command. -/
def execGmOrient (p : Payload) (s : State) : Host.Outcome State Fault Refusal := request gmOrient p s

/-! ## The banks and the frame timing -/

/-- A compute is running (R149). -/
def computing (g : GeometryEngine) : Bool :=
  match g.staged with
  | .computing _ => true
  | .empty | .ready _ => false

/-- The compute that runs has ended: the STAGED bank is READY with its table (R138, R151). -/
def completeCompute (g : GeometryEngine) : GeometryEngine :=
  match g.staged with
  | .computing i => { g with staged := .ready (computeTable i) }
  | .empty | .ready _ => g

/-- COMPUTE_COMPLETE (R151): the table swaps at once while timing is ABSENT and waits for FRAME_START otherwise. -/
def execComputeComplete (s : State) : Host.Outcome State Fault Refusal :=
  event (computing s.ge) (fun s =>
    let s := s.mapGe completeCompute
    if s.ge.timing = .absent then swapIfReady s else s) s

/-- FRAME_START (R153, R154). -/
def execFrameStart (s : State) : Host.Outcome State Fault Refusal :=
  event true (fun s => swapIfReady (s.mapGe fun g => { g with timing := .present (s.now + timingLimit) })) s

/-- The timing timer has reached 100 ms (R154). -/
def timingDue (s : State) : Bool :=
  match s.ge.timing with
  | .absent => false
  | .present expiry => expiry ≤ s.now

/-- TIMING_TIMER_EXPIRY (R154). -/
def execTimingTimerExpiry (s : State) : Host.Outcome State Fault Refusal :=
  event (timingDue s) (fun s => swapIfReady (occur .timingLost (s.mapGe fun g => { g with timing := .absent }))) s

end Sys2Proof.Machine
end

