-- ==== Sys2Proof/Machine/Lookup.lean ====
section
/-! DEFINITION. The lookup port: records, latches and transactions (09, R156 to R160; layouts R189). -/

namespace Sys2Proof.Machine

/-- The marks of a band record: bit 0 ABOVE, bit 1 BELOW, bit 2 EMPTY (R141, R189). -/
def bandMarks (b : Band) : Byte := marks [b.kind = .above, b.kind = .below, b.kind = .empty]

/-- The 17 bytes of a band record of a bank's generation (R156, R189). -/
def bandBytes (generation : BitVec 8) (b : Band) : List Byte :=
  [generation, bandMarks b] ++ le16 b.startRow ++ le16 b.xL16 ++ le16 b.xR16 ++ le24 b.srcRow256 ++ le24 b.hStep
  ++ le24 b.rowStep

/-- The 13 bytes of the frame record, with the timing-present mark of the moment (R157, R189). -/
def frameBytes (generation : BitVec 8) (timing : Timing) (f : FrameValues) : List Byte :=
  [generation, marks [f.mirrorV, f.mirrorH, timing ≠ .absent]] ++ le16 f.wp ++ le16 f.hp ++ le16 f.yT ++ le16 f.yE
  ++ le16 f.bh ++ [byte f.activeBands]

/-- The record that a cursor names, copied whole out of the LIVE bank (R158, R159). -/
def recordAt (g : GeometryEngine) (cursor : Fin 65) : List Byte :=
  if h : cursor.val < 64 then bandBytes g.generation (g.live.bands[cursor.val])
  else frameBytes g.generation g.timing g.live.frame

/-- The record named by a cursor is latched and served (R158, R159). -/
def latchAt (cursor : Fin 65) (s : State) : State :=
  s.mapLp fun _ => { state := .record, cursor := cursor, latched := some (recordAt s.ge cursor), position := 0 }

/-- The cursor after a record is complete: band 63 is followed by the frame record, and that by band 0 (R159). -/
def nextCursor (c : Fin 65) : Fin 65 := c + 1

/-- LOOKUP_TRANSACTION_START: a fall of LK_CS_N (R158). -/
def execLookupTransactionStart (s : State) : Host.Outcome State Fault Refusal :=
  event (s.lp.state = .idle) (·.mapLp fun l => { l with state := .index }) s

/-- The index byte is complete: 0 to 64 becomes the cursor and its record is latched, any other gives VOID (R158). -/
def takeIndex (index : Byte) (s : State) : State :=
  if h : index.toNat < 65 then latchAt ⟨index.toNat, h⟩ s else s.mapLp fun l => { l with state := .void }

/-- LOOKUP_INDEX (R158). -/
def execLookupIndex (index : Byte) (s : State) : Host.Outcome State Fault Refusal :=
  event (s.lp.state = .index) (takeIndex index) s

/-- RECORD_COMPLETE: the last byte of the served record has been sent; the next record is latched at once (R159). -/
def execRecordComplete (s : State) : Host.Outcome State Fault Refusal :=
  event (s.lp.state = .record) (fun s => latchAt (nextCursor s.lp.cursor) s) s

/-- LOOKUP_TRANSACTION_END: a rise of LK_CS_N; the latched copy is discarded and the cursor stays (R160). -/
def execLookupTransactionEnd (s : State) : Host.Outcome State Fault Refusal :=
  event true (·.mapLp fun l => { l with state := .idle, latched := none, position := 0 }) s

end Sys2Proof.Machine
end

