-- ==== Sys2Proof/Machine/Sensors.lean ====
section
/-! DEFINITION. The scanner's events and SN_QUERY (03, R41 to R54). -/

namespace Sys2Proof.Machine

/-! ## SN_QUERY -/

/-- The filtered-present and raw-present marks of a thermistor (R188). -/
def thermistorMarks (t : Thermistor) : Byte := marks [t.filtered.isSome, t.raw.isSome]

/-- An optional raw reading, 0 when absent (R185). -/
def rawBytes (o : Option Raw) : List Byte := optLe16 (o.map (·.toNat))

/-- The ring of a thermistor, oldest first, in eight bytes (R188). -/
def ringBytes (ring : List Raw) : List Byte :=
  (List.range 4).flatMap fun i => rawBytes ring[i]?

/-- The detail of one sensor (R54, R188). -/
def sensorBytes (sn : Sensor) (t : Thermistor) : List Byte :=
  [byte (sensorNumber sn), byte (sensorCode t.state), mark t.bad, byte t.count, byte t.ring.length]
  ++ ringBytes t.ring ++ [thermistorMarks t] ++ le16s (t.filtered.getD 0) ++ rawBytes t.raw

/-- A sensor's part of the summary (R54, R188). -/
def summaryBytes (t : Thermistor) : List Byte :=
  [byte (sensorCode t.state), byte t.count, thermistorMarks t] ++ le16s (t.filtered.getD 0) ++ rawBytes t.raw

/-- A fast channel's part of selector 9 (R54, R188). -/
def fastBytes (e : FastEntry) : List Byte := mark e.raw.isSome :: rawBytes e.raw ++ [byte e.count]

/-- The fast channels and the scan state (R54, R188). -/
def scanBytes (c : Scanner) : List Byte :=
  c.pots.toList.flatMap fastBytes ++ fastBytes c.supply
  ++ mark c.supply.raw.isSome :: optLe16 (c.supply.raw.map supplyMillivolts)
  ++ [byte (fastCode c.fastMode), mark (c.slowInterval = .one), byte (sensorNumber c.slowCursor), c.rounds]

/-- SN_QUERY (R54). -/
def snQuery (p : Payload) : State → Reply × State :=
  ofLength 1 p fun s =>
    match sensorOf (u8 p 0) with
    | some sn => accept .ok (sensorBytes sn (s.scan.therms.get sn)) s
    | none =>
      if u8 p 0 = 8 then accept .ok (s.scan.therms.toList.flatMap summaryBytes) s
      else if u8 p 0 = 9 then accept .ok (scanBytes s.scan) s
      else refuse .badValue s

/-- SN_QUERY as a command. -/
def execSnQuery (p : Payload) (s : State) : Host.Outcome State Fault Refusal := request snQuery p s

/-! ## The slow list -/

/-- A slow conversion falls due (R41, R45): the next one is due an interval after this one's nominal time, and this one
starts when the arbiter grants it. -/
def slowDue (now : Time) (c : Scanner) : Scanner :=
  grant now false { c with slowHeld := true, nextSlow := c.nextSlow.map (· + intervalTime c.slowInterval) }

/-- SLOW_CONVERSION_DUE (R41, R45). -/
def execSlowConversionDue (s : State) : Host.Outcome State Fault Refusal :=
  event (s.reached s.scan.nextSlow) (fun s => s.mapScan (slowDue s.now)) s

/-- The sensor whose conversion has run its 10 µs (R40). -/
def slowEnding (s : State) : Option Sensor :=
  match s.scan.converting with
  | some ⟨.slow sn, start⟩ => if start + conversionTime ≤ s.now then some sn else none
  | some ⟨.fast _, _⟩ | none => none

/-- A thermistor sample is applied to its sensor's entry, setting SENSOR_FAULT if the sensor faults (R48, R51). -/
def takeThermistor (sn : Sensor) (raw : Raw) (s : State) : State :=
  let t := s.scan.therms.get sn
  occurIf (faultsNow raw t) .sensorFault
    (s.mapScan fun c => { c with therms := c.therms.set sn (applySample raw t), converting := none })

/-- The end of a slow conversion: its sample, the evaluation after S7, and then the conversion that waits, so that an
evaluation which ends PERIODIC drops a burst that waited behind S7 (R41, R46, R48; log 37: DESIGN CHOICE). -/
def endSlow (sn : Sensor) (raw : Raw) (s : State) : State :=
  let s := takeThermistor sn raw s
  let s := if sn = .s7 then evaluate s else s
  s.mapScan (grant s.now false)

/-- SLOW_CONVERSION_END (R46, R48). -/
def execSlowConversionEnd (raw : Raw) (s : State) : Host.Outcome State Fault Refusal :=
  event (slowEnding s).isSome (fun s => (slowEnding s).elim s fun sn => endSlow sn raw s) s

/-! ## The fast list -/

/-- A burst falls due (R41, R42): the next one is due 20 ms after this one's nominal time. -/
def burstDue (now : Time) (c : Scanner) : Scanner :=
  grant now false { c with burstWaiting := true, nextBurst := c.nextBurst.map (· + burstPeriod) }

/-- FAST_BURST_DUE (R42). -/
def execFastBurstDue (s : State) : Host.Outcome State Fault Refusal :=
  event (s.scan.fastMode = .periodic && s.reached s.scan.nextBurst) (fun s => s.mapScan (burstDue s.now)) s

/-- The triggers of TRIGGERED mode come 200 µs apart (R43). The timebase stops in STANDBY and starts again at the entry to
STARTING (R164) with a phase that no rule gives: the model keeps the last trigger through STANDBY, so the first one after
a wake is also taken 200 µs or more after the last one before it (log 25: DESIGN CHOICE). -/
def triggerDue (now : Time) (c : Scanner) : Bool :=
  c.fastMode = .triggered && c.lastTrigger.all (· + triggerPeriod ≤ now)

/-- A trigger starts a fast conversion if it finds the converter free (R43). -/
def takeTrigger (now : Time) (c : Scanner) : Scanner :=
  let c := { c with lastTrigger := some now }
  if c.converting.isNone then startFast now c else c

/-- FAST_TRIGGER (R43). -/
def execFastTrigger (s : State) : Host.Outcome State Fault Refusal :=
  event (triggerDue s.now s.scan) (fun s => s.mapScan (takeTrigger s.now)) s

/-- The fast channel whose conversion has run its 10 µs (R40). -/
def fastEnding (s : State) : Option FastChannel :=
  match s.scan.converting with
  | some ⟨.fast ch, start⟩ => if start + conversionTime ≤ s.now then some ch else none
  | some ⟨.slow _, _⟩ | none => none

/-- A fast result is stored in its channel's entry (R44, R47). -/
def storeChannel (ch : FastChannel) (raw : Raw) (c : Scanner) : Scanner :=
  let c := { c with converting := none }
  match ch with
  | .pot ax => { c with pots := c.pots.set ax (storeFast raw (c.pots.get ax)) }
  | .supply => { c with supply := storeFast raw c.supply }

/-- A position sample at the running motion of an axis, if any: the calibration that it may bring, then the motion's
fate (R63 to R77). -/
def positionSample (ax : Axis) (raw : Raw) (s : State) : State :=
  (s.lens.get ax).motion.elim s fun m =>
    let r := sampleMotion (s.lens.get ax).cal s.now raw (Config.stallFirst (axisNumber ax) s.now) m
    stepAxis ax (fun s => applyFate ax r.fate (s.mapAxis ax fun a => { a with cal := r.learned.or a.cal })) s

/-- A supply sample at every running motion (R69, R70). -/
def supplySample (mv : Nat) (s : State) : State :=
  axes.foldl (fun s ax => s.mapAxis ax fun r => { r with motion := r.motion.map (supplyAtMotion s.now mv) }) s

/-- A fast result is handed to the Lens Drive (R44). -/
def handToLens (ch : FastChannel) (raw : Raw) : State → State :=
  match ch with
  | .pot ax => positionSample ax raw
  | .supply => supplySample (supplyMillivolts raw)

/-- The end of a fast conversion: stored, handed on, and the conversion that waits started (R41, R44). -/
def endFast (ch : FastChannel) (raw : Raw) (s : State) : State :=
  let s := handToLens ch raw (s.mapScan (storeChannel ch raw))
  s.mapScan (grant s.now true)

/-- FAST_CONVERSION_END (R44). -/
def execFastConversionEnd (raw : Raw) (s : State) : Host.Outcome State Fault Refusal :=
  event (fastEnding s).isSome (fun s => (fastEnding s).elim s fun ch => endFast ch raw s) s

end Sys2Proof.Machine
end

