-- ==== Sys2Proof/Machine/Fans.lean ====
section
/-! DEFINITION. The cooling requests (07, R114 to R117, R131), the fan update and the tachometers (R119, R124 to R127). -/

namespace Sys2Proof.Machine

/-! ## TH_QUIET, TH_CURVE, TH_MASK, TH_LIMITS -/

/-- The caps of a quiet level, in fan order (R113). -/
def capBytes (quiet : Nat) : List Byte := fans.map fun fan => byte (capOf quiet fan)

/-- TH_QUIET (R117): a lower cap acts at once (R122). -/
def thQuiet (p : Payload) : State → Reply × State :=
  ofLength 1 p fun s =>
    let level := min (u8 p 0) 3
    let s' := s.mapSetup fun a => { a with quiet := level, modified := a.modified || a.quiet ≠ level }
    accept (clampedIf (3 < u8 p 0)) ([byte s.setup.quiet, byte level] ++ capBytes level) (capCut s')

/-- TH_QUIET as a command. -/
def execThQuiet (p : Payload) (s : State) : Host.Outcome State Fault Refusal := request thQuiet p s

/-- A request whose first byte names a fan (R115, R116). -/
def withFan (p : Payload) (body : Fan → State → Reply × State) (s : State) : Reply × State :=
  match fanOf (u8 p 0) with
  | none => refuse .badValue s
  | some fan => body fan s

/-- Point `i` of a TH_CURVE frame, its duty clamped to 100 (R115, R187). -/
def framePoint (p : Payload) (i : Nat) : CurvePoint := ⟨s16 p (1 + 3 * i), min (u8 p (3 + 3 * i)) 100⟩

/-- The curve of a TH_CURVE frame (R115). -/
def frameCurve (p : Payload) : Curve :=
  ⟨framePoint p 0, framePoint p 1, framePoint p 2, framePoint p 3, framePoint p 4, framePoint p 5⟩

/-- The temperatures of a curve increase strictly (R111, R115). -/
def rising (c : Curve) : Bool :=
  c.p0.temp < c.p1.temp && c.p1.temp < c.p2.temp && c.p2.temp < c.p3.temp && c.p3.temp < c.p4.temp
    && c.p4.temp < c.p5.temp

/-- TH_CURVE (R115). -/
def thCurve (p : Payload) : State → Reply × State :=
  ofLength 19 p (withFan p fun fan s =>
    if !rising (frameCurve p) then refuse .badValue s
    else accept (clampedIf ((List.range 6).any fun i => 100 < u8 p (3 + 3 * i))) []
      (s.mapCc fun c => { c with curves := c.curves.set fan (frameCurve p) }))

/-- TH_CURVE as a command. -/
def execThCurve (p : Payload) (s : State) : Host.Outcome State Fault Refusal := request thCurve p s

/-- TH_MASK (R116). -/
def thMask (p : Payload) : State → Reply × State :=
  ofLength 3 p (withFan p fun fan s =>
    let set : SensorSet := p.getD 2 0
    if u8 p 1 = 0 then
      accept .ok [] (s.mapCc fun c => { c with masks := c.masks.set fan { c.masks.get fan with floor := set } })
    else if u8 p 1 = 1 then
      accept .ok [] (s.mapCc fun c => { c with masks := c.masks.set fan { c.masks.get fan with ceiling := set } })
    else refuse .badValue s)

/-- TH_MASK as a command. -/
def execThMask (p : Payload) (s : State) : Host.Outcome State Fault Refusal := request thMask p s

/-- The limits of a TH_LIMITS frame, clamped to 0 to 1500 (R114). -/
def frameLimits (p : Payload) : Limits :=
  ⟨clampInt (s16 p 1) 0 1500, clampInt (s16 p 3) 0 1500, clampInt (s16 p 5) 0 1500⟩

/-- The three values of a sensor's limits (R188). -/
def limitBytes (l : Limits) : List Byte := le16s l.hold ++ le16s l.override ++ le16s l.trip

/-- TH_LIMITS (R114). -/
def thLimits (p : Payload) : State → Reply × State :=
  ofLength 7 p fun s =>
    match sensorOf (u8 p 0) with
    | none => refuse .badValue s
    | some sn =>
      let l := frameLimits p
      if l.hold < l.override && l.override < l.trip then
        accept (clampedIf (l ≠ ⟨s16 p 1, s16 p 3, s16 p 5⟩)) (limitBytes l)
          (s.mapCc fun c => { c with limits := c.limits.set sn l })
      else refuse .badValue s

/-- TH_LIMITS as a command. -/
def execThLimits (p : Payload) (s : State) : Host.Outcome State Fault Refusal := request thLimits p s

/-! ## TH_QUERY -/

/-- The points of a curve (R188). -/
def curveBytes (c : Curve) : List Byte := c.points.flatMap fun x => le16s x.temp ++ [byte x.duty]

/-- One fan record of TH_QUERY (R131, R188). -/
def fanBytes (s : State) (fan : Fan) : List Byte :=
  let f := s.cc.fans.get fan
  let m := s.cc.masks.get fan
  [byte f.duty, byte f.target, byte f.demand, byte (capInForce s fan),
    marks [f.governing.isSome, f.failsafe, f.override, f.compensating, f.faulted, f.rpm.isSome, isCeiling s.ge.orient]]
  ++ le16s (f.governing.elim 0 (·.temp))
  ++ [byte (f.governing.elim 0 fun g => sensorNumber g.sensor), byte f.low, byte f.good]
  ++ optLe16 f.rpm ++ curveBytes (s.cc.curves.get fan) ++ [m.floor, m.ceiling]

/-- The trip marks: sensor, and fan while two or more fans are faulted (R130). -/
def tripMarks (c : Cooling) : Byte := marks [c.sensorTrip, 2 ≤ faultedFans c]

/-- The cooling summary of TH_QUERY (R131, R188). -/
def coolingBytes (s : State) : List Byte :=
  byte s.setup.quiet :: capBytes s.setup.quiet ++ [byte s.cc.light, mark (isCeiling s.ge.orient)]
  ++ s.cc.limits.toList.flatMap limitBytes ++ [byte (faultedFans s.cc), tripMarks s.cc]

/-- TH_QUERY (R131). -/
def thQuery (p : Payload) : State → Reply × State :=
  ofLength 1 p fun s =>
    match fanOf (u8 p 0) with
    | some fan => accept .ok (fanBytes s fan) s
    | none => if u8 p 0 = 3 then accept .ok (coolingBytes s) s else refuse .badValue s

/-- TH_QUERY as a command. -/
def execThQuery (p : Payload) (s : State) : Host.Outcome State Fault Refusal := request thQuery p s

/-! ## The fan update -/

/-- FAN_UPDATE (R119): every commanded duty moves one point toward its target; the next update is 500 ms after this
one's nominal time. -/
def execFanUpdate (s : State) : Host.Outcome State Fault Refusal :=
  event (s.reached s.cc.nextFanUpdate) (fun s =>
    mapFans (s.mapCc fun c => { c with nextFanUpdate := c.nextFanUpdate.map (· + fanUpdatePeriod) }) fun _ f => slew f) s

/-! ## The tachometers -/

/-- TACH_PULSE (R124): the fan's pulse count, which stops at 255. -/
def execTachPulse (fan : Fan) (s : State) : Host.Outcome State Fault Refusal :=
  event true (fun s =>
    mapFans s fun f r => if f = fan then { r with pulses := countUp r.pulses } else r) s

/-- The nominal close of the open tach window (R124). -/
def windowClose (s : State) : Option Time := s.cc.windowStart.map (· + tachWindow)

/-- The open window is the one whose close is the expiry of the fan check (R128, log 29: DEDUCED). -/
def checkWindow (s : State) : Bool :=
  s.mc.fanCheck.any fun expiry => (windowClose s).any (expiry ≤ ·)

/-- A closing window in STANDBY or STARTING is not judged; one in which the duty was below 30 sets both counts to 0
(R124). -/
def spoilCounts (f : FanRecord) : FanRecord := if f.dipped then { f with low := 0, good := 0 } else f

/-- The judgments of a closing window in the mode in force (R124 to R127). -/
def judgeClose (s : State) : State :=
  match s.mc.mode with
  | .run | .cooldown | .trip => judgeFans s
  | .standby | .starting => mapFans s fun _ f => spoilCounts f

/-- New windows open, for the three fans together (R124). -/
def openWindows (start : Option Time) (s : State) : State :=
  (mapFans s fun _ f => openWindow f).mapCc fun c => { c with windowStart := start }

/-- A tach window closes: RPM recorded, windows judged, new windows opened, and the fan trip handed over (R124, R130);
its record holds no sensor (R168; log 40: DESIGN CHOICE). The new windows open after the duties of 100 that a fault brings
through compensation and before those of a fan trip, so a fan below 30 at the close has its new window spoiled in the
second case and not in the first (R124 is silent; log 43: DESIGN CHOICE). -/
def closeWindow (s : State) : State :=
  let next := windowClose s
  let s := mapFans s fun _ f => recordRpm f
  let before := s.cc
  let s := openWindows next (judgeClose s)
  if fanTripBetween before s.cc then tripCondition .fan 0 s else s

/-- TACH_WINDOW_CLOSE (R124). -/
def execTachWindowClose (s : State) : Host.Outcome State Fault Refusal :=
  event (s.reached (windowClose s) && !checkWindow s) closeWindow s

end Sys2Proof.Machine
end

