-- ==== Sys2Proof/Machine/Focus.lean ====
section
/-! DEFINITION. The focus compensation requests (06, R101, R104, R108, R109). -/

namespace Sys2Proof.Machine

/-- The coefficients of a drift table in zoom order (R188). -/
def driftBytes (t : DriftTable) : List Byte := le16s t.c0 ++ le16s t.c1 ++ le16s t.c2 ++ le16s t.c3 ++ le16s t.c4

/-- The compensator view (R109, R188). -/
def viewBytes (s : State) : List Byte :=
  driftBytes s.fc.table ++ le16s s.fc.coef ++ le16 s.fc.zoomUsed
  ++ mark s.setup.tref.isSome :: le16s (s.setup.tref.getD 0)
  ++ le16s s.fc.comp ++ le16s s.fc.applied
  ++ mark s.fc.trim.isSome :: optLe16 (s.fc.trim.map (·.target)) ++ [byte (trimThreshold s.setup.quiet)]

/-- The drift table of a frame with each coefficient brought by a function (R101). -/
def frameDrift (f : Int → Int) (p : Payload) : DriftTable :=
  ⟨f (s16 p 0), f (s16 p 2), f (s16 p 4), f (s16 p 6), f (s16 p 8)⟩

/-- The clamp of a coefficient (R101). -/
def clampCoefficient (x : Int) : Int := clampInt x (-200) 200

/-- FC_TABLE (R101). -/
def fcTable (p : Payload) : State → Reply × State :=
  ofLength 10 p fun s =>
    let t := frameDrift clampCoefficient p
    let s' := s.mapFc fun f => { f with table := t }
    accept (clampedIf (t ≠ frameDrift id p)) (viewBytes s') s'

/-- FC_TABLE as a command. -/
def execFcTable (p : Payload) (s : State) : Host.Outcome State Fault Refusal := request fcTable p s

/-- The focus-compensation choice is set: modified if it differs, and the compensation 0 at once when it goes off
(R108). -/
def setChoice (on : Bool) (s : State) : State :=
  takeFocusChoice on s |>.mapSetup fun a => { a with focusOn := on, modified := a.modified || a.focusOn ≠ on }

/-- FC_ENABLE (R108). -/
def fcEnable (p : Payload) : State → Reply × State :=
  ofLength 1 p fun s =>
    if 1 < u8 p 0 then refuse .badValue s
    else
      let on := decide (u8 p 0 = 1)
      let s' := setChoice on s
      accept .ok ([mark s.setup.focusOn, mark on] ++ viewBytes s') s'

/-- FC_ENABLE as a command. -/
def execFcEnable (p : Payload) (s : State) : Host.Outcome State Fault Refusal := request fcEnable p s

/-- FC_REFERENCE's effect (R104): Tref is S3's temperature and the compensation 0; without a valid S3, Tref is absent
and both compensations are 0. -/
def reference (s : State) : State :=
  let t := s.validTemp .s3
  (s.mapSetup fun a => { a with tref := t }).mapFc fun f =>
    { f with comp := 0, applied := if t.isSome then f.applied else 0 }

/-- FC_REFERENCE (R104). -/
def fcReference (p : Payload) : State → Reply × State :=
  ofLength 0 p fun s => accept .ok (viewBytes (reference s)) (reference s)

/-- FC_REFERENCE as a command. -/
def execFcReference (p : Payload) (s : State) : Host.Outcome State Fault Refusal := request fcReference p s

end Sys2Proof.Machine
end

