-- ==== Sys2Proof/Machine/Modes.lean ====
section
/-! DEFINITION. The mode requests, the timers of the modes and power-on reset (10, R162, R164 to R171). -/

namespace Sys2Proof.Machine

/-! ## MD_WAKE, MD_DOWN, MD_CLEAR_TRIP -/

/-- The mode as a response gives it (R185). -/
def modeByte (s : State) : Byte := byte (modeCode s.mc.mode)

/-- MD_WAKE (R164). -/
def mdWake (p : Payload) : State → Reply × State :=
  ofLength 0 p fun s =>
    if s.mc.mode = .standby then accept .ok [modeByte (enterStarting s)] (enterStarting s) else refuse .wrongMode s

/-- MD_WAKE as a command. -/
def execMdWake (p : Payload) (s : State) : Host.Outcome State Fault Refusal := request mdWake p s

/-- MD_DOWN (R166). -/
def mdDown (p : Payload) : State → Reply × State :=
  ofLength 0 p fun s =>
    if s.mc.mode = .run || s.mc.mode = .starting then
      let s' := enterCooldown true s
      accept .ok [modeByte s', axisSet (parkAxes (leaveForCooldown true s))] s'
    else refuse .wrongMode s

/-- MD_DOWN as a command. -/
def execMdDown (p : Payload) (s : State) : Host.Outcome State Fault Refusal := request mdDown p s

/-- Every valid sensor is below its trip limit minus 100 (R169). -/
def sensorsClear (s : State) : Bool :=
  sensors.all fun sn => (s.validTemp sn).all fun t => t < (s.cc.limits.get sn).trip - 100

/-- MD_CLEAR_TRIP (R169). -/
def mdClearTrip (p : Payload) : State → Reply × State :=
  ofLength 0 p fun s =>
    if s.mc.mode = .trip && sensorsClear s && faultedFans s.cc < 2 then
      accept .ok [modeByte (enterCooldown true s)] (enterCooldown true s)
    else refuse .wrongMode s

/-- MD_CLEAR_TRIP as a command. -/
def execMdClearTrip (p : Payload) (s : State) : Host.Outcome State Fault Refusal := request mdClearTrip p s

/-! ## MD_SOFT_RESET -/

/-- The soft reset of the Active Setup, the Motion Queue and the Lens Drive (R22, R58, R82): the recall abandoned with
no flag, the queue emptied, every motion cut. -/
def softResetLens (s : State) : State := cutAll (clearQueue (abandonRecall false s))

/-- A fan record's soft reset values (R118). -/
def softResetFan (f : FanRecord) : FanRecord :=
  { f with faulted := false, compensating := false, override := false, low := 0, good := 0 }

/-- The soft reset of Cooling and the Lookup Port (R118, R161). -/
def softResetBlocks (s : State) : State :=
  ((mapFans s fun _ f => softResetFan f).mapCc fun c => { c with light := 100 }).mapLp fun l => { l with cursor := 0 }

/-- The mode changes of a soft reset, with the fan targets of the mode that stays (R118, R123, R170). -/
def softResetMode (s : State) : State :=
  match s.mc.mode with
  | .starting | .run => enterCooldown false s
  | .cooldown => judgeCooldown false (cooldownTargets s)
  | .standby => mapFans s fun _ f => { f with target := 0 }
  | .trip => mapFans s fun _ f => { f with target := 100 }

/-- A soft reset (R170): the blocks, then the mode, and last the alert flags (R184). -/
def softReset (s : State) : State :=
  let s := softResetMode (softResetBlocks (softResetLens s))
  s.mapAu fun _ => softResetAlerts s.mc.mode

/-- MD_SOFT_RESET (R170, R178). -/
def mdSoftReset (p : Payload) : State → Reply × State :=
  ofLength 0 p fun s => accept .ok [modeByte (softReset s)] (softReset s)

/-- MD_SOFT_RESET as a command. -/
def execMdSoftReset (p : Payload) (s : State) : Host.Outcome State Fault Refusal := request mdSoftReset p s

/-! ## MD_QUERY -/

/-- The cooldown's fields of MD_QUERY, which apply in COOLDOWN (R171, log 28: DEDUCED): the marks, the axes MOVING and
the entries pending. -/
def cooldownBytes (s : State) : List Byte :=
  if s.mc.mode = .cooldown then
    [marks [s.mc.thermalDone, s0Cool s.cc.seen, s1Cool s.cc.seen], byte (axes.countP s.moving),
      byte s.mq.entries.length]
  else [0, 0, 0]

/-- Code of a trip cause (R188). -/
def causeCode : TripCause → Nat
  | .sensor => 1 | .fan => 2

/-- The last trip record after a presence mark (R171, R188). -/
def tripBytes : Option TripRecord → List Byte
  | none => [0, 0, 0, 0, 0]
  | some r => [1, byte (causeCode r.cause), r.sensors, byte r.faultedFans, byte (modeCode r.enteredFrom)]

/-- The previous mode's code, hex FF for none (R185). -/
def previousByte (m : ModeController) : Byte := byte (m.previous.elim 0xFF modeCode)

/-- The MD_QUERY response (R171, R188). -/
def modeBytes (s : State) : List Byte :=
  [modeByte s, previousByte s.mc] ++ le16 (min (inUnits sec (s.now - s.mc.entered)) 65535)
  ++ timeLeft s.now (if s.mc.mode = .starting then s.mc.fanCheck else none)
  ++ cooldownBytes s ++ [marks [s.mc.lightPermit, s.mc.thermTrip], byte s.cc.light] ++ tripBytes s.mc.lastTrip

/-- MD_QUERY (R171). -/
def mdQuery (p : Payload) : State → Reply × State :=
  ofLength 0 p fun s => accept .ok (modeBytes s) s

/-- MD_QUERY as a command. -/
def execMdQuery (p : Payload) (s : State) : Host.Outcome State Fault Refusal := request mdQuery p s

/-! ## The timers of STARTING and COOLDOWN -/

/-- A fan fails the fan check: its fifth window's RPM is below 600 (R128). -/
def failsCheck (f : FanRecord) : Bool := f.pulses * 30 < 600

/-- A fan's record at the close of the fan check (R124, R128). -/
def checkFan (f : FanRecord) : FanRecord :=
  openWindow { recordRpm f with faulted := failsCheck f, low := 0, good := 0 }

/-- The end of the fan check (R128, R165): the failing fans are faulted, with the consequences of R127; two or three
make the fan trip condition, whose record holds no sensor (R168; log 40: DESIGN CHOICE), and fewer let RUN begin. The new
windows open before any of these raises a duty (log 43: DESIGN CHOICE). -/
def endFanCheck (s : State) : State :=
  let failing := (s.cc.fans.toList.filter failsCheck).length
  let s := s.mapMc fun m => { m with fanCheck := none }
  let s := (mapFans s fun _ f => checkFan f).mapCc fun c => { c with windowStart := some s.now }
  let s := if failing = 0 then s else faultConsequences s
  if 2 ≤ failing then tripCondition .fan 0 s else enterRun s

/-- FAN_CHECK_EXPIRY (R165). -/
def execFanCheckExpiry (s : State) : Host.Outcome State Fault Refusal :=
  event (s.mc.mode = .starting && s.reached s.mc.fanCheck) endFanCheck s

/-- COOLDOWN_TIMER_EXPIRY (R167). -/
def execCooldownTimerExpiry (s : State) : Host.Outcome State Fault Refusal :=
  event (s.mc.mode = .cooldown && s.reached s.mc.cooldown)
    (fun s => judgeCooldown true (s.mapMc fun m => { m with cooldown := none, thermalDone := true })) s

/-! ## Power-on reset -/

/-- The part in power-on reset: every block at its power-on values, no timer started, RESET_N holding it (R162, log 8:
DESIGN CHOICE). The waiting commands and the clock are the surroundings'. -/
def inReset (s : State) : State where
  pending := s.pending
  now := s.now
  held := true
  pt := resetPlacements
  setup := resetSetup
  scan := resetScanner none
  lens := .make fun _ => resetAxis
  mq := resetQueue
  fc := resetFocus
  cc := resetCooling none none
  ge := resetGeometry
  lp := resetLookup
  mc := resetMode s.now
  cl := resetLink
  au := resetAlerts

/-- POWER_ON_RESET (R162). -/
def execPowerOnReset (s : State) : Host.Outcome State Fault Refusal := .next (inReset s)

/-- The end of the power-on reset (R45, R119, R124, R162): the mode entry time, the fan update timer, the first tach
window and the first slow conversion. -/
def endReset (s : State) : State :=
  { s with
    held := false
    mc := { s.mc with entered := s.now }
    cc := { s.cc with nextFanUpdate := some (s.now + fanUpdatePeriod), windowStart := some s.now }
    scan := { s.scan with nextSlow := some (s.now + slowIntervalStandby) } }

/-- POWER_ON_RESET_END (R162). -/
def execPowerOnResetEnd (s : State) : Host.Outcome State Fault Refusal := .next (if s.held then endReset s else s)

end Sys2Proof.Machine
end

