-- ==== Sys2Proof/Machine/AlertRequests.lean ====
section
/-! DEFINITION. The alert requests (11, R180 to R182). -/

namespace Sys2Proof.Machine

/-- A mask of the eleven flags as two bytes (R185, R187). -/
def maskBytes (m : FlagSet) : List Byte := le16 m.toNat

/-- AL_READ (R181): the response shows the fields before the read markers change. -/
def alRead (p : Payload) : State → Reply × State :=
  ofLength 0 p fun s =>
    accept .ok (maskBytes s.au.set ++ maskBytes s.au.armed ++ maskBytes s.au.enable) (s.mapAu readIn)

/-- AL_READ as a command. -/
def execAlRead (p : Payload) (s : State) : Host.Outcome State Fault Refusal := request alRead p s

/-- AL_ACK (R182). -/
def alAck (p : Payload) : State → Reply × State :=
  ofLength 2 p fun s =>
    match maskOf p with
    | none => refuse .badValue s
    | some m =>
      accept .ok (maskBytes (ackCleared m s.au) ++ maskBytes (ackIn m s.au).set) (s.mapAu (ackIn m))

/-- AL_ACK as a command. -/
def execAlAck (p : Payload) (s : State) : Host.Outcome State Fault Refusal := request alAck p s

/-- AL_ENABLE (R180). -/
def alEnable (p : Payload) : State → Reply × State :=
  ofLength 2 p fun s =>
    match maskOf p with
    | none => refuse .badValue s
    | some m =>
      let a := enableIn m s.au
      accept .ok (maskBytes s.au.enable ++ maskBytes a.enable ++ maskBytes a.armed) (s.mapAu (enableIn m))

/-- AL_ENABLE as a command. -/
def execAlEnable (p : Payload) (s : State) : Host.Outcome State Fault Refusal := request alEnable p s

end Sys2Proof.Machine
end

