-- ==== Sys2Proof/Machine/Link.lean ====
section
/-! DEFINITION. The command link's own commands: unknown requests, lost and discarded frames, the forming and the fetching
of responses (11, R172 to R178). -/

namespace Sys2Proof.Machine

/-- UNKNOWN_REQUEST (R173, R175): an executed frame with an unknown code is answered BAD_REQUEST, whatever its length. A
code of the table, or hex 00, is no unknown request (log 32: DESIGN CHOICE). -/
def execUnknownRequest (code : Byte) (_p : Payload) (s : State) : Host.Outcome State Fault Refusal :=
  if unknownCode code then takeFrame (refuse .badRequest) s else .next s

/-- FRAME_OVERRUN (R174). -/
def execFrameOverrun (s : State) : Host.Outcome State Fault Refusal :=
  event (s.cl.exec = .executing) (·.mapCl markOverrun) s

/-- FRAME_DISCARDED (R173): the response slot stays as it stood. The transaction ended any earlier fetch. -/
def execFrameDiscarded (s : State) : Host.Outcome State Fault Refusal :=
  event true (·.mapCl fun c => { c with fetch := none }) s

/-- The payload of a response as it is formed: the mark at the awaited entry's place says yes if the entry has been
dispatched by then (R85, R88, R91; log 36: DESIGN CHOICE). -/
def formedPayload (a : Option Awaited) (payload : List Byte) : List Byte :=
  match a with
  | none => payload
  | some w => if w.started then payload.set w.place (mark true) else payload

/-- The response is formed: the slot is FULL and the state IDLE (R175). -/
def formResponse (a : Option Awaited) (c : CommandLink) : CommandLink :=
  match c.slot with
  | .pending r => { c with exec := .idle, slot := .full { r with payload := formedPayload a r.payload } }
  | .empty | .full _ => c

/-- RESPONSE_FORMED (R175): no response waits for an entry any more. -/
def execResponseFormed (s : State) : Host.Outcome State Fault Refusal :=
  event (s.cl.exec = .executing)
    (fun s => (s.mapCl (formResponse s.mq.awaited)).mapMq fun q => { q with awaited := none }) s

/-- The answer of a fetch, by the slot (R176). -/
def answerOf : ResponseSlot → FetchAnswer
  | .empty => .noResponse
  | .pending _ => .notReady
  | .full r => .response r

/-- FETCH (R176): the answer is fixed at the end of the fetch's first byte. -/
def execFetch (s : State) : Host.Outcome State Fault Refusal :=
  event true (·.mapCl fun c => { c with fetch := some (answerOf c.slot) }) s

/-- The last byte of a response has been sent: a FULL slot becomes EMPTY (R176). -/
def emptySlot (c : CommandLink) : CommandLink :=
  match c.slot, c.fetch with
  | .full _, some (.response _) => { c with slot := .empty, fetch := none }
  | _, _ => c

/-- RESPONSE_FETCHED (R176). -/
def execResponseFetched (s : State) : Host.Outcome State Fault Refusal := event true (·.mapCl emptySlot) s

end Sys2Proof.Machine
end

