-- ==== Sys2Proof/Machine/Dispatch.lean ====
section
/-! DEFINITION. The meaning of every command, one arm per row of spec/opcode_table.json. -/

namespace Sys2Proof.Machine

/-- The effect of a command on everything but the queue of waiting commands. -/
def exec (i : Instr) (s : State) : Host.Outcome State Fault Refusal :=
  match i with
  | .plCreate p => Sys2Proof.Machine.execPlCreate p s
  | .plWrite p => Sys2Proof.Machine.execPlWrite p s
  | .plRead p => Sys2Proof.Machine.execPlRead p s
  | .plRetire p => Sys2Proof.Machine.execPlRetire p s
  | .plList p => Sys2Proof.Machine.execPlList p s
  | .plCapture p => Sys2Proof.Machine.execPlCapture p s
  | .plRecall p => Sys2Proof.Machine.execPlRecall p s
  | .plSetPark p => Sys2Proof.Machine.execPlSetPark p s
  | .rcQuery p => Sys2Proof.Machine.execRcQuery p s
  | .lnMove p => Sys2Proof.Machine.execLnMove p s
  | .lnJog p => Sys2Proof.Machine.execLnJog p s
  | .lnStop p => Sys2Proof.Machine.execLnStop p s
  | .lnLearn p => Sys2Proof.Machine.execLnLearn p s
  | .lnSetRange p => Sys2Proof.Machine.execLnSetRange p s
  | .lnQuery p => Sys2Proof.Machine.execLnQuery p s
  | .gmSet p => Sys2Proof.Machine.execGmSet p s
  | .gmNudge p => Sys2Proof.Machine.execGmNudge p s
  | .gmQuery p => Sys2Proof.Machine.execGmQuery p s
  | .gmRaster p => Sys2Proof.Machine.execGmRaster p s
  | .gmOrient p => Sys2Proof.Machine.execGmOrient p s
  | .thQuiet p => Sys2Proof.Machine.execThQuiet p s
  | .thCurve p => Sys2Proof.Machine.execThCurve p s
  | .thMask p => Sys2Proof.Machine.execThMask p s
  | .thLimits p => Sys2Proof.Machine.execThLimits p s
  | .thQuery p => Sys2Proof.Machine.execThQuery p s
  | .fcTable p => Sys2Proof.Machine.execFcTable p s
  | .fcEnable p => Sys2Proof.Machine.execFcEnable p s
  | .fcReference p => Sys2Proof.Machine.execFcReference p s
  | .snQuery p => Sys2Proof.Machine.execSnQuery p s
  | .mdWake p => Sys2Proof.Machine.execMdWake p s
  | .mdDown p => Sys2Proof.Machine.execMdDown p s
  | .mdClearTrip p => Sys2Proof.Machine.execMdClearTrip p s
  | .mdSoftReset p => Sys2Proof.Machine.execMdSoftReset p s
  | .mdQuery p => Sys2Proof.Machine.execMdQuery p s
  | .alRead p => Sys2Proof.Machine.execAlRead p s
  | .alAck p => Sys2Proof.Machine.execAlAck p s
  | .alEnable p => Sys2Proof.Machine.execAlEnable p s
  | .unknownRequest code p => Sys2Proof.Machine.execUnknownRequest code p s
  | .frameOverrun => Sys2Proof.Machine.execFrameOverrun s
  | .frameDiscarded => Sys2Proof.Machine.execFrameDiscarded s
  | .responseFormed => Sys2Proof.Machine.execResponseFormed s
  | .fetch => Sys2Proof.Machine.execFetch s
  | .responseFetched => Sys2Proof.Machine.execResponseFetched s
  | .powerOnReset => Sys2Proof.Machine.execPowerOnReset s
  | .lookupTransactionStart => Sys2Proof.Machine.execLookupTransactionStart s
  | .lookupIndex index => Sys2Proof.Machine.execLookupIndex index s
  | .recordComplete => Sys2Proof.Machine.execRecordComplete s
  | .lookupTransactionEnd => Sys2Proof.Machine.execLookupTransactionEnd s
  | .frameStart => Sys2Proof.Machine.execFrameStart s
  | .timingTimerExpiry => Sys2Proof.Machine.execTimingTimerExpiry s
  | .computeComplete => Sys2Proof.Machine.execComputeComplete s
  | .slowConversionDue => Sys2Proof.Machine.execSlowConversionDue s
  | .slowConversionEnd raw => Sys2Proof.Machine.execSlowConversionEnd raw s
  | .fastBurstDue => Sys2Proof.Machine.execFastBurstDue s
  | .fastTrigger => Sys2Proof.Machine.execFastTrigger s
  | .fastConversionEnd raw => Sys2Proof.Machine.execFastConversionEnd raw s
  | .settleWaitExpiry ax => Sys2Proof.Machine.execSettleWaitExpiry ax s
  | .moveTimeout ax => Sys2Proof.Machine.execMoveTimeout ax s
  | .brakeEnd ax => Sys2Proof.Machine.execBrakeEnd ax s
  | .resumeTimerExpiry ax => Sys2Proof.Machine.execResumeTimerExpiry ax s
  | .pauseExpiry ax => Sys2Proof.Machine.execPauseExpiry ax s
  | .jogStageChange ax => Sys2Proof.Machine.execJogStageChange ax s
  | .jogDeadline ax => Sys2Proof.Machine.execJogDeadline ax s
  | .pendingJogExpiry ax => Sys2Proof.Machine.execPendingJogExpiry ax s
  | .learnLegTimeout ax => Sys2Proof.Machine.execLearnLegTimeout ax s
  | .fanUpdate => Sys2Proof.Machine.execFanUpdate s
  | .tachPulse fan => Sys2Proof.Machine.execTachPulse fan s
  | .tachWindowClose => Sys2Proof.Machine.execTachWindowClose s
  | .fanCheckExpiry => Sys2Proof.Machine.execFanCheckExpiry s
  | .cooldownTimerExpiry => Sys2Proof.Machine.execCooldownTimerExpiry s
  | .powerOnResetEnd => Sys2Proof.Machine.execPowerOnResetEnd s

end Sys2Proof.Machine
end

