-- ==== Sys2Proof/Machine/Step.lean ====
section
/-! DEFINITION. One step: the command at the front of the queue, or one microsecond of the clock when none waits. -/

namespace Sys2Proof.Machine

/-- The state with another queue of waiting commands. -/
def State.withPending (s : State) (q : List Instr) : State := { s with pending := q }

/-- The state one microsecond later (log 1: DESIGN CHOICE). -/
def State.tick (s : State) : State := { s with now := s.now + 1 }

/-- One step: the front command's effect on the state with the queue's rest; with an empty queue a microsecond passes
(log 1: DESIGN CHOICE, log 3: DESIGN CHOICE). -/
def step (s : State) : Host.Outcome State Fault Refusal :=
  match s.pending with
  | [] => .next s.tick
  | i :: rest => exec i (s.withPending rest)

/-- The command that a table word spells, put at the front of the queue; no word spells one (log 31: DEDUCED). -/
def State.withFetchWord (s : State) (nbits w : Nat) : State :=
  match decodeTableWord nbits w with
  | none => s
  | some i => s.withPending (i :: s.pending)

end Sys2Proof.Machine
end

