-- ==== Sys2Proof/Machine/Pins.lean ====
section
/-! DEFINITION. What the part drives at its connections, as functions of the state (00_scope; R61, R71, R118, R129, R158,
R163, R176, R183). -/

namespace Sys2Proof.Machine

/-- ATTN_N is driven low (R183). -/
def State.attnLow (s : State) : Bool := attentionLow s.au

/-- LIGHT_PERMIT is high (R163). -/
def State.lightPermit (s : State) : Bool := s.mc.lightPermit

/-- THERM_TRIP is high (R163). -/
def State.thermTrip (s : State) : Bool := s.mc.thermTrip

/-- The percentage on LIGHT_LIMIT (R129). -/
def State.lightLimit (s : State) : Nat := s.cc.light

/-- The duty on a fan's PWM output (R118). -/
def State.fanPwm (s : State) (fan : Fan) : Nat := (s.cc.fans.get fan).duty

/-- What the bridge of an axis does (R61, R71, R72). -/
inductive Bridge where
  | released
  | braking
  | driven (sense : Sense) (duty : Duty)
deriving DecidableEq, Repr

/-- The bridge of an axis: driven in a phase with the drive on, both low sides conducting in BRAKE, released otherwise
(R61, R71). -/
def State.bridge (s : State) (ax : Axis) : Bridge :=
  match (s.lens.get ax).motion with
  | none => .released
  | some m =>
    if m.phase = .brake then .braking
    else if driveOn m.phase && !m.between then .driven m.sense m.duty
    else .released

/-- The bytes that a fetch sends on CMD_DO after its first byte (R176). -/
def answerBytes : FetchAnswer → List Byte
  | .noResponse => [0x7E, 0]
  | .notReady => [0x7F, 0]
  | .response r => responseBytes r

/-- What a data output does while one byte of a transaction passes: it sends a byte, or is at high impedance (R158, R161,
R172). -/
inductive DataOut where
  | highImpedance
  | sends (b : Byte)
deriving DecidableEq, Repr

/-- Where the command link's transaction stands, as the system controller drives CMD_CS_N and CMD_DI (R172): no
transaction; during its first byte; or during the `n`-th byte after the first, the second byte being number 1, with the
first byte received. -/
inductive LinkMoment where
  | released
  | firstByte
  | later (first : Byte) (n : Nat)
deriving DecidableEq, Repr

/-- What CMD_DO does at a moment of the link (R172, R176): hex 00 on every byte of a request frame and on a fetch's first
byte, then the answer that the fetch has fixed, and hex 00 after it. While CMD_CS_N is
high (00_scope), and while RESET_N holds the part (R172), it is at high impedance. -/
def State.commandOut (s : State) (moment : LinkMoment) : DataOut :=
  if s.held then .highImpedance
  else match moment with
    | .released => .highImpedance
    | .firstByte => .sends 0
    | .later first n =>
      if first = 0 then .sends (((s.cl.fetch.elim [] answerBytes)[n - 1]?).getD 0) else .sends 0

/-- What LK_DO does in a transaction's state (R158, R161), `k` being the number of bytes sent since the latched record's
first: high impedance in IDLE, the record's bytes in order in RECORD, and hex 00 in INDEX and VOID. -/
def State.lookupOut (s : State) (k : Nat) : DataOut :=
  match s.lp.state with
  | .idle => .highImpedance
  | .index | .void => .sends 0
  | .record => .sends (((s.lp.latched.getD [])[s.lp.position + k]?).getD 0)

end Sys2Proof.Machine
end

