-- ==== Sys2Proof/WellFormed.lean ====
section
/-! DEFINITION. Which commands can stand for something that happens at the part's connections. -/

namespace Sys2Proof

/-- A length byte names at most 255 payload bytes (R173). -/
def Payload.fits (p : Payload) : Bool := p.length ≤ 255

/-- A command is well formed when some event at the part's connections is what it says: its frame's payload fits a
length byte, and an unknown request has an unknown code. Every other operand is bounded by its type. -/
def Instr.WellFormed (i : Instr) : Bool :=
  match i with
  | .unknownRequest code p => unknownCode code && p.fits
  | i => (frameOf i).all fun f => f.2.fits

end Sys2Proof
end

