-- ==== Sys2Proof/Safety.lean ====
section
/-! DEFINITION. What a sound state of the part is: the laws that the manual states of every moment of a run, one predicate
each, and the outcomes that a run may have. -/

namespace Sys2Proof.Machine

/-- The three lines to the laser driver (R163): LIGHT_PERMIT exactly in RUN, THERM_TRIP exactly in TRIP, and a light
limit of 40 to 100. -/
def State.LineLaw (s : State) : Prop :=
  s.mc.lightPermit = decide (s.mc.mode = .run) ∧ s.mc.thermTrip = decide (s.mc.mode = .trip)
    ∧ 40 ≤ s.cc.light ∧ s.cc.light ≤ 100

/-- The drive budget (R96): it is 4, 3 or 0, and the running motions hold at most 4 units. -/
def State.BudgetLaw (s : State) : Prop := s.mq.budget ∈ [0, 3, 4] ∧ s.unitsHeld ≤ 4

/-- The queue (R80): at most one entry for each axis, and so at most four. -/
def State.QueueLaw (s : State) : Prop := (s.mq.entries.map (·.axis)).Nodup

/-- Where the lens is at rest (R57, R84): outside RUN and COOLDOWN nothing runs and nothing waits. -/
def State.RestLaw (s : State) : Prop := s.mc.mode = .run ∨ s.mc.mode = .cooldown ∨ s.lensAtRest = true

/-- The axis states (R56, R57): an axis is MOVING exactly while it has a running motion, and no motion returns its axis
to MOVING. -/
def State.AxisLaw (s : State) : Prop :=
  ∀ ax, ((s.lens.get ax).state = .moving ↔ s.moving ax = true)
    ∧ ∀ m, (s.lens.get ax).motion = some m → m.returnState ≠ .moving

/-- The modes of the fast list (R42, R43): OFF exactly in STANDBY, TRIGGERED exactly while an axis is MOVING. -/
def State.FastLaw (s : State) : Prop :=
  (s.scan.fastMode = .off ↔ s.mc.mode = .standby) ∧ (s.scan.fastMode = .triggered ↔ s.anyMoving = true)

/-- The alert flags (R179, R180, R183): an armed flag is set and enabled, and TRIP's enable is always yes. -/
def State.AlertLaw (s : State) : Prop :=
  s.au.armed &&& s.au.set = s.au.armed ∧ s.au.armed &&& s.au.enable = s.au.armed
    ∧ s.au.enable &&& flagBit .trip = flagBit .trip

/-- The response slot (R174): PENDING exactly while a request executes. -/
def State.LinkLaw (s : State) : Prop := s.cl.exec = .executing ↔ ∃ r, s.cl.slot = .pending r

/-- The recall (R25): a pending geometry only in MOVING, and a recall in flight exactly outside NONE. -/
def State.RecallLaw (s : State) : Prop :=
  (s.setup.pendingGeometry.isSome = true → s.setup.recallState = .moving)
    ∧ (s.setup.recallState = .none ↔ s.setup.current = none)

/-- A record's fields (R2, R3, R5). -/
def Placement.Sound (r : Placement) : Prop :=
  labelOk r.label = true ∧ r.quiet ≤ 3 ∧ ∀ ax t, r.targets.get ax = some t → t ≤ 4000

/-- The placements (R1, R13, R15): every stored record is sound, and the park slot and the source slot are READY. -/
def State.PlacementLaw (s : State) : Prop :=
  (∀ i r, slotAt s.pt i = some r → r.Sound) ∧ s.setup.quiet ≤ 3
    ∧ (∀ i, s.pt.park = some i → (slotAt s.pt i).isSome = true)
    ∧ ∀ i, s.setup.source = some i → (slotAt s.pt i).isSome = true

/-- A raster that GM_RASTER can give (R136). -/
def Raster.Sound (r : Raster) : Prop := 1280 ≤ r.wp ∧ r.wp ≤ 4096 ∧ r.wp % 16 = 0 ∧ 720 ≤ r.hp ∧ r.hp ≤ 2400

/-- Insets within the limits of a raster (R133). -/
def Insets.Within (g : Insets) (r : Raster) : Prop :=
  g.top ≤ rowLimit r ∧ g.bottom ≤ rowLimit r
    ∧ g.tl ≤ cornerLimit r ∧ g.tr ≤ cornerLimit r ∧ g.bl ≤ cornerLimit r ∧ g.br ≤ cornerLimit r

/-- Inputs that R133 admits. -/
def Inputs.Sound (i : Inputs) : Prop := i.raster.Sound ∧ i.geometry.Within i.raster

/-- The geometry inputs (R133, R136), also in the copy that a running compute holds. -/
def State.GeometryLaw (s : State) : Prop :=
  (inputsOf s.ge).Sound ∧ ∀ i, s.ge.staged = .computing i → i.Sound

/-- A band record within the limits of an active one (R147), for a panel of `hp` rows. -/
def Band.Within (hp : Nat) (b : Band) : Prop :=
  b.xL16 < b.xR16 ∧ 65536 ≤ b.hStep ∧ b.hStep ≤ 131175 ∧ b.srcRow256 ≤ (hp - 1) * 256

/-- A table whose active band records are within their limits (R147). -/
def Table.Sound (t : Table) : Prop := ∀ i : Fin 64, t.bands[i].kind = .empty ∨ t.bands[i].Within t.frame.hp

/-- The two banks (R147): the LIVE table is sound, and so is a READY one. -/
def State.BankLaw (s : State) : Prop := s.ge.live.Sound ∧ ∀ t, s.ge.staged = .ready t → t.Sound

/-- The caps in RUN (R122): a duty or a target above the cap only in override, compensation or failsafe. -/
def State.CapLaw (s : State) : Prop :=
  s.mc.mode = .run → ∀ fan, exempt (s.cc.fans.get fan) = true
    ∨ (s.cc.fans.get fan).duty ≤ capInForce s fan ∧ (s.cc.fans.get fan).target ≤ capInForce s fan

/-- A curve that TH_CURVE can give (R111, R115). -/
def Curve.Sound (c : Curve) : Prop := rising c = true ∧ ∀ p ∈ c.points, p.duty ≤ 100

/-- The limits and curves of Cooling (R110, R111, R114, R115): for every sensor hold is below override and override
below trip, within 0 to 1500, and every curve rises strictly, with duties of at most 100, also among the curves of the
last evaluation (log 39). -/
def State.TableLaw (s : State) : Prop :=
  (∀ sn, 0 ≤ (s.cc.limits.get sn).hold ∧ (s.cc.limits.get sn).hold < (s.cc.limits.get sn).override
    ∧ (s.cc.limits.get sn).override < (s.cc.limits.get sn).trip ∧ (s.cc.limits.get sn).trip ≤ 1500)
  ∧ ∀ fan, (s.cc.curves.get fan).Sound ∧ (s.cc.used.get fan).curve.Sound

/-- The thermistor entries (R47, R48, R53): a ring of at most 4 readings, full in VALID, a filtered temperature exactly
in VALID, and a count of at most 255. -/
def State.RingLaw (s : State) : Prop :=
  ∀ sn, let e := s.scan.therms.get sn
    e.ring.length ≤ 4 ∧ (e.state = .valid → e.ring.length = 4) ∧ (e.filtered.isSome = true ↔ e.state = .valid)
      ∧ e.count ≤ 255

/-- The Focus Compensator and the base targets (R21, R100, R106, R107): coefficients of -200 to 200, compensations of
-150 to 150, a trim in flight at most 150 away from its base, and base targets of at most 4000. -/
def State.FocusLaw (s : State) : Prop :=
  (∀ c ∈ [s.fc.table.c0, s.fc.table.c1, s.fc.table.c2, s.fc.table.c3, s.fc.table.c4, s.fc.coef], -200 ≤ c ∧ c ≤ 200)
    ∧ -150 ≤ s.fc.comp ∧ s.fc.comp ≤ 150 ∧ -150 ≤ s.fc.applied ∧ s.fc.applied ≤ 150
    ∧ (∀ x, s.fc.trim = some x → -150 ≤ (x.target : Int) - x.base ∧ (x.target : Int) - x.base ≤ 150)
    ∧ ∀ ax n, s.setup.base.get ax = some n → n ≤ 4000

/-- The converter (R40, R41): the rest of a burst waits only while a conversion runs, so a free converter has no burst
in progress. -/
def State.ConverterLaw (s : State) : Prop := s.scan.converting = none → s.scan.burstLeft = 0

/-- A law is kept by every step: from a state that has it, a next state has it. -/
def Kept (law : State → Prop) : Prop := ∀ s t, law s → step s = .next t → law t

/-- A run never stops: every step answers a next state. -/
def NeverStops : Prop := ∀ s, ∃ t, step s = .next t

/-! ## What a command leaves behind, as the statements say it -/

/-- The part takes a complete frame: RESET_N is high and no request executes (R174). -/
def State.Ready (s : State) : Prop := s.held = false ∧ s.cl.exec = .idle

/-- The state with a request executing whose response will carry this status and payload (R174, R175). -/
def State.answered (s : State) (status : Status) (payload : List Byte) : State :=
  s.mapCl fun _ => executing ⟨status, payload⟩

/-- A flag has just occurred (R179): it is set, its read marker is no, and it is armed if it is enabled, and TRIP
always. -/
def State.flagged (s : State) (f : Flag) : Prop :=
  s.au.set.getLsbD (flagNumber f) = true ∧ s.au.read.getLsbD (flagNumber f) = false
    ∧ (s.au.enable.getLsbD (flagNumber f) = true ∨ f = .trip → s.au.armed.getLsbD (flagNumber f) = true)

/-- The eleven bits of the alert flags (R179): what the bits of the flag given become, and that every other flag is as
it was. -/
def Alerts.Differ (a b : Alerts) (f : Flag) : Prop :=
  b.enable = a.enable ∧ ∀ k, k < 11 →
    (k = flagNumber f → b.set.getLsbD k = true ∧ b.read.getLsbD k = false
      ∧ b.armed.getLsbD k = (a.armed.getLsbD k || a.enable.getLsbD k || f = .trip))
    ∧ (k ≠ flagNumber f → b.set.getLsbD k = a.set.getLsbD k ∧ b.read.getLsbD k = a.read.getLsbD k
      ∧ b.armed.getLsbD k = a.armed.getLsbD k)

/-- The blocks that no event of the lens, the scanner, Cooling or the modes touches. -/
def State.SameOuter (s t : State) : Prop :=
  t.pending = s.pending ∧ t.now = s.now ∧ t.held = s.held ∧ t.pt = s.pt ∧ t.lp = s.lp ∧ t.cl = s.cl

/-- The query requests in a state, each with its response payload in the layouts of R188 and that payload's length
(R187, R188): the queue view of LN_QUERY 4 has 8 bytes for each entry. -/
def State.queries (s : State) : List (Instr × List Byte × Nat) :=
  let views : List (Instr × List Byte × Nat) :=
    [(.rcQuery [], setupBytes s.setup s.ge.active, 52), (.gmQuery [], geometryBytes s.ge, 48), (.mdQuery [], modeBytes s, 16),
      (.lnQuery [4], axes.flatMap (axisRecordBytes s) ++ queueBytes s, 128 + 8 * s.mq.entries.length),
      (.thQuery [0], fanBytes s .f0, 32), (.thQuery [1], fanBytes s .f1, 32), (.thQuery [2], fanBytes s .f2, 32),
      (.thQuery [3], coolingBytes s, 56), (.snQuery [8], s.scan.therms.toList.flatMap summaryBytes, 56),
      (.snQuery [9], scanBytes s.scan, 27)]
  let records (ax : Axis) : Instr × List Byte × Nat := (.lnQuery [byte (axisNumber ax)], axisRecordBytes s ax, 31)
  let details (sn : Sensor) : Instr × List Byte × Nat :=
    (.snQuery [byte (sensorNumber sn)], sensorBytes sn (s.scan.therms.get sn), 18)
  views ++ axes.map records ++ sensors.map details

/-- The field of a payload that begins at a byte position. -/
def FieldAt (payload : List Byte) (field : Nat × List Byte) : Prop :=
  (payload.drop field.1).take field.2.length = field.2

/-- A value of one byte, bit n being the n-th of a list (R185). -/
def bitsOf : List Bool → Nat
  | [] => 0
  | b :: bs => (if b then 1 else 0) + 2 * bitsOf bs

/-- The six insets of a geometry in the order of R134, from a byte position. -/
def insetFields (k : Nat) (g : Insets) : List (Nat × List Byte) :=
  [(k, le16 g.top), (k + 2, le16 g.bottom), (k + 4, le16 g.tl), (k + 6, le16 g.tr), (k + 8, le16 g.bl), (k + 10, le16 g.br)]

/-- The six points of a curve, three bytes each, from a byte position. -/
def pointFields (k : Nat) (c : Curve) : List (Nat × List Byte) :=
  (c.points.zipIdx).map fun x => (k + 3 * x.2, le16s x.1.temp ++ [byte x.1.duty])

/-- Fields of the running motion in an axis record that begins at a byte position (R188): how the milliseconds since the
dispatch are rounded is free (log 12), and that the origin of no motion is sent as 0 is the model's reading (log 17). -/
def motionFields (now : Time) (k : Nat) : Option Motion → List (Nat × List Byte)
  | none => [(k + 11, [0]), (k + 15, [0]), (k + 21, [0, 0])]
  | some m =>
    [(k + 11, [byte (originCode (originOf m.job))]), (k + 13, le16 ((jobTarget m.job).getD 0)),
      (k + 15, [byte (phaseCode m.phase)]), (k + 20, [byte m.corrections]),
      (k + 21, le16 (min (inMs (now - m.dispatched)) 65535))]

/-- Fields of an axis record that begins at a byte position (R188): that the origin of no last end is sent as 0 is the
model's reading (log 17). -/
def axisFields (s : State) (k : Nat) (ax : Axis) : List (Nat × List Byte) :=
  let r := s.lens.get ax
  [(k, [byte (axisNumber ax)]), (k + 1, [byte (stateCode r.state)]),
    (k + 2, [byte (bitsOf [r.cal.isSome, (s.reading ax).isSome, (s.position ax).isSome, r.motion.isSome,
      r.lastEnd.isSome, (r.lastEnd.bind (·.position)).isSome])]),
    (k + 3, le16 (r.cal.elim 0 (·.neg.toNat))), (k + 5, le16 (r.cal.elim 0 (·.pos.toNat))),
    (k + 7, le16 ((s.reading ax).elim 0 (·.toNat))), (k + 9, le16 ((s.position ax).getD 0)),
    (k + 26, [byte (r.lastEnd.elim 0 fun e => originCode e.origin)]),
    (k + 28, [byte (r.lastEnd.elim 0 fun e => endCode e.status)]),
    (k + 29, le16 ((r.lastEnd.bind (·.position)).getD 0))]
  ++ motionFields s.now k r.motion

/-- Fields of a fan record (R188). -/
def fanFields (s : State) (fan : Fan) : List (Nat × List Byte) :=
  let f := s.cc.fans.get fan
  [(0, [byte f.duty]), (1, [byte f.target]), (2, [byte f.demand]), (3, [byte (capOf s.setup.quiet fan)]),
    (4, [byte (bitsOf [f.governing.isSome, f.failsafe, f.override, f.compensating, f.faulted, f.rpm.isSome,
      isCeiling s.ge.orient])]),
    (5, le16s (f.governing.elim 0 (·.temp))), (7, [byte (f.governing.elim 0 fun g => sensorNumber g.sensor)]),
    (8, [byte f.low]), (9, [byte f.good]), (10, le16 (f.rpm.getD 0)), (30, [(s.cc.masks.get fan).floor]),
    (31, [(s.cc.masks.get fan).ceiling])]
  ++ pointFields 12 (s.cc.curves.get fan)

/-- Fields of the detail of a sensor (R188): the code of its bad mark is log 36. -/
def sensorFields (s : State) (sn : Sensor) : List (Nat × List Byte) :=
  let t := s.scan.therms.get sn
  [(0, [byte (sensorNumber sn)]), (1, [byte (sensorCode t.state)]), (2, [if t.bad then 1 else 0]), (3, [byte t.count]),
    (4, [byte t.ring.length]), (5, le16 (t.ring[0]?.elim 0 (·.toNat))), (7, le16 (t.ring[1]?.elim 0 (·.toNat))),
    (9, le16 (t.ring[2]?.elim 0 (·.toNat))), (11, le16 (t.ring[3]?.elim 0 (·.toNat))),
    (13, [byte (bitsOf [t.filtered.isSome, t.raw.isSome])]), (14, le16s (t.filtered.getD 0)),
    (16, le16 (t.raw.elim 0 (·.toNat)))]

/-- A slot number in a response, 0 for none (R188). -/
def slotByte (o : Option (Fin 24)) : Byte := byte (o.elim 0 fun i => i.val + 1)

/-- Fields of RC_QUERY (R188). -/
def setupFields (s : State) : List (Nat × List Byte) :=
  let a := s.setup
  [(0, [slotByte a.source]),
    (1, [byte (bitsOf [a.modified, a.focusOn, a.tref.isSome, a.pendingGeometry.isSome, a.report.isSome,
      a.report.any (·.geometry)])]),
    (2, [byte (bitsOf (axes.map fun ax => (a.base.get ax).isSome))]), (35, [byte a.quiet]), (36, le16s (a.tref.getD 0)),
    (38, [byte (recallCode a.recallState)]), (39, [byte a.tag]), (40, [slotByte (a.current.map (·.slot))]),
    (45, [byte (a.report.elim 0 (·.tag))]), (46, [slotByte (a.report.map (·.slot))]),
    (47, [byte (a.report.elim 0 fun r => outcomeCode r.outcome)])]
  ++ axes.map (fun ax => (3 + 2 * axisNumber ax, le16 ((a.base.get ax).getD 0)))
  ++ axes.map (fun ax => (41 + axisNumber ax, [byte (a.current.elim 0 fun r => progressCode (r.progress.get ax))]))
  ++ axes.map (fun ax => (48 + axisNumber ax, [byte (a.report.elim 0 fun r => reportCode (r.statuses.get ax))]))
  ++ insetFields 11 s.ge.active ++ insetFields 23 (a.pendingGeometry.getD ⟨0, 0, 0, 0, 0, 0⟩)

/-- Fields of GM_QUERY (R188). -/
def geometryFields (e : GeometryEngine) : List (Nat × List Byte) :=
  [(12, le16 e.raster.wp), (14, le16 e.raster.hp), (16, le16 (e.raster.hp / 4)), (18, le16 (e.raster.wp / 4)),
    (20, [byte (orientCode e.orient)]), (45, [byte (stagedCode e.staged)]), (46, [e.generation]),
    (47, [byte (timingCode e.timing)])]
  ++ insetFields 0 e.active ++ insetFields 22 (panelTerms e.orient e.active)

/-- Fields of the last trip record in MD_QUERY (R188): the code of its presence mark is log 36, and that the mode of an
absent record is sent as 0 is the model's reading (log 17). -/
def tripFields : Option TripRecord → List (Nat × List Byte)
  | none => [(11, [0, 0, 0, 0, 0])]
  | some r => [(11, [1]), (12, [if r.cause = .sensor then 1 else 2]), (13, [r.sensors]), (14, [byte r.faultedFans]),
      (15, [byte (modeCode r.enteredFrom)])]

/-- Fields of MD_QUERY (R188): how the seconds since the entry are rounded is free (log 12), and that a previous mode
that is none is sent as hex FF is the model's reading (log 17). -/
def modeFields (s : State) : List (Nat × List Byte) :=
  [(0, [byte (modeCode s.mc.mode)]), (1, [byte (s.mc.previous.elim 0xFF modeCode)]),
    (2, le16 (min (inUnits sec (s.now - s.mc.entered)) 65535)),
    (9, [byte (bitsOf [s.mc.lightPermit, s.mc.thermTrip])]), (10, [byte s.cc.light])]
  ++ tripFields s.mc.lastTrip

/-- Fields of one entry of the queue view, `x.2` entries being older (R188). -/
def entryFields (x : Entry × Nat) : List (Nat × List Byte) :=
  let k := 128 + 8 * x.2
  [(k, [byte (axisNumber x.1.axis)]), (k + 1, [byte (originCode (originOf x.1.job))]),
    (k + 2, le16 ((jobTarget x.1.job).getD 0)), (k + 4, [byte ((jobTag x.1.job).getD 0)])]

/-- Fields of LN_QUERY 4 (R188). -/
def lensFields (s : State) : List (Nat × List Byte) :=
  axes.flatMap (fun ax => axisFields s (31 * axisNumber ax) ax)
  ++ [(124, [byte s.mq.budget]), (125, [byte s.unitsHeld]), (126, [byte (s.mq.budget - s.unitsHeld)]),
    (127, [byte s.mq.entries.length])]
  ++ s.mq.entries.zipIdx.flatMap entryFields

/-- Fields of a sensor's limits in TH_QUERY 3 (R188). -/
def limitFields (k : Nat) (l : Limits) : List (Nat × List Byte) :=
  [(k, le16s l.hold), (k + 2, le16s l.override), (k + 4, le16s l.trip)]

/-- Fields of TH_QUERY 3 (R188). -/
def coolingFields (s : State) : List (Nat × List Byte) :=
  [(0, [byte s.setup.quiet]), (4, [byte s.cc.light]), (5, [if isCeiling s.ge.orient then 1 else 0]),
    (54, [byte (faultedFans s.cc)]), (55, [byte (bitsOf [s.cc.sensorTrip, 2 ≤ faultedFans s.cc])])]
  ++ [(1, fans.map fun fan => byte (capOf s.setup.quiet fan))]
  ++ sensors.flatMap fun sn => limitFields (6 + 6 * sensorNumber sn) (s.cc.limits.get sn)

/-- Fields of a sensor's part of SN_QUERY 8 (R188). -/
def summaryFields (k : Nat) (t : Thermistor) : List (Nat × List Byte) :=
  [(k, [byte (sensorCode t.state)]), (k + 1, [byte t.count]), (k + 2, [byte (bitsOf [t.filtered.isSome, t.raw.isSome])]),
    (k + 3, le16s (t.filtered.getD 0)), (k + 5, le16 (t.raw.elim 0 (·.toNat)))]

/-- Fields of a fast channel in SN_QUERY 9 (R188): the code of its raw-present mark is log 36. -/
def fastFields (k : Nat) (e : FastEntry) : List (Nat × List Byte) :=
  [(k, [if e.raw.isSome then 1 else 0]), (k + 1, le16 (e.raw.elim 0 (·.toNat))), (k + 3, [byte e.count])]

/-- Fields of SN_QUERY 9 (R188). -/
def scanFields (c : Scanner) : List (Nat × List Byte) :=
  axes.flatMap (fun ax => fastFields (4 * axisNumber ax) (c.pots.get ax)) ++ fastFields 16 c.supply
  ++ [(21, le16 (c.supply.raw.elim 0 supplyMillivolts)), (23, [byte (fastCode c.fastMode)]),
    (24, [if c.slowInterval = .one then 1 else 0]), (25, [byte (sensorNumber c.slowCursor)]), (26, [c.rounds])]

/-- The fields of the compensator view of R109, at their byte positions (R188): the code of its two one-byte marks is
log 36. -/
def viewFields (s : State) : List (Nat × List Byte) :=
  [(0, le16s s.fc.table.c0), (2, le16s s.fc.table.c1), (4, le16s s.fc.table.c2), (6, le16s s.fc.table.c3),
    (8, le16s s.fc.table.c4), (10, le16s s.fc.coef), (12, le16 s.fc.zoomUsed), (14, [if s.setup.tref.isSome then 1 else 0]),
    (15, le16s (s.setup.tref.getD 0)), (17, le16s s.fc.comp), (19, le16s s.fc.applied),
    (21, [if s.fc.trim.isSome then 1 else 0]), (22, le16 (s.fc.trim.elim 0 (·.target))),
    (24, [if s.setup.quiet = 3 then 15 else 6])]

/-- The fields of a band record of a bank's generation, at their byte positions (R156, R189). -/
def bandFields (generation : BitVec 8) (b : Band) : List (Nat × List Byte) :=
  [(0, [generation]), (1, [byte (bitsOf [b.kind = .above, b.kind = .below, b.kind = .empty])]), (2, le16 b.startRow),
    (4, le16 b.xL16), (6, le16 b.xR16), (8, le24 b.srcRow256), (11, le24 b.hStep), (14, le24 b.rowStep)]

/-- The fields of the frame record, at their byte positions (R157, R189): the timing-present mark is that of the moment.
-/
def frameFields (e : GeometryEngine) : List (Nat × List Byte) :=
  let f := e.live.frame
  [(0, [e.generation]), (1, [byte (bitsOf [f.mirrorV, f.mirrorH, e.timing ≠ .absent])]), (2, le16 f.wp), (4, le16 f.hp),
    (6, le16 f.yT), (8, le16 f.yE), (10, le16 f.bh), (12, [byte f.activeBands])]

/-- The query requests in a state with fields of their responses, each at its byte position by the layouts of R188, and
of an absent value or a field that does not apply the zeros of R185 (for origins and modes: log 17). -/
def State.fields (s : State) : List (Instr × List (Nat × List Byte)) :=
  let views : List (Instr × List (Nat × List Byte)) :=
    [(.rcQuery [], setupFields s), (.gmQuery [], geometryFields s.ge), (.mdQuery [], modeFields s),
      (.lnQuery [4], lensFields s), (.thQuery [0], fanFields s .f0), (.thQuery [1], fanFields s .f1),
      (.thQuery [2], fanFields s .f2), (.thQuery [3], coolingFields s),
      (.snQuery [8], sensors.flatMap fun sn => summaryFields (7 * sensorNumber sn) (s.scan.therms.get sn)),
      (.snQuery [9], scanFields s.scan)]
  let records (ax : Axis) : Instr × List (Nat × List Byte) := (.lnQuery [byte (axisNumber ax)], axisFields s 0 ax)
  let details (sn : Sensor) : Instr × List (Nat × List Byte) := (.snQuery [byte (sensorNumber sn)], sensorFields s sn)
  views ++ axes.map records ++ sensors.map details

/-- An axis has an entry waiting, or a motion running, with a given job (R97, R98). -/
def State.Has (s : State) (ax : Axis) (job : Job) : Prop :=
  (∃ e ∈ s.mq.entries, e.axis = ax ∧ e.job = job) ∨ ∃ m, (s.lens.get ax).motion = some m ∧ m.job = job

/-- What becomes of the running motion of an axis that a request displaces with an end status (R71): its drive on, it
goes into its brake with that status (its leg end point stays, log 38); in BRAKE it goes on as it was; in SETTLE or
PAUSED it ends at once with that status, which stands as the axis's last end where no entry waited there and the new one
waits or runs. -/
def Displaced (ax : Axis) (m : Motion) (status : EndStatus) (s t : State) : Prop :=
  (driveOn m.phase = true →
      (t.lens.get ax).motion = some { m with phase := .brake, brake := some ⟨status, s.now⟩, window := [] })
    ∧ (m.phase = .brake → (t.lens.get ax).motion = some m)
    ∧ (m.phase = .settle ∨ m.phase = .paused → t.flagged .motionEnd
        ∧ (s.entryOf ax = none → t.entryOf ax ≠ none ∨ t.moving ax = true →
            (t.lens.get ax).lastEnd = some ⟨originOf m.job, jobTag m.job, status, s.position ax⟩)
        ∧ (s.entryOf ax = none → t.entryOf ax ≠ none →
            (t.lens.get ax).motion = none ∧ (t.lens.get ax).state = stateAfter m status))

/-- A table has become the LIVE bank (R152): its generation is the next one, the STAGED bank is EMPTY, GEOMETRY_LIVE is
set, and a recall in APPLYING has ended with RECALL_DONE and the report of the outcome fixed for it (R32, R36). -/
def Swapped (tb : Table) (s t : State) : Prop :=
  t.ge.live = tb ∧ t.ge.generation = s.ge.generation + 1 ∧ t.ge.staged = .empty ∧ t.flagged .geometryLive
    ∧ (s.setup.recallState = .applying → t.setup.recallState = .none ∧ t.setup.current = none ∧ t.flagged .recallDone
        ∧ ∀ rc, s.setup.current = some rc → t.setup.report = some (reportOf (rc.outcome.getD .complete) rc))
    ∧ (s.setup.recallState ≠ .applying → t.setup = s.setup)
    ∧ t.ge.active = s.ge.active ∧ t.ge.raster = s.ge.raster ∧ t.ge.orient = s.ge.orient
    ∧ s.SameOuter t ∧ t.scan = s.scan ∧ t.lens = s.lens ∧ t.mq = s.mq ∧ t.fc = s.fc ∧ t.cc = s.cc ∧ t.mc = s.mc

/-- What starts on a free converter (R41): the rest of a burst first; then a slow conversion that is held, in TRIGGERED
mode only where a fast conversion has just ended; then a burst that waits; and otherwise nothing. The cursor moves on as
a conversion starts (log 25). -/
def Granted (now : Time) (afterFast : Bool) (c d : Scanner) : Prop :=
  let fast (left : Nat) (waits : Bool) : Scanner := { c with
    converting := some ⟨.fast c.fastCursor, now⟩, fastCursor := nextFast c.fastCursor, burstLeft := left
    burstWaiting := waits }
  let may : Prop := c.slowHeld = true ∧ (c.fastMode ≠ .triggered ∨ afterFast = true)
  (0 < c.burstLeft → d = fast (c.burstLeft - 1) c.burstWaiting)
  ∧ (c.burstLeft = 0 → may → d = { c with
      converting := some ⟨.slow c.slowCursor, now⟩, slowCursor := nextSensor c.slowCursor, slowHeld := false })
  ∧ (c.burstLeft = 0 → c.slowHeld = false → c.burstWaiting = true → d = fast 4 false)
  ∧ (c.burstLeft = 0 → ¬may → c.burstWaiting = false → d = c)

/-! ## The end of a motion and its neighbours -/

/-- The status that an abandonment leaves an axis with (R35), from its running motion: STOPPED for an entry removed and
for a motion ended, the fixed status for a motion in BRAKE. -/
def stoppedProgress (m : Option Motion) : Progress → Progress
  | .notNamed => .notNamed
  | .ended st => .ended st
  | .waiting => .ended .stopped
  | .running => .ended ((m.bind (·.brake)).elim .stopped (·.status))

/-- A recall in flight has been abandoned (R22, R35, R36): nothing of it is left but its report. -/
def Abandoned (rc : Recall) (s t : State) : Prop :=
  t.setup.recallState = .none ∧ t.setup.current = none ∧ t.setup.pendingGeometry = none
    ∧ t.setup.report = some (reportOf .abandoned { rc with
        progress := .make fun ax => stoppedProgress (s.lens.get ax).motion (rc.progress.get ax) })

/-- A status has been recorded for an axis of the recall in flight (R30, R31, R36): while another axis is unfinished the
recall goes on; otherwise its axis phase is over, COMPLETE if every named axis ARRIVED and PARTIAL otherwise, which sets
modified; a pending geometry is applied, and without one the recall ends with its report. -/
def Recorded (ax : Axis) (status : EndStatus) (rc : Recall) (s t : State) : Prop :=
  let r : Recall := { rc with progress := rc.progress.set ax (.ended status) }
  let allArrived : Prop := ∀ b, r.progress.get b = .notNamed ∨ r.progress.get b = .ended .arrived
  ((∃ b, unfinished (r.progress.get b) = true) →
      t.setup.current = some r ∧ t.setup.recallState = .moving ∧ t.setup.pendingGeometry = s.setup.pendingGeometry
        ∧ t.setup.modified = s.setup.modified ∧ t.ge = s.ge)
  ∧ ((∀ b, unfinished (r.progress.get b) = false) →
      ∃ outcome, (allArrived ∧ outcome = .complete ∨ ¬allArrived ∧ outcome = .partly)
        ∧ t.setup.modified = (s.setup.modified || outcome = .partly) ∧ t.setup.pendingGeometry = none
        ∧ (s.setup.pendingGeometry = none → t.setup.recallState = .none ∧ t.setup.current = none
            ∧ t.setup.report = some (reportOf outcome r) ∧ t.flagged .recallDone ∧ t.ge = s.ge)
        ∧ ∀ g, s.setup.pendingGeometry = some g → t.setup.recallState = .applying
            ∧ t.setup.current = some { r with applied := true, outcome := some outcome }
            ∧ t.ge = { s.ge with
                active := reclamp s.ge.raster g, staged := .computing ⟨reclamp s.ge.raster g, s.ge.raster, s.ge.orient⟩ })

/-- What the Active Setup takes from the end of a motion (R30, R73, R75): the recall in flight in MOVING counts an end
of its own tag, once for each axis, and no other; a jog on an axis with a calibration sets its base target to the
position at the end, unless it ends RETARGETED. -/
def SetupHears (ax : Axis) (m : Motion) (status : EndStatus) (s t : State) : Prop :=
  let counts (rc : Recall) : Prop :=
    jobTag m.job = some rc.tag ∧ s.setup.recallState = .moving ∧ unfinished (rc.progress.get ax) = true
  (∀ rc, s.setup.current = some rc → counts rc → Recorded ax status rc s t)
  ∧ ((∀ rc, s.setup.current = some rc → ¬counts rc) →
      t.setup.current = s.setup.current ∧ t.setup.recallState = s.setup.recallState ∧ t.setup.report = s.setup.report
        ∧ t.setup.modified = s.setup.modified ∧ t.ge = s.ge)
  ∧ (∀ b, b ≠ ax → t.setup.base.get b = s.setup.base.get b)
  ∧ (∀ up d c, m.job = .jog up d → status ≠ .retargeted → (t.lens.get ax).cal = some c →
      t.setup.base.get ax = some (normalise c (t.rawNow ax)))
  ∧ ((∀ up d, m.job ≠ .jog up d) ∨ status = .retargeted ∨ (t.lens.get ax).cal = none →
      t.setup.base.get ax = s.setup.base.get ax)

/-- What the Focus Compensator takes from the end of a FOCUS motion (R103, R107): a MOVE or RECALL that ARRIVED, and a
jog not RETARGETED, set the reference, with both compensations 0; a TRIM leaves flight, and one that ARRIVED sets the
applied compensation. -/
def FocusHears (m : Motion) (status : EndStatus) (s t : State) : Prop :=
  let same : Prop := t.fc = s.fc ∧ t.setup.tref = s.setup.tref
  let reference : Prop := t.fc = { s.fc with comp := 0, applied := 0 } ∧ t.setup.tref = s.validTemp .s3
  match m.job with
  | .move _ | .ofRecall _ _ => if status = .arrived then reference else same
  | .jog _ _ => if status = .retargeted then same else reference
  | .trim _ => t.setup.tref = s.setup.tref ∧ t.fc = { s.fc with
      trim := none
      applied := if status = .arrived then s.fc.trim.elim s.fc.applied fun x => (x.target : Int) - x.base
        else s.fc.applied }
  | .park _ | .learn => same

/-- The fast list after the end of a motion that starts no other (R41, R42, R43): while another axis is MOVING,
TRIGGERED goes on; otherwise it becomes PERIODIC, the first burst falls due 20 ms later, and a held slow conversion
starts at once where the converter is free. -/
def FastListFollows (ax : Axis) (s t : State) : Prop :=
  ((∃ b, b ≠ ax ∧ s.moving b = true) → t.scan.fastMode = s.scan.fastMode ∧ t.scan.nextBurst = s.scan.nextBurst)
    ∧ ((∀ b, b ≠ ax → s.moving b = false) → s.scan.fastMode = .triggered →
        t.scan.fastMode = .periodic ∧ t.scan.nextBurst = some (s.now + 20000)
        ∧ (s.scan.slowHeld = true → s.scan.burstLeft = 0 → s.scan.converting = none →
            t.scan.converting = some ⟨.slow s.scan.slowCursor, s.now⟩ ∧ t.scan.slowHeld = false))

/-- A cooldown has ended and the mode is STANDBY (R42, R45, R84, R123, R163, R167): the timer idle and both lines low,
the lens at rest, every fan off with its marks cleared and its faulted mark and counts kept, the light limit as it was,
the scanner on the schedules of STANDBY, and MODE_CHANGE set. -/
def CooledDown (s t : State) : Prop :=
  t.mc = { s.mc with
      mode := .standby, previous := some .cooldown, entered := s.now, cooldown := none, thermalDone := true
      lightPermit := false, thermTrip := false }
    ∧ t.lensAtRest = true ∧ t.flagged .modeChange ∧ t.cc.light = s.cc.light
    ∧ (∀ fan, let f := s.cc.fans.get fan
        let g := t.cc.fans.get fan
        g.duty = 0 ∧ g.target = 0 ∧ g.override = false ∧ g.compensating = false ∧ g.failsafe = false ∧ g.governing = none
          ∧ g.faulted = f.faulted ∧ g.low = f.low ∧ g.good = f.good)
    ∧ t.scan.fastMode = .off ∧ t.scan.nextBurst = none ∧ t.scan.slowInterval = .one
    ∧ t.scan.nextSlow = some (s.now + 1000000) ∧ s.SameOuter t

/-- A running motion of an axis has ended with a status (R57, R73): MOTION_END is set, and AXIS_FAULT at an entry to
FAULT; unless an entry for the axis waited, which may start at once, the axis holds the ended record; with no entry
waiting at all, every other axis is as it was, the Active Setup and the Focus Compensator have taken the end, and the
fast list has followed (R42), the end of a cooldown apart. In COOLDOWN with thermal done yes and the lens come to rest,
the cooldown has ended; otherwise mode and Cooling stay, but that what a queue of nothing but jogs leaves there, which
no COOLDOWN holds (R84, R86), is not said (R167). -/
def Ended (ax : Axis) (m : Motion) (status : EndStatus) (s t : State) : Prop :=
  t.flagged .motionEnd ∧ (status = .stalled ∨ status = .timeout → t.flagged .axisFault)
    ∧ (s.entryOf ax = none →
        (t.lens.get ax).motion = none ∧ (t.lens.get ax).state = stateAfter m status
        ∧ (t.lens.get ax).lastEnd = some ⟨originOf m.job, jobTag m.job, status, t.position ax⟩
        ∧ (t.lens.get ax).cal = if status = .learnFail then none else (s.lens.get ax).cal)
    ∧ (s.mq.entries = [] → (∀ b, b ≠ ax → t.lens.get b = s.lens.get b) ∧ SetupHears ax m status s t
        ∧ (if ax = .focus then FocusHears m status s t else t.fc = s.fc ∧ t.setup.tref = s.setup.tref)
        ∧ (s.mc.mode ≠ .cooldown ∨ s.mc.thermalDone = false → FastListFollows ax s t)
        ∧ (s.mc.mode = .cooldown → s.mc.thermalDone = true → (∀ b, b ≠ ax → s.moving b = false) → CooledDown s t))
    ∧ (s.mc.mode ≠ .cooldown ∨ s.mc.thermalDone = false ∨ (∃ b, b ≠ ax ∧ s.moving b = true)
        ∨ (∃ e ∈ s.mq.entries, ∀ up d, e.job ≠ .jog up d) → t.mc = s.mc ∧ t.cc = s.cc)
    ∧ s.SameOuter t

/-! ## Changes of mode -/

/-- The mode has become TRIP with a record (R35, R72, R84, R123, R163, R168): THERM_TRIP high and LIGHT_PERMIT low, both
timers idle, every fan at 100 without override, every motion cut, STOPPED or as its BRAKE had fixed, no entry left, a
recall in flight ended ABANDONED, and TRIP and MODE_CHANGE set. -/
def Tripped (record : TripRecord) (s t : State) : Prop :=
  t.mc = { s.mc with
      mode := .trip, previous := some s.mc.mode, entered := s.now, fanCheck := none, cooldown := none
      lastTrip := some record, lightPermit := false, thermTrip := true }
    ∧ (∀ fan, (t.cc.fans.get fan).duty = 100 ∧ (t.cc.fans.get fan).target = 100 ∧ (t.cc.fans.get fan).override = false)
    ∧ t.lensAtRest = true
    ∧ (∀ ax m, (s.lens.get ax).motion = some m → t.flagged .motionEnd
        ∧ (t.lens.get ax).lastEnd.map (·.status) = some (m.brake.elim .stopped (·.status)))
    ∧ (∀ rc, s.setup.current = some rc → t.setup.recallState = .none ∧ t.setup.current = none
        ∧ t.setup.pendingGeometry = none ∧ t.flagged .recallDone ∧ (s.mq.entries = [] → Abandoned rc s t))
    ∧ t.flagged .trip ∧ t.flagged .modeChange ∧ s.SameOuter t

/-- The target and the failsafe mark of a fan in COOLDOWN outside an evaluation (R123): 100 while compensating, and
otherwise the larger of 70 and its curve at the hottest valid sensor of its mask, or 80 without one, where sensors, mask
and curve are those of the last evaluation (log 19, log 39). The commanded duty stays as it was, also where the target
becomes 100 (log 42). -/
def AimedForCooldown (fan : Fan) (s t : State) : Prop :=
  let u := s.cc.used.get fan
  let g := t.cc.fans.get fan
  let reads (sn : Sensor) (x : Int) : Prop := inSet u.mask sn = true ∧ s.cc.seen.get sn = some x
  g.duty = (s.cc.fans.get fan).duty ∧ (g.failsafe = true ↔ ∀ sn x, ¬reads sn x)
    ∧ (g.compensating = true → g.target = 100)
    ∧ (g.compensating = false → (∀ sn x, ¬reads sn x) → g.target = 80)
    ∧ (g.compensating = false → ∀ sn x, reads sn x → (∀ sn' y, reads sn' y → y ≤ x) →
        g.target = max (curveValue u.curve x) 70)

/-- What a window close that makes a fan faulted does to the others and to the light (R127): L is at most 60; each fan
not faulted compensates, in COOLDOWN at 100 at once and in RUN too unless it is in failsafe; in TRIP every duty and
every target of 100 stays. -/
def FaultSpreads (bad : Fan) (s t : State) : Prop :=
  t.cc.light = min s.cc.light 60 ∧ (60 < s.cc.light → t.flagged .derate) ∧ t.flagged .fanFault
    ∧ (t.cc.fans.get bad).compensating = false
    ∧ ∀ other, (t.cc.fans.get other).faulted = false →
        let f := s.cc.fans.get other
        let g := t.cc.fans.get other
        g.compensating = true
        ∧ (t.mc.mode = .cooldown ∨ t.mc.mode = .run ∧ f.failsafe = false → g.duty = 100 ∧ g.target = 100)
        ∧ (t.mc.mode = .run → f.failsafe = true → g.duty = f.duty ∧ g.target = f.target)
        ∧ (s.mc.mode = .trip → g.duty = f.duty ∧ (f.target = 100 → g.target = 100))

/-- What a window close that leaves no fan faulted undoes (R127; log 18 and log 20 for the targets): no fan compensates,
L stays, and the targets go by the mode: in RUN the demand, cut with the duty to the cap outside override, a failsafe
fan keeping its own; in COOLDOWN as at its entry; in TRIP as they were. -/
def RecoverySpreads (s t : State) : Prop :=
  t.cc.light = s.cc.light ∧ ∀ fan,
    let f := s.cc.fans.get fan
    let g := t.cc.fans.get fan
    g.compensating = false ∧ g.demand = f.demand ∧ g.override = f.override
    ∧ (s.mc.mode ≠ .cooldown → g.failsafe = f.failsafe)
    ∧ (s.mc.mode = .run → f.failsafe = true → g.duty = f.duty ∧ g.target = f.target)
    ∧ (s.mc.mode = .run → f.failsafe = false → f.override = true → g.duty = f.duty ∧ g.target = f.demand)
    ∧ (s.mc.mode = .run → f.failsafe = false → f.override = false →
        g.duty = min f.duty (capInForce s fan) ∧ g.target = min f.demand (capInForce s fan))
    ∧ (s.mc.mode = .cooldown → AimedForCooldown fan s t)
    ∧ (s.mc.mode = .trip → g.duty = f.duty ∧ g.target = f.target)

/-! ## The course of a motion -/

/-- The duty class at a distance from the leg end point (R64). -/
def classAt (d : Nat) : Duty := if 200 ≤ d then .full else if 40 ≤ d then .slow else .creep

/-- The phase of a final leg at a distance (R64). -/
def legPhaseAt (d : Nat) : Phase := if 200 ≤ d then .drive else if 40 ≤ d then .slow else .creep

/-- A leg has begun toward an end point from a position, in a phase (R61, R64): sense and duty class by the position,
the drive start and the leg start now, and no settle. -/
def legFrom (now : Time) (phase : Phase) (duty : Duty) (point pos : Nat) (m : Motion) : Motion :=
  { m with
    phase := phase, duty := duty, legEnd := some point, sense := if pos < point then .positive else .negative
    driveStart := now, legStart := now, window := [], between := false, settle := none }

/-- A settle has begun (R65): 30 ms to wait, no sample counted, the drive off, no leg end point (log 17). -/
def settling (now : Time) (m : Motion) : Motion :=
  { m with
    phase := .settle, legEnd := none, sense := .off, between := false, window := [], settle := some ⟨now, true, 0⟩ }

/-- A stall is to be judged on this sample (R68): the drive has been on for 250 ms, and the movement since the sample of
150 ms earlier is below 3 in the measure given; that sample is the newest one at least 150 ms old (log 22). -/
def StallsAt (measure : Raw → Nat) (now : Time) (raw : Raw) (m : Motion) : Prop :=
  m.driveStart + 250000 ≤ now ∧ ∃ x, m.window.find? (fun x => x.1 + 150000 ≤ now) = some x
    ∧ distance (measure raw) (measure x.2) < 3

/-- The samples of a settle (R65, R66): none is judged while the wait runs; the fifth within 3 counts of the target in a
row ends the motion ARRIVED; one outside starts a correction leg at CREEP duty toward the target, and after three
corrections ends the motion UNSETTLED. -/
def SettleSamples : Prop :=
  ∀ (c : Calibration) (now : Time) (raw : Raw) (first : Bool) (m : Motion) (st : Settle) (target : Nat),
    m.phase = .settle → m.settle = some st → jobTarget m.job = some target →
    let pos := normalise c raw
    let fate := (sampleMotion (some c) now raw first m).fate
    (st.waiting = true → fate = .goes m)
    ∧ (st.waiting = false → distance pos target ≤ 3 → st.count ≠ 4 →
        fate = .goes { m with settle := some { st with count := st.count + 1 } })
    ∧ (st.waiting = false → distance pos target ≤ 3 → st.count = 4 → fate = .ends .arrived)
    ∧ (st.waiting = false → 3 < distance pos target → m.corrections < 3 →
        fate = .goes (legFrom now .correct .creep target pos { m with corrections := m.corrections + 1 }))
    ∧ (st.waiting = false → 3 < distance pos target → 3 ≤ m.corrections → fate = .ends .unsettled)

/-- The samples of a leg (R63, R64, R68, R77): its drive turns off within 3 counts of its end point or past it, and what
follows goes by the phase; a stall ends the motion STALLED; otherwise the duty class is chosen afresh. Where one sample
shows both, either comes first (log 13). The sample after an overshoot leg begins the final leg; until then the motion
keeps its phase with the drive off (log 24). -/
def LegSamples : Prop :=
  ∀ (c : Calibration) (now : Time) (raw : Raw) (first : Bool) (m : Motion) (point : Nat),
    m.phase ∈ [.drive, .slow, .creep, .overshoot, .correct, .learnReturn] →
    let pos := normalise c raw
    let fate := (sampleMotion (some c) now raw first m).fate
    let done : Prop := distance pos point ≤ 3 ∨ m.sense = .positive ∧ point ≤ pos ∨ m.sense = .negative ∧ pos ≤ point
    let stall : Prop := StallsAt (normalise c) now raw m
    let off : Fate :=
      if m.phase = .overshoot then .goes { m with between := true, window := [] }
      else if m.phase = .learnReturn then .ends .learnOk
      else .goes (settling now m)
    (m.between = false → m.legEnd = some point →
      (done → ¬stall → fate = off) ∧ (¬done → stall → fate = .ends .stalled)
      ∧ (done → stall → fate = off ∨ fate = .ends .stalled)
      ∧ (¬done → ¬stall → fate = .goes { m with
          phase := if m.phase ∈ [.overshoot, .correct, .learnReturn] then m.phase else legPhaseAt (distance pos point)
          duty := if m.phase = .correct then .creep else classAt (distance pos point)
          window := (now, raw) :: keepWindow now m.window }))
    ∧ (m.phase = .overshoot → m.between = true → jobTarget m.job = some point → 3 < distance pos point →
        fate = .goes (legFrom now (legPhaseAt (distance pos point)) (classAt (distance pos point)) point pos m))

/-- The samples of a jog (R68, R75): at the soft limit of its direction it goes into its brake with JOG_END; a stall
ends it STALLED where the axis was IDLE and JOG_END otherwise. Where one sample shows both, either comes first (log 13).
A jog that is PAUSED is not judged (log 41). -/
def JogSamples : Prop :=
  ∀ (cal : Option Calibration) (now : Time) (raw : Raw) (first : Bool) (m : Motion) (up : Bool) (d : Time),
    m.phase ∈ [.jogCreep, .jogSlow, .jogFull] → m.job = .jog up d →
    let fate := (sampleMotion cal now raw first m).fate
    let limit : Prop := ∃ c, cal = some c ∧ normalise c raw = if up then 4000 else 0
    let stall : Prop := StallsAt (fun x => cal.elim x.toNat fun c => normalise c x) now raw m
    let braking : Fate := .goes { m with phase := .brake, brake := some ⟨.jogEnd, now⟩, window := [] }
    let stopped : Fate := .ends (if m.returnState = .idle then .stalled else .jogEnd)
    (limit → ¬stall → fate = braking) ∧ (¬limit → stall → fate = stopped)
    ∧ (limit → stall → fate = braking ∨ fate = stopped)
    ∧ (¬limit → ¬stall → fate = .goes { m with window := (now, raw) :: keepWindow now m.window })

/-- The samples of a learn's first two legs (R76, R77, R78): the stall of LEARN_NEG, in raw steps, records e_neg; the
next sample begins LEARN_POS; its stall records e_pos. A span under 1000 ends the learn LEARN_FAIL; otherwise the pair
is the new calibration, and the return leg begins toward the dispatch reading, or the learn ends LEARN_OK within 3
counts of it. -/
def LearnSamples : Prop :=
  ∀ (cal : Option Calibration) (now : Time) (raw : Raw) (first : Bool) (m : Motion) (l : LearnReadings),
    m.phase ∈ [.learnNeg, .learnPos] → m.learn = some l →
    let r := sampleMotion cal now raw first m
    let stall : Prop := StallsAt (·.toNat) now raw m
    (m.between = true → r = ⟨.goes { m with
        phase := .learnPos, sense := .positive, duty := .slow, driveStart := now, legStart := now, window := []
        between := false }, none⟩)
    ∧ (m.between = false → ¬stall → r = ⟨.goes { m with window := (now, raw) :: keepWindow now m.window }, none⟩)
    ∧ (m.between = false → stall → m.phase = .learnNeg →
        r = ⟨.goes { m with learn := some { l with neg := some raw }, between := true, window := [] }, none⟩)
    ∧ ∀ neg, m.between = false → stall → m.phase = .learnPos → l.neg = some neg →
        let c : Calibration := ⟨neg, raw⟩
        let pos := normalise c raw
        let back := normalise c l.atDispatch
        ((raw.toNat - neg.toNat : Int).natAbs < 1000 → r = ⟨.ends .learnFail, none⟩)
        ∧ (1000 ≤ (raw.toNat - neg.toNat : Int).natAbs → distance back pos ≤ 3 → r = ⟨.ends .learnOk, some c⟩)
        ∧ (1000 ≤ (raw.toNat - neg.toNat : Int).natAbs → 3 < distance back pos →
            r = ⟨.goes (legFrom now .learnReturn (classAt (distance back pos)) back pos
              { m with learn := some { l with pos := some raw }, learned := true }), some c⟩)

/-- The dispatch step of a motion (R62, R63, R64, R69, R74, R75, R76, R89): a positioning motion settles within 3 counts
of its target, begins with an overshoot leg where the travel is against the approach and the overshoot point is not the
target, and otherwise with the final leg; a jog begins in JOG_CREEP, or ends JOG_END at its soft limit, or brakes where
its deadline has passed; a learn begins in LEARN_NEG. A low supply pauses what has not ended. -/
def DispatchSteps : Prop :=
  ∀ (ax : Axis) (o : Orientation) (c : Calibration) (cal : Option Calibration) (now : Time) (raw : Raw) (ret : AxisState)
    (job : Job),
    let made (cal : Option Calibration) (low : Bool) : Fate := dispatchMotion ax o cal now raw low ret job
    (∀ target, jobTarget job = some target → target ≤ 4000 →
      let pos := normalise c raw
      let up := decide (pos < target)
      let against : Prop := ax = .vshift ∧ up = isCeiling o ∨ (ax = .zoom ∨ ax = .focus) ∧ up = false
      let beyond := if up then min (target + 60) 4000 else target - 60
      ∃ m, made (some c) false = .goes m ∧ m.job = job ∧ m.returnState = ret ∧ m.dispatched = now ∧ m.corrections = 0
        ∧ m.between = false ∧ m.pause = none ∧ m.brake = none ∧ m.learned = false
        ∧ (distance pos target ≤ 3 → m = settling now m)
        ∧ (3 < distance pos target → against → beyond ≠ target →
            m = legFrom now .overshoot (classAt (distance pos beyond)) beyond pos m)
        ∧ (3 < distance pos target → ¬against ∨ beyond = target →
            m = legFrom now (legPhaseAt (distance pos target)) (classAt (distance pos target)) target pos m))
    ∧ (∀ up d, job = .jog up d → now < d →
      let limit : Prop := ∃ c, cal = some c ∧ normalise c raw = if up then 4000 else 0
      (limit → made cal false = .ends .jogEnd)
      ∧ (¬limit → ∃ m, made cal false = .goes m ∧ m.job = job ∧ m.returnState = ret ∧ m.dispatched = now
          ∧ m.phase = .jogCreep ∧ m.duty = .creep ∧ m.sense = if up then .positive else .negative))
    ∧ (∀ up d, job = .jog up d → d ≤ now → (∀ c, cal = some c → normalise c raw ≠ if up then 4000 else 0) →
        ∃ m, made cal false = .goes m ∧ m.phase = .brake ∧ m.brake = some ⟨.jogEnd, now⟩)
    ∧ (job = .learn → ∃ m, made cal false = .goes m ∧ m.job = job ∧ m.returnState = ret ∧ m.dispatched = now
        ∧ m.legStart = now ∧ m.phase = .learnNeg ∧ m.duty = .slow ∧ m.sense = .negative ∧ m.learn = some ⟨raw, none, none⟩)
    ∧ ((∀ up d, job = .jog up d → now < d) →
        made cal true = match made cal false with
          | .goes m => .goes { m with phase := .paused, pause := some ⟨m.phase, now, none⟩, window := [] }
          | .ends status => .ends status)

/-! ## A thermal evaluation -/

/-- The Focus Compensator after an evaluation (R102, R105, R106): the coefficient interpolated at ZOOM's position, the
compensation by the first case that holds, and in RUN a TRIM to the effective target where FOCUS may be trimmed and the
difference reaches the threshold. -/
def FocusEvaluated (s t : State) : Prop :=
  let z := ((s.lens.get .zoom).cal.bind fun c => (s.reading .zoom).map (normalise c)).getD 2000
  let points := [s.fc.table.c0, s.fc.table.c1, s.fc.table.c2, s.fc.table.c3, s.fc.table.c4]
  let i := if z = 4000 then 3 else z / 1000
  let coef := roundHalfAway (1000 * points.getD i 0 + (points.getD (i + 1) 0 - points.getD i 0) * ((z : Int) - 1000 * i)) 1000
  let comp : Int :=
    if s.setup.focusOn = false then 0
    else match s.setup.tref, t.validTemp .s3 with
      | none, _ => 0
      | some _, none => s.fc.comp
      | some tref, some t3 => max (-150) (min (roundHalfAway (coef * (t3 - tref)) 100) 150)
  let free : Prop := (s.lens.get .focus).cal ≠ none ∧ (s.lens.get .focus).state = .idle ∧ s.mc.mode = .run
  let trims (base : Nat) : Prop :=
    (if s.setup.quiet = 3 then 15 else 6) ≤ ((clampNat (base + comp) 4000 : Int) - (base + s.fc.applied)).natAbs
  t.fc.zoomUsed = z ∧ t.fc.coef = coef ∧ t.fc.comp = comp ∧ t.fc.applied = s.fc.applied ∧ t.fc.table = s.fc.table
    ∧ t.setup.tref = s.setup.tref
    ∧ (∀ base, free → s.setup.base.get .focus = some base → trims base →
        t.Has .focus (.trim (clampNat (base + comp) 4000)) ∧ t.fc.trim = some ⟨clampNat (base + comp) 4000, base⟩)
    ∧ (¬free ∨ (∀ base, s.setup.base.get .focus = some base → ¬trims base) → t.entryOf .focus = none
        ∧ t.lens.get .focus = s.lens.get .focus)

/-- A fan after an evaluation in RUN (R120, R121, R122), from the valid sensors of its mask in force: override, entered
at a sensor's override limit and left 50 below it; failsafe without a valid sensor; otherwise the demand of the hottest
one, floored, capped outside override and at least 30 for a faulted fan, as the target unless the fan compensates; and
the commanded duty raised at an entry to override, or cut to the cap. Which of two equally hot sensors is recorded is
free (log 14). -/
def FanEvaluated (fan : Fan) (s t : State) : Prop :=
  let f := s.cc.fans.get fan
  let g := t.cc.fans.get fan
  let cap := capInForce s fan
  let reads (sn : Sensor) (x : Int) : Prop := inSet (maskInForce s fan) sn = true ∧ t.validTemp sn = some x
  (g.override = true ↔ ∃ sn x, reads sn x ∧ (s.cc.limits.get sn).override - (if f.override then 50 else 0) ≤ x)
    ∧ (g.override = true → f.override = false → t.flagged .override)
    ∧ g.faulted = f.faulted ∧ g.compensating = f.compensating
    ∧ ((∀ sn x, ¬reads sn x) → g.failsafe = true ∧ g.governing = none ∧ g.target = 80 ∧ g.duty = f.duty)
    ∧ ∀ sn x, reads sn x → (∀ sn' y, reads sn' y → y ≤ x) →
        let floor := if isCeiling s.ge.orient = true ∧ fan = .f1 then 35 else 20
        let wanted := max (curveValue (s.cc.curves.get fan) x) floor
        let allowed := if g.override then wanted else min wanted cap
        g.failsafe = false ∧ (∃ hottest, reads hottest x ∧ g.governing = some ⟨x, hottest⟩)
          ∧ g.demand = (if f.faulted then max allowed 30 else allowed)
          ∧ g.target = (if f.compensating then 100 else g.demand)
          ∧ g.duty = if g.override = true ∧ f.override = false then max f.duty g.target
              else if g.override = true ∨ f.compensating = true then f.duty else min f.duty cap

/-- A fan after an evaluation in COOLDOWN (R118, R123), from the valid sensors of its mask in force: failsafe and 80 as
its demand without one; otherwise its curve at the hottest one, with no floor and no cap (that this uncapped duty is
what is stored as the demand is log 19); the target at least 70, or 100 while compensating; and all else, the commanded
duty with it (log 42), as it was. Which of two equally hot sensors is recorded is free (log 14). -/
def FanEvaluatedInCooldown (fan : Fan) (s t : State) : Prop :=
  let f := s.cc.fans.get fan
  let g := t.cc.fans.get fan
  let reads (sn : Sensor) (x : Int) : Prop := inSet (maskInForce s fan) sn = true ∧ t.validTemp sn = some x
  g = { f with governing := g.governing, failsafe := g.failsafe, demand := g.demand, target := g.target }
    ∧ g.target = (if f.compensating then 100 else max g.demand 70)
    ∧ ((∀ sn x, ¬reads sn x) → g.failsafe = true ∧ g.governing = none ∧ g.demand = 80)
    ∧ ∀ sn x, reads sn x → (∀ sn' y, reads sn' y → y ≤ x) →
        g.failsafe = false ∧ (∃ hottest, reads hottest x ∧ g.governing = some ⟨x, hottest⟩)
          ∧ g.demand = curveValue (s.cc.curves.get fan) x

/-- The light limit after an evaluation in RUN (R129): lowered by 5, to 40 at least, where the caps alone hold the fans
of a governed sensor at its hold limit back; raised by 5, to 100 at most, where every governed sensor is 30 below its
hold limit; at most 60 while a fan is faulted; and DERATE at every change. -/
def LightEvaluated (s t : State) : Prop :=
  let governed (sn : Sensor) (x : Int) : Prop :=
    t.validTemp sn = some x ∧ ∃ fan, inSet (maskInForce s fan) sn = true
  let lower : Prop := ∃ sn x, governed sn x ∧ (s.cc.limits.get sn).hold ≤ x ∧ ∀ fan, inSet (maskInForce s fan) sn = true →
    (t.cc.fans.get fan).duty = capInForce s fan ∧ (t.cc.fans.get fan).override = false
  let raise : Prop := ∀ sn x, governed sn x → x ≤ (s.cc.limits.get sn).hold - 30
  ∃ l, (lower → l = max (s.cc.light - 5) 40) ∧ (¬lower → raise → l = min (s.cc.light + 5) 100)
    ∧ (¬lower → ¬raise → l = s.cc.light) ∧ t.cc.light = (if faultedFans s.cc = 0 then l else min l 60)
    ∧ (t.cc.light ≠ s.cc.light → t.flagged .derate)

end Sys2Proof.Machine
end

