-- ==== Sys2Proof/Certificates/Slice0/Obligations.lean ====
section
/-! DEFINITION. The statements for the provers. -/

open Sys2Proof Sys2Proof.Machine

/-! ## The queue of commands, the frames and the reset -/

/-- A step runs the front command on the state with the queue's rest; with no command waiting a microsecond passes,
which is the model's choice (log 1, log 3). -/
def Obligations.StepRunsFrontCommand : Prop :=
  ∀ (i : Instr) (q : List Instr) (s : State),
    step (s.withPending (i :: q)) = exec i (s.withPending q)
      ∧ (s.pending = [] → step s = .next { s with now := s.now + 1 })

/-- No command touches the queue of waiting commands or the clock (the model's choice, log 1 and log 3). -/
def Obligations.ExecKeepsQueueAndClock : Prop :=
  ∀ (i : Instr) (s t : State), exec i s = .next t → t.pending = s.pending ∧ t.now = s.now

/-- No command stops the part, in any state, and so a run never stops: a refusal is an ordinary response (R177). That a
command whose event is not due, any command while RESET_N holds the part, and an UNKNOWN_REQUEST with a known code
answer a next state, and so change nothing, is the model's choice (log 2, log 8, log 32). -/
def Obligations.EveryCommandAnswers : Prop := (∀ (i : Instr) (s : State), ∃ t : State, exec i s = .next t) ∧ NeverStops

/-- The bytes of the frame of every well-formed request with at most 48 payload bytes are read back as that request
(R172, R173, R187). -/
def Obligations.FramesRoundTrip : Prop :=
  ∀ (i : Instr) (code : Byte) (p : Payload) (bytes : List Byte), i.WellFormed = true → frameOf i = some (code, p) →
    p.length ≤ 48 → encodeFrame i = some bytes → decodeTransaction bytes = some i

/-- The state after reset has every law (R6, R21, R47, R55, R58, R82, R100, R110, R111, R129, R132, R155, R162, R178,
R184 and the laws' own rules). -/
def Obligations.ResetIsSound : Prop :=
  State.reset.LineLaw ∧ State.reset.BudgetLaw ∧ State.reset.QueueLaw ∧ State.reset.RestLaw ∧ State.reset.AxisLaw
    ∧ State.reset.FastLaw ∧ State.reset.ConverterLaw ∧ State.reset.AlertLaw ∧ State.reset.LinkLaw
    ∧ State.reset.RecallLaw ∧ State.reset.PlacementLaw ∧ State.reset.GeometryLaw ∧ State.reset.BankLaw
    ∧ State.reset.CapLaw ∧ State.reset.TableLaw ∧ State.reset.RingLaw ∧ State.reset.FocusLaw

/-- Power-on reset takes every block to its power-on values by each block's own rule, with no timer running, and its end
starts the four schedules (R162, R45, R119, R124). That RESET_N holds the part in between is the model's choice (log 8),
and so are the reset values that no rule gives: the zoom used 2000, no trigger taken, no temperature seen, and the masks
and curves of the last evaluation those of the reset (log 9). -/
def Obligations.PowerOnResetAndItsEnd : Prop :=
  ∀ s : State,
    exec .powerOnReset s = .next { State.reset with
      pending := s.pending, now := s.now, held := true
      mc := { State.reset.mc with entered := s.now }
      scan := { State.reset.scan with nextSlow := none }
      cc := { State.reset.cc with nextFanUpdate := none, windowStart := none } }
    ∧ (s.held = true → exec .powerOnResetEnd s = .next { s with
        held := false
        mc := { s.mc with entered := s.now }
        scan := { s.scan with nextSlow := some (s.now + 1000000) }
        cc := { s.cc with nextFanUpdate := some (s.now + 500000), windowStart := some s.now } })

/-- While RESET_N holds the part, every command but the two of the reset changes nothing (the model's choice, log 8). -/
def Obligations.HeldPartIgnoresCommands : Prop :=
  ∀ (i : Instr) (s : State), s.held = true → i ≠ .powerOnReset → i ≠ .powerOnResetEnd → exec i s = .next s

/-! ## Laws that every step keeps -/

/-- R163: LIGHT_PERMIT exactly in RUN, THERM_TRIP exactly in TRIP, the light limit in 40 to 100. -/
def Obligations.LinesKept : Prop := Kept State.LineLaw

/-- R96: the budget is 4, 3 or 0, and the units held by running motions never sum to more than 4. -/
def Obligations.BudgetKept : Prop := Kept State.BudgetLaw

/-- R80: the queue holds at most one entry for each axis. -/
def Obligations.QueueKept : Prop := Kept State.QueueLaw

/-- R57, R84: outside RUN and COOLDOWN no axis is MOVING and no entry waits. -/
def Obligations.RestKept : Prop := Kept State.RestLaw

/-- R56, R57: an axis is MOVING exactly while it has a running motion. -/
def Obligations.AxesKept : Prop := Kept State.AxisLaw

/-- R42, R43: the fast list is OFF exactly in STANDBY and TRIGGERED exactly while an axis is MOVING; R41: a free
converter leaves no burst unfinished. R47, R48, R53: a thermistor's ring holds at most four readings, four in VALID, and
its filtered temperature is present exactly in VALID. -/
def Obligations.ScannerKept : Prop := Kept (fun s => s.FastLaw ∧ s.ConverterLaw) ∧ Kept State.RingLaw

/-- R179, R180, R183: an armed flag is set and enabled, and TRIP's enable is always yes. An occurrence sets its flag,
clears its read marker and arms it if it is enabled, and TRIP always; a flag armed stays so, and no other flag changes.
A flag that a command sets has so occurred; and ATTN_N is low exactly while a flag is armed. -/
def Obligations.AlertsKept : Prop :=
  Kept State.AlertLaw
  ∧ (∀ (f : Flag) (s : State), (occur f s).flagged f ∧ s.au.Differ (occur f s).au f
      ∧ occur f s = { s with au := (occur f s).au })
  ∧ (∀ (i : Instr) (s t : State) (f : Flag), s.AlertLaw → exec i s = .next t →
      s.au.set.getLsbD (flagNumber f) = false → t.au.set.getLsbD (flagNumber f) = true → t.flagged f)
  ∧ ∀ s : State, s.attnLow = true ↔ ∃ f : Flag, s.au.armed.getLsbD (flagNumber f) = true

/-- R174: the slot is PENDING exactly while the execution state is EXECUTING. -/
def Obligations.LinkKept : Prop := Kept State.LinkLaw

/-- R25: a pending geometry is present only while the recall state is MOVING. -/
def Obligations.RecallKept : Prop := Kept State.RecallLaw

/-- R1, R2, R3, R5, R13, R15: stored records stay within their limits, and the park and source slots stay READY. R100,
R106, R107: so do the drift coefficients, the compensation and the applied compensation, in -150 to 150, and the base
targets. -/
def Obligations.PlacementsKept : Prop := Kept State.PlacementLaw ∧ Kept fun s => s.PlacementLaw ∧ s.FocusLaw

/-- R133, R136, R147: the geometry inputs stay within the raster's limits, and every active band record of the LIVE bank
and of a READY table stays within the limits of the records. -/
def Obligations.BanksKept : Prop := Kept fun s => s.GeometryLaw ∧ s.BankLaw

/-- R122: in RUN a duty exceeds its cap only in override, in fault compensation or in failsafe; that the target stays at
or below it too is the model's reading (log 18). R110, R111: hold stays below override and override below trip, and
every curve rises strictly, with duties of at most 100, also among the curves of the last evaluation (log 39). -/
def Obligations.CapsKept : Prop := Kept State.CapLaw ∧ Kept State.TableLaw

/-! ## Computations -/

/-- R147: for every raster and geometry that R133 admits, every active band record lies within the limits of the table.
-/
def Obligations.RecordsWithinLimits : Prop :=
  ∀ (i : Inputs) (b : Nat), i.Sound → b < 64 →
    let d := bandOf i b
    d.kind = .empty ∨
      (d.xL16 < d.xR16 ∧ d.xL16 ≤ 4 * i.raster.wp ∧ 12 * i.raster.wp - 16 ≤ d.xR16
        ∧ 8 * i.raster.wp - 16 ≤ d.xR16 - d.xL16 ∧ d.xR16 ≤ 16 * (i.raster.wp - 1) ∧ 65536 ≤ d.hStep ∧ d.hStep ≤ 131175
        ∧ d.srcRow256 ≤ (i.raster.hp - 1) * 256 ∧ d.rowStep ≤ 262510)

/-- R49 and R48: at r = 256 × i the temperature is exactly T_i, a higher reading never gives a higher temperature, and a
reading of a good ring gives -349 to 1454. -/
def Obligations.TemperatureOfReadings : Prop :=
  (∀ i, i < 16 → conversionTable[i]? = some (temperatureOf (256 * i)))
    ∧ (∀ r r', r ≤ r' → r' < 4096 → temperatureOf r' ≤ temperatureOf r)
    ∧ ∀ r, 41 ≤ r → r ≤ 4054 → -349 ≤ temperatureOf r ∧ temperatureOf r ≤ 1454

/-! ## Placements -/

/-- PL_CREATE (R9, whole): after the record checks of R7, the record goes whole into the FREE slot named, or for slot 0
into the lowest-numbered FREE slot, and nothing else changes; a READY slot named is SLOT_TAKEN, and a full table
TABLE_FULL. -/
def Obligations.CreateStores : Prop :=
  ∀ (s : State) (p : Payload) (i : Fin 24), s.Ready → p.length ≤ 48 → 5 ≤ p.length → p.length = recordLength p →
    recordOk p = true →
    (s.pt.slots[i] = none → (u8 p 0 = i.val + 1 ∨ u8 p 0 = 0 ∧ ∀ j < i, s.pt.slots[j] ≠ none) →
      exec (.plCreate p) s = .next (State.answered
        { s with pt := { s.pt with slots := s.pt.slots.set i (some (storedRecord s.ge.raster p)) } }
        (if recordClamped s.ge.raster p then .clamped else .ok) [byte (i.val + 1)]))
    ∧ (s.pt.slots[i] ≠ none → u8 p 0 = i.val + 1 → exec (.plCreate p) s = .next (s.answered .slotTaken []))
    ∧ ((∀ j : Fin 24, s.pt.slots[j] ≠ none) → u8 p 0 = 0 → exec (.plCreate p) s = .next (s.answered .tableFull []))

/-- PL_WRITE (R10, whole): after the record checks of R7, the record replaces every field of a READY slot, modified
becomes yes if the slot is the source slot, and nothing else changes; a FREE slot is SLOT_FREE, and slot number 0
BAD_VALUE. -/
def Obligations.WriteReplaces : Prop :=
  ∀ (s : State) (p : Payload) (i : Fin 24), s.Ready → p.length ≤ 48 → 5 ≤ p.length → p.length = recordLength p →
    recordOk p = true →
    (s.pt.slots[i] ≠ none → u8 p 0 = i.val + 1 → exec (.plWrite p) s = .next (State.answered
      { s with
        pt := { s.pt with slots := s.pt.slots.set i (some (storedRecord s.ge.raster p)) }
        setup := { s.setup with modified := s.setup.modified || s.setup.source = some i } }
      (if recordClamped s.ge.raster p then .clamped else .ok) [byte (i.val + 1)]))
    ∧ (s.pt.slots[i] = none → u8 p 0 = i.val + 1 → exec (.plWrite p) s = .next (s.answered .slotFree []))
    ∧ (u8 p 0 = 0 ∨ 24 < u8 p 0 → exec (.plWrite p) s = .next (s.answered .badValue []))

/-- PL_READ (R12, R186): a READY slot's record comes back with its park mark, a FREE slot is SLOT_FREE, and nothing
changes; a record stored unclamped comes back byte for byte as the frame carried it. That the park mark's byte is 1 for
yes and 0 for no is the model's choice (log 36). -/
def Obligations.ReadReturnsRecord : Prop :=
  (∀ (s : State) (i : Fin 24), s.Ready →
    (∀ r, s.pt.slots[i] = some r → exec (.plRead [byte (i.val + 1)]) s = .next (s.answered .ok
      (byte (i.val + 1) :: (if s.pt.park = some i then 1 else 0) :: recordBytes r)))
    ∧ (s.pt.slots[i] = none → exec (.plRead [byte (i.val + 1)]) s = .next (s.answered .slotFree [])))
  ∧ ∀ (r : Raster) (p : Payload), 5 ≤ p.length → p.length = recordLength p → recordOk p = true →
    recordClamped r p = false → recordBytes (storedRecord r p) = p.drop 1

/-- PL_LIST (R18, R19): the READY slots from the start slot upward, in order, until the maximum is reached or the next
one would not fit the 46 bytes; then the count of those left. Nothing changes. -/
def Obligations.ListReturnsWhatFits : Prop :=
  ∀ (s : State) (start : Fin 24) (n : Nat), s.Ready → 1 ≤ n → n ≤ 24 →
    ∃ taken rest : List (Fin 24 × List Byte),
      readyFrom s.pt start = taken ++ rest ∧ taken.length ≤ n ∧ (taken.flatMap listEntry).length ≤ 46
      ∧ (rest = [] ∨ taken.length = n ∨ ∃ e more, rest = e :: more ∧ 46 < ((taken ++ [e]).flatMap listEntry).length)
      ∧ exec (.plList [byte (start.val + 1), byte n]) s = .next (s.answered .ok
          (byte taken.length :: taken.flatMap listEntry ++ [byte rest.length]))

/-- PL_RETIRE and PL_SET_PARK (R13 and R15, whole): a READY slot becomes FREE, and the park and source slots that name
it are cleared; the park slot takes a READY slot or none. A FREE slot is SLOT_FREE and a slot number above 24 BAD_VALUE.
-/
def Obligations.RetireAndPark : Prop :=
  ∀ (s : State), s.Ready →
    (∀ i : Fin 24, s.pt.slots[i] ≠ none →
      exec (.plRetire [byte (i.val + 1)]) s = .next (State.answered
        { s with
          pt := ⟨s.pt.slots.set i none, if s.pt.park = some i then none else s.pt.park⟩
          setup := if s.setup.source = some i then { s.setup with source := none, modified := true } else s.setup }
        .ok [byte (i.val + 1), marks [s.pt.park = some i, s.setup.source = some i]])
      ∧ exec (.plSetPark [byte (i.val + 1)]) s = .next (State.answered { s with pt := { s.pt with park := some i } }
          .ok [byte (s.pt.park.elim 0 fun j => j.val + 1), byte (i.val + 1)]))
    ∧ (∀ i : Fin 24, s.pt.slots[i] = none →
      exec (.plRetire [byte (i.val + 1)]) s = .next (s.answered .slotFree [])
      ∧ exec (.plSetPark [byte (i.val + 1)]) s = .next (s.answered .slotFree []))
    ∧ exec (.plSetPark [0]) s = .next (State.answered { s with pt := { s.pt with park := none } }
        .ok [byte (s.pt.park.elim 0 fun j => j.val + 1), 0])
    ∧ ∀ n, 25 ≤ n → n < 256 → exec (.plRetire [byte n]) s = .next (s.answered .badValue [])
        ∧ exec (.plSetPark [byte n]) s = .next (s.answered .badValue [])

/-- PL_RECALL (R25, R27, R28, R29, R36, R108): an accepted recall advances the tag, takes the placement's copies into
the live record, and gives each named axis a RECALL entry, waiting or already running, with its target and the tag; a
motion with its drive on there goes into its brake RETARGETED (R92; its leg end point stays, log 38), one in BRAKE keeps
its status, and one in SETTLE or PAUSED ends RETARGETED at once (R71); an axis not named and without an entry is left
alone. In Cooling nothing changes but that the cap of the new quiet level acts at once (R122): a fan outside override,
compensation and failsafe comes down to it, and that its target is cut too, whichever way the level moves, is the
model's reading (log 18). A recall in flight ends SUPERSEDED first. The new one is MOVING with its pending geometry if
it names an axis, APPLYING with its geometry active if it holds only that, and otherwise COMPLETE at once. What the
recall state is supposes that the tag has not wrapped onto that of an entry or motion still there (R22). -/
def Obligations.RecallTakesPlacement : Prop :=
  ∀ (s : State) (i : Fin 24) (r : Placement), s.Ready → s.mc.mode = .run → s.pt.slots[i] = some r →
    (∀ ax, r.targets.get ax ≠ none → s.countsUncalibrated ax = false ∧ s.countsFaulted ax = false) →
    ∃ t : State, exec (.plRecall [byte (i.val + 1)]) s
        = .next (t.answered (if r.geometry.any fun g => reclamp s.ge.raster g ≠ g then .clamped else .ok)
            [byte t.setup.tag, byte (i.val + 1), axisSet fun ax => (r.targets.get ax).isSome,
              byte (recallCode t.setup.recallState)])
      ∧ t.setup.tag = (if s.setup.tag = 255 then 1 else s.setup.tag + 1)
      ∧ t.setup.source = some i ∧ t.setup.modified = false ∧ t.setup.quiet = r.quiet ∧ t.setup.focusOn = r.focusOn
      ∧ (r.focusOn = false → s.setup.focusOn = true → t.fc.comp = 0)
      ∧ (∀ ax target, r.targets.get ax = some target →
          t.setup.base.get ax = some target ∧ t.Has ax (.ofRecall target t.setup.tag)
          ∧ ∀ m, (s.lens.get ax).motion = some m → Displaced ax m .retargeted s t)
      ∧ t.cc = { s.cc with fans := .make fun fan =>
          let f := s.cc.fans.get fan
          if f.override || f.compensating || f.failsafe then f
          else { f with duty := min f.duty (capOf r.quiet fan), target := min f.target (capOf r.quiet fan) } }
      ∧ (∀ ax, r.targets.get ax = none → s.entryOf ax = none →
          t.setup.base.get ax = s.setup.base.get ax ∧ t.lens.get ax = s.lens.get ax)
      ∧ ((∀ e ∈ s.mq.entries, jobTag e.job ≠ some t.setup.tag) →
          (∀ ax m, (s.lens.get ax).motion = some m → jobTag m.job ≠ some t.setup.tag) →
          let named : Prop := ∃ ax, r.targets.get ax ≠ none
          let none' : PerAxis Progress := ⟨.notNamed, .notNamed, .notNamed, .notNamed⟩
          let superseded : Option Report :=
            if s.setup.recallState = .none then s.setup.report
            else (s.setup.current.map (reportOf .superseded)).or s.setup.report
          (named → t.setup.recallState = .moving ∧ t.setup.pendingGeometry = r.geometry.map (reclamp s.ge.raster)
            ∧ t.ge = s.ge ∧ t.setup.report = superseded
            ∧ ∃ rc, t.setup.current = some rc ∧ rc.slot = i ∧ rc.tag = t.setup.tag ∧ rc.applied = false
              ∧ ∀ ax, rc.progress.get ax = if r.targets.get ax = none then .notNamed
                  else if t.entryOf ax = none then .running else .waiting)
          ∧ (∀ g, ¬named → r.geometry = some g →
            t.setup.recallState = .applying ∧ t.setup.pendingGeometry = none ∧ t.setup.report = superseded
            ∧ t.setup.current = some ⟨i, t.setup.tag, none', true, some .complete⟩
            ∧ t.ge = { s.ge with
                active := reclamp s.ge.raster g, staged := .computing ⟨reclamp s.ge.raster g, s.ge.raster, s.ge.orient⟩ })
          ∧ (¬named → r.geometry = none →
            t.setup.recallState = .none ∧ t.setup.current = none ∧ t.setup.pendingGeometry = none ∧ t.ge = s.ge
            ∧ t.setup.report = some (reportOf .complete ⟨i, t.setup.tag, none', false, none⟩) ∧ t.flagged .recallDone))
      ∧ (s.setup.recallState ≠ .none → t.flagged .recallDone)
      ∧ s.SameOuter t ∧ t.mc = s.mc

/-- PL_CAPTURE (R38): with the lens at rest in RUN, the slot takes the measured positions, the active geometry, the
quiet level and the focus choice, FOCUS less its applied compensation, and becomes the source slot; nothing else
changes. An axis with a calibration but no reading takes a free position (log 11). The status is CLAMPED exactly where
the clamp of FOCUS to 0 to 4000 changed the stored value, and OK otherwise. That the created mark's byte is 1 for yes
and 0 for no is the model's choice (log 36). -/
def Obligations.CaptureStoresSetup : Prop :=
  ∀ (s : State) (i : Fin 24) (p : Payload) (label : Option (List Byte)), s.Ready → s.mc.mode = .run →
    s.lensAtRest = true → (∀ l, label = some l → labelOk l = true) →
    p = byte (i.val + 1) :: label.elim [] (fun l => byte l.length :: l) →
    ∃ (r : Placement) (st : Status), (s.lens.focus.cal = none → st = .ok)
      ∧ (∀ c, s.lens.focus.cal = some c →
          let stored : Int := normalise c (s.rawNow .focus) - s.fc.applied
          st = if 0 ≤ stored ∧ stored ≤ 4000 then .ok else .clamped)
      ∧ r.label = label.getD ((s.pt.slots[i]).elim [] (·.label))
      ∧ r.geometry = some s.ge.active ∧ r.quiet = s.setup.quiet ∧ r.focusOn = s.setup.focusOn
      ∧ (∀ ax, (s.lens.get ax).cal = none → r.targets.get ax = none)
      ∧ (∀ ax c raw, ax ≠ .focus → (s.lens.get ax).cal = some c → s.reading ax = some raw →
          r.targets.get ax = some (normalise c raw))
      ∧ (∀ c raw, s.lens.focus.cal = some c → s.reading .focus = some raw →
          r.targets.focus = some (clampNat (normalise c raw - s.fc.applied) 4000))
      ∧ exec (.plCapture p) s = .next (State.answered
          { s with
            pt := { s.pt with slots := s.pt.slots.set i (some r) }
            setup := { s.setup with source := some i, modified := false, base := r.targets } }
          st [byte (i.val + 1), if s.pt.slots[i] = none then 1 else 0])

/-- The query requests (R39, R54, R79, R99, R131, R148, R171, R188): each answers OK with the fields of its layout as
they stand, in a payload of the layout's length, and changes nothing but the link; and the fields named by
`State.fields` stand at their byte positions. The code of a one-byte mark among them is the model's choice (log 36), and
how a time is rounded is free (log 12). That the origin of no running motion, the origin of no last end and the mode of
no trip record are sent as 0, and a previous mode that is none as hex FF, is the model's reading (log 17). -/
def Obligations.QueriesReadOnly : Prop :=
  (∀ (s : State) (q : Instr) (pl : List Byte) (n : Nat), s.Ready → (q, pl, n) ∈ s.queries →
    pl.length = n ∧ exec q s = .next (s.answered .ok pl))
  ∧ ∀ (s : State) (q : Instr) (fields : List (Nat × List Byte)), s.Ready → (q, fields) ∈ s.fields →
    ∃ pl, exec q s = .next (s.answered .ok pl) ∧ ∀ field ∈ fields, FieldAt pl field

/-! ## Lens requests -/

/-- LN_MOVE (R85): for a healthy axis in RUN the clamped target becomes the base target, the setup is modified, and a
MOVE entry for it waits or runs; a motion with its drive on goes into its brake RETARGETED (R71; its leg end point
stays, log 38), one in BRAKE goes on as it was, and one in SETTLE or PAUSED ends RETARGETED at once; an axis without an
entry and not named stays as it was. The response says what was displaced (a motion in BRAKE is not: log 16) and whether
the entry had been dispatched, and waits to say so of a dispatch before it is formed (log 4, log 36). -/
def Obligations.MoveQueuesTarget : Prop :=
  ∀ (s : State) (ax : Axis) (v : Nat), s.Ready → v < 65536 → s.mc.mode = .run → s.countsUncalibrated ax = false →
    s.countsFaulted ax = false →
    ∃ t : State, exec (.lnMove (byte (axisNumber ax) :: le16 v)) s
        = .next (t.answered (if 4000 < v then .clamped else .ok)
            (le16 (min v 4000) ++ displacedBytes s ax ++ [if t.entryOf ax = none then 1 else 0]))
      ∧ t.mq.awaited = some ⟨ax, 4, decide (t.entryOf ax = none)⟩
      ∧ t.Has ax (.move (min v 4000)) ∧ t.setup.base.get ax = some (min v 4000) ∧ t.setup.modified = true
      ∧ (∀ m, (s.lens.get ax).motion = some m → Displaced ax m .retargeted s t)
      ∧ (∀ b, b ≠ ax → s.entryOf b = none →
          t.lens.get b = s.lens.get b ∧ t.setup.base.get b = s.setup.base.get b)
      ∧ s.SameOuter t ∧ t.mc = s.mc ∧ t.cc = s.cc

/-- LN_JOG (R86, R87, R88): a running jog in the same direction that is not in BRAKE takes a new deadline and nothing
else moves; where there is neither such a jog nor a pending one, a new JOG entry waits, runs, or has ended at its
dispatch because the axis stands at its soft limit (R75). The motion that a new jog displaces ends RETARGETED if it is a
jog, which then ran in the other direction, and STOPPED otherwise: through its brake where its drive is on (its leg end
point stays, log 38), at once in SETTLE and PAUSED, and one in BRAKE goes on as it was (R71, R88). Another axis without
an entry stays as it was. The time to the deadline is always sent as 250 ms (log 27), and a refresh sends the origin of
what it did not displace as hex FF (log 17). The response says what was displaced (a motion in BRAKE is not: log 16),
its marks are 1 for yes and 0 for no (log 36), and it waits to say of a dispatch before it is formed (log 4). -/
def Obligations.JogRefreshesOrStarts : Prop :=
  ∀ (s : State) (ax : Axis) (up : Bool), s.Ready → s.mc.mode = .run →
    let p : Payload := [byte (axisNumber ax), if up then 1 else 0]
    (∀ m d, (s.lens.get ax).motion = some m → m.job = .jog up d → m.phase ≠ .brake →
      exec (.lnJog p) s = .next (State.answered
        { s with
          setup := { s.setup with modified := true }
          lens := s.lens.set ax
            { s.lens.get ax with motion := some { m with job := .jog up (s.now + 250000) } } }
        .ok [0, 0, 0xFF, 0, 250, 0]))
    ∧ (∀ e d, (∀ m, (s.lens.get ax).motion = some m → m.phase = .brake ∨ ∀ d', m.job ≠ .jog up d') →
        s.entryOf ax = some e → e.job = .jog up d →
        ∃ t : State, exec (.lnJog p) s = .next (t.answered .ok [0, 0, 0xFF, 0, 250, 0])
          ∧ t = { s with setup := { s.setup with modified := true }, mq := t.mq } ∧ t.mq.budget = s.mq.budget
          ∧ t.mq.entries.map (·.axis) = s.mq.entries.map (·.axis) ∧ t.Has ax (.jog up (s.now + 250000)))
    ∧ ((∀ m, (s.lens.get ax).motion = some m → m.phase = .brake ∨ ∀ d, m.job ≠ .jog up d) →
        (∀ e, s.entryOf ax = some e → ∀ d, e.job ≠ .jog up d) →
        ∃ t : State, exec (.lnJog p) s = .next (t.answered .ok
            (1 :: displacedBytes s ax ++ [if t.entryOf ax = none then 1 else 0, 250, 0]))
          ∧ t.setup.modified = true ∧ t.mq.awaited = some ⟨ax, 3, decide (t.entryOf ax = none)⟩
          ∧ (t.Has ax (.jog up (s.now + 250000))
            ∨ atSoftLimit (s.lens.get ax).cal up (s.rawNow ax) = true ∧ t.entryOf ax = none
              ∧ (t.lens.get ax).motion = none
              ∧ (t.lens.get ax).lastEnd = some ⟨.jog, none, .jogEnd, t.position ax⟩)
          ∧ (∀ m, (s.lens.get ax).motion = some m → Displaced ax m (if isJog m then .retargeted else .stopped) s t)
          ∧ (∀ b, b ≠ ax → s.entryOf b = none →
              t.lens.get b = s.lens.get b ∧ t.setup.base.get b = s.setup.base.get b)
          ∧ s.SameOuter t ∧ t.mc = s.mc ∧ t.cc = s.cc)

/-- LN_STOP (R35, R71, R90), in every mode: afterwards no named axis has an entry, and a named axis still MOVING is in
BRAKE, with JOG_END for a jog and STOPPED otherwise where its drive was on (its leg end point stays, log 38), or as it
was where it was in BRAKE already; a stop of all four axes abandons a recall in MOVING. Where it leaves the lens at rest
in COOLDOWN with thermal done yes, the mode becomes STANDBY; otherwise mode and Cooling stay, but that what a queue of
nothing but jogs leaves there, which no COOLDOWN holds (R84, R86), is not said (R167). The response says of each named
axis what was done (log 16). -/
def Obligations.StopStopsAxes : Prop :=
  ∀ (s : State) (n : Nat), s.Ready → n ≤ 4 →
    ∃ t : State, exec (.lnStop [byte n]) s
        = .next (t.answered .ok (if n = 4 then axes.flatMap (displacedBytes s)
            else (axisOf n).elim [] (displacedBytes s)))
      ∧ (∀ ax, n = 4 ∨ axisNumber ax = n →
          t.entryOf ax = none ∧ (∀ m, (t.lens.get ax).motion = some m → m.phase = .brake)
          ∧ (∀ m, (s.lens.get ax).motion = some m → driveOn m.phase = true → (t.lens.get ax).motion = some
              { m with phase := .brake, brake := some ⟨if isJog m then .jogEnd else .stopped, s.now⟩, window := [] })
          ∧ (∀ m, (s.lens.get ax).motion = some m → m.phase = .brake → (t.lens.get ax).motion = some m)
          ∧ (∀ m, (s.lens.get ax).motion = some m → m.phase = .settle ∨ m.phase = .paused →
              (t.lens.get ax).motion = none ∧ (t.lens.get ax).lastEnd.map (·.status)
                = some (if isJog m then .jogEnd else .stopped)))
      ∧ (∀ rc, n = 4 → s.setup.recallState = .moving → s.setup.current = some rc →
          Abandoned rc s t ∧ t.flagged .recallDone)
      ∧ (let named (ax : Axis) : Prop := n = 4 ∨ axisNumber ax = n
        let cooled : Prop := s.mc.mode = .cooldown ∧ s.mc.thermalDone = true
        (cooled → (∀ ax m, (s.lens.get ax).motion = some m → named ax ∧ (m.phase = .settle ∨ m.phase = .paused)) →
            (∀ e ∈ s.mq.entries, named e.axis) → CooledDown s t)
        ∧ (¬cooled
            ∨ (∃ ax m, (s.lens.get ax).motion = some m ∧ ¬(named ax ∧ (m.phase = .settle ∨ m.phase = .paused)))
            ∨ (∃ e ∈ s.mq.entries, ¬named e.axis ∧ ∀ up d, e.job ≠ .jog up d) → t.mc = s.mc ∧ t.cc = s.cc))
      ∧ s.SameOuter t

/-- LN_LEARN (R91) on an axis in RUN that neither moves nor has an entry: a LEARN entry waits or runs, the response says
whether it had been dispatched, and waits to say so of a dispatch before it is formed (log 4, log 36); the base target
and modified stay, and an axis that moves or has an entry is IN_MOTION. LN_SET_RANGE (R60): two readings of at most 4095
and 1000 or more apart become the calibration of such an axis, which is IDLE then, and nothing else changes; every other
request is refused by R60's checks in their order. -/
def Obligations.LearnAndSetRange : Prop :=
  ∀ (s : State), s.Ready →
    (∀ ax, s.moving ax = false → s.entryOf ax = none → s.mc.mode = .run →
      ∃ t : State, exec (.lnLearn [byte (axisNumber ax)]) s
          = .next (t.answered .ok [if t.entryOf ax = none then 1 else 0])
        ∧ t.mq.awaited = some ⟨ax, 0, decide (t.entryOf ax = none)⟩
        ∧ t.Has ax .learn ∧ t.setup.modified = s.setup.modified ∧ t.setup.base.get ax = s.setup.base.get ax
        ∧ s.SameOuter t ∧ t.mc = s.mc ∧ t.cc = s.cc)
    ∧ (∀ ax, s.moving ax = true ∨ s.entryOf ax ≠ none → s.mc.mode = .run →
        exec (.lnLearn [byte (axisNumber ax)]) s = .next (s.answered .inMotion []))
    ∧ (∀ p : Payload, p.length ≠ 5 → exec (.lnSetRange p) s = .next (s.answered .badLength []))
    ∧ ∀ n neg pos : Nat, n < 256 → neg < 65536 → pos < 65536 →
        exec (.lnSetRange (byte n :: le16 neg ++ le16 pos)) s =
          match axisOf n with
          | none => .next (s.answered .badValue [])
          | some ax =>
            if 4095 < neg ∨ 4095 < pos ∨ (pos - neg : Int).natAbs < 1000 then .next (s.answered .badValue [])
            else if s.moving ax = true ∨ s.entryOf ax ≠ none then .next (s.answered .inMotion [])
            else
              let r : AxisRecord :=
                { s.lens.get ax with state := .idle, cal := some ⟨BitVec.ofNat 12 neg, BitVec.ofNat 12 pos⟩ }
              .next (State.answered { s with lens := s.lens.set ax r } .ok [])

/-- The lens requests that could move the lens, with fields in range, are refused WRONG_MODE outside RUN and change
nothing but the link (R26, R37, R85, R86, R91, R162). -/
def Obligations.LensRequestsOutsideRun : Prop :=
  ∀ (s : State) (ax : Axis) (i : Fin 24) (v : Nat) (up : Bool), s.Ready → s.mc.mode ≠ .run →
    ∀ q ∈ [Instr.lnMove (byte (axisNumber ax) :: le16 v), .lnJog [byte (axisNumber ax), if up then 1 else 0],
        .lnLearn [byte (axisNumber ax)], .plRecall [byte (i.val + 1)], .plCapture [byte (i.val + 1)]],
      exec q s = .next (s.answered .wrongMode [])

/-! ## Geometry requests -/

/-- GM_SET and GM_NUDGE (R134, R135), in every mode: each inset, or each sum of inset and delta, is clamped against the
raster; the six become the active geometry, the setup is modified, a pending geometry of a recall in MOVING is gone, and
a compute starts from the new inputs; CLAMPED exactly where a clamp changed a value. That the pending-discarded mark's
byte is 1 for yes and 0 for no is the model's choice (log 36). -/
def Obligations.GeometrySetAndNudge : Prop :=
  ∀ (s : State), s.Ready →
    let stored (z : Fin 6 → Int) : Insets :=
      ⟨clampNat (z 0) (s.ge.raster.hp / 4), clampNat (z 1) (s.ge.raster.hp / 4), clampNat (z 2) (s.ge.raster.wp / 4),
        clampNat (z 3) (s.ge.raster.wp / 4), clampNat (z 4) (s.ge.raster.wp / 4), clampNat (z 5) (s.ge.raster.wp / 4)⟩
    let after (z : Fin 6 → Int) : Host.Outcome State Fault Refusal :=
      let g := stored z
      .next (State.answered
        { s with
          ge := { s.ge with active := g, staged := .computing ⟨g, s.ge.raster, s.ge.orient⟩ }
          setup := { s.setup with
            modified := true
            pendingGeometry := if s.setup.recallState = .moving then none else s.setup.pendingGeometry } }
        (if [(g.top : Int), g.bottom, g.tl, g.tr, g.bl, g.br] = [z 0, z 1, z 2, z 3, z 4, z 5] then .ok else .clamped)
        (insetBytes g ++ [if s.setup.recallState = .moving ∧ s.setup.pendingGeometry ≠ none then 1 else 0]))
    let bytes (z : Fin 6 → Int) : Payload :=
      le16s (z 0) ++ le16s (z 1) ++ le16s (z 2) ++ le16s (z 3) ++ le16s (z 4) ++ le16s (z 5)
    let a := s.ge.active
    (∀ x : Fin 6 → Int, (∀ k, 0 ≤ x k ∧ x k < 65536) → exec (.gmSet (bytes x)) s = after x)
    ∧ (∀ y : Fin 6 → Int, (∀ k, -32768 ≤ y k ∧ y k ≤ 32767) → exec (.gmNudge (bytes y)) s
        = after (![a.top + y 0, a.bottom + y 1, a.tl + y 2, a.tr + y 3, a.bl + y 4, a.br + y 5]))
    ∧ ∀ p : Payload, p.length ≠ 12 → exec (.gmSet p) s = .next (s.answered .badLength [])
        ∧ exec (.gmNudge p) s = .next (s.answered .badLength [])

/-- GM_RASTER and GM_ORIENT (R136, R137): the clamped raster, its width a multiple of 16, with the active geometry
clamped again; the orientation, while the lens is still. Each starts a compute and leaves everything else, and a request
that fails a check changes nothing but the link. That the reduced mark's byte is 1 for yes and 0 for no is the model's
choice (log 36). -/
def Obligations.RasterAndOrient : Prop :=
  ∀ (s : State), s.Ready →
    (∀ wp hp : Nat, wp < 65536 → hp < 65536 →
      let r : Raster := ⟨max 1280 (min wp 4096) / 16 * 16, max 720 (min hp 2400)⟩
      let g := reclamp r s.ge.active
      exec (.gmRaster (le16 wp ++ le16 hp)) s = .next (State.answered
        { s with ge := { s.ge with raster := r, active := g, staged := .computing ⟨g, r, s.ge.orient⟩ } }
        (if r = ⟨wp, hp⟩ then .ok else .clamped)
        (le16 r.wp ++ le16 r.hp ++ insetBytes g ++ [if g = s.ge.active then 0 else 1])))
    ∧ (∀ o : Orientation, s.lensAtRest = true → exec (.gmOrient [byte (orientCode o)]) s = .next (State.answered
        { s with ge := { s.ge with orient := o, staged := .computing ⟨s.ge.active, s.ge.raster, o⟩ } }
        .ok [byte (orientCode s.ge.orient), byte (orientCode o)]))
    ∧ (∀ o : Orientation, s.lensAtRest = false →
        exec (.gmOrient [byte (orientCode o)]) s = .next (s.answered .inMotion []))
    ∧ (∀ n, 4 ≤ n → n < 256 → exec (.gmOrient [byte n]) s = .next (s.answered .badValue []))
    ∧ (∀ p : Payload, p.length ≠ 4 → exec (.gmRaster p) s = .next (s.answered .badLength []))
    ∧ ∀ p : Payload, p.length ≠ 1 → exec (.gmOrient p) s = .next (s.answered .badLength [])

/-! ## Cooling and focus requests -/

/-- TH_QUIET (R117, R122): the level, 4 or more stored as 3, becomes the quiet level, and modified becomes yes if it
differs; in RUN a fan outside override, compensation and failsafe comes down to its cap at once. That its target is cut
to the cap too where the duty is not above it, and whichever way the level moves, is the model's reading (log 18). -/
def Obligations.QuietLevelActs : Prop :=
  ∀ (s : State) (n : Nat), s.Ready → n < 256 →
    let level := min n 3
    exec (.thQuiet [byte n]) s = .next (State.answered
      { s with
        setup := { s.setup with quiet := level, modified := s.setup.modified || s.setup.quiet ≠ level }
        cc := if s.mc.mode = .run then
            { s.cc with fans := .make fun fan =>
                let f := s.cc.fans.get fan
                if f.override || f.compensating || f.failsafe then f
                else { f with duty := min f.duty (capOf level fan), target := min f.target (capOf level fan) } }
          else s.cc }
      (if 3 < n then .clamped else .ok)
      [byte s.setup.quiet, byte level, byte (capOf level .f0), byte (capOf level .f1), byte (capOf level .f2)])

/-- TH_CURVE, TH_MASK and TH_LIMITS (R115, R116 and R114, whole): a rising curve with its duties clamped to 100, the
mask of one class, and rising limits clamped to 0 to 1500 replace the old ones, in every mode, and nothing else changes;
a request that fails a check changes nothing but the link. -/
def Obligations.CoolingTablesStored : Prop :=
  ∀ (s : State), s.Ready →
    (∀ (n : Nat) (temp : Fin 6 → Int) (duty : Fin 6 → Nat), n < 256 → (∀ k, -32768 ≤ temp k ∧ temp k ≤ 32767) →
      (∀ k, duty k < 256) →
      let field (k : Fin 6) : List Byte := le16s (temp k) ++ [byte (duty k)]
      let point (k : Fin 6) : CurvePoint := ⟨temp k, min (duty k) 100⟩
      let curve : Curve := ⟨point 0, point 1, point 2, point 3, point 4, point 5⟩
      exec (.thCurve (byte n :: (field 0 ++ field 1 ++ field 2 ++ field 3 ++ field 4 ++ field 5))) s =
        match fanOf n with
        | none => .next (s.answered .badValue [])
        | some fan =>
          if temp 0 < temp 1 ∧ temp 1 < temp 2 ∧ temp 2 < temp 3 ∧ temp 3 < temp 4 ∧ temp 4 < temp 5 then
            .next (State.answered { s with cc := { s.cc with curves := s.cc.curves.set fan curve } }
              (if ∀ k, duty k ≤ 100 then .ok else .clamped) [])
          else .next (s.answered .badValue []))
    ∧ (∀ (n c : Nat) (m : SensorSet), n < 256 → c < 256 → exec (.thMask [byte n, byte c, m]) s =
        match fanOf n, c with
        | some fan, 0 => .next (State.answered
            { s with cc := { s.cc with masks := s.cc.masks.set fan { s.cc.masks.get fan with floor := m } } } .ok [])
        | some fan, 1 => .next (State.answered
            { s with cc := { s.cc with masks := s.cc.masks.set fan { s.cc.masks.get fan with ceiling := m } } } .ok [])
        | _, _ => .next (s.answered .badValue []))
    ∧ (∀ (n : Nat) (hold override trip : Int), n < 256 → -32768 ≤ hold → hold ≤ 32767 → -32768 ≤ override →
      override ≤ 32767 → -32768 ≤ trip → trip ≤ 32767 →
      let l : Limits := ⟨max 0 (min hold 1500), max 0 (min override 1500), max 0 (min trip 1500)⟩
      exec (.thLimits (byte n :: le16s hold ++ le16s override ++ le16s trip)) s =
        match sensorOf n with
        | none => .next (s.answered .badValue [])
        | some sn =>
          if l.hold < l.override ∧ l.override < l.trip then .next (State.answered
            { s with cc := { s.cc with limits := s.cc.limits.set sn l } }
            (if l = ⟨hold, override, trip⟩ then .ok else .clamped) (le16s l.hold ++ le16s l.override ++ le16s l.trip))
          else .next (s.answered .badValue []))
    ∧ (∀ p : Payload, p.length ≠ 19 → exec (.thCurve p) s = .next (s.answered .badLength []))
    ∧ (∀ p : Payload, p.length ≠ 3 → exec (.thMask p) s = .next (s.answered .badLength []))
    ∧ ∀ p : Payload, p.length ≠ 7 → exec (.thLimits p) s = .next (s.answered .badLength [])

/-- FC_TABLE, FC_ENABLE and FC_REFERENCE (R101, R108 and R104, whole): five coefficients clamped to -200 to 200; the
choice, which going off makes the compensation 0; and Tref from S3 with the compensation 0, or Tref absent and both
compensations 0. Each answers with the 25-byte view of the state it leaves, whose fields stand at their byte positions
in every state (R109, R188), and changes nothing else; a request that fails a check changes nothing but the link. That
the view's two one-byte marks and the choice before and after are 1 for yes and 0 for no is the model's choice (log 36).
-/
def Obligations.FocusRequests : Prop :=
  ∀ (s : State), s.Ready →
    (∀ c : Fin 5 → Int, (∀ k, -32768 ≤ c k ∧ c k ≤ 32767) →
      let k (x : Int) : Int := max (-200) (min x 200)
      let t : State := { s with fc := { s.fc with table := ⟨k (c 0), k (c 1), k (c 2), k (c 3), k (c 4)⟩ } }
      exec (.fcTable (le16s (c 0) ++ le16s (c 1) ++ le16s (c 2) ++ le16s (c 3) ++ le16s (c 4))) s
        = .next (t.answered (if ∀ i, k (c i) = c i then .ok else .clamped) (viewBytes t)))
    ∧ (∀ on : Bool,
      let t : State := { s with
        setup := { s.setup with focusOn := on, modified := s.setup.modified || s.setup.focusOn ≠ on }
        fc := { s.fc with comp := if s.setup.focusOn && !on then 0 else s.fc.comp } }
      exec (.fcEnable [if on then 1 else 0]) s
        = .next (t.answered .ok ((if s.setup.focusOn then 1 else 0) :: (if on then 1 else 0) :: viewBytes t)))
    ∧ (let t : State := { s with
        setup := { s.setup with tref := s.validTemp .s3 }
        fc := { s.fc with comp := 0, applied := if (s.validTemp .s3).isSome then s.fc.applied else 0 } }
      exec (.fcReference []) s = .next (t.answered .ok (viewBytes t)))
    ∧ (viewBytes s).length = 25 ∧ (∀ field ∈ viewFields s, FieldAt (viewBytes s) field)
    ∧ (∀ n, 2 ≤ n → n < 256 → exec (.fcEnable [byte n]) s = .next (s.answered .badValue []))
    ∧ (∀ p : Payload, p.length ≠ 10 → exec (.fcTable p) s = .next (s.answered .badLength []))
    ∧ (∀ p : Payload, p.length ≠ 1 → exec (.fcEnable p) s = .next (s.answered .badLength []))
    ∧ ∀ p : Payload, p.length ≠ 0 → exec (.fcReference p) s = .next (s.answered .badLength [])

/-! ## Modes -/

/-- MD_WAKE (R164, R123, R128, R42, R45): from STANDBY the mode becomes STARTING, with every fan at 60 and its marks and
counts cleared, the light limit 100, a new tach window, the fan check 5 s away and the scanner on its active schedules.
In any other mode it is WRONG_MODE, and with a payload BAD_LENGTH. -/
def Obligations.WakeStarts : Prop :=
  ∀ (s : State), s.Ready →
    (s.mc.mode ≠ .standby → exec (.mdWake []) s = .next (s.answered .wrongMode []))
    ∧ (∀ p : Payload, p.length ≠ 0 → exec (.mdWake p) s = .next (s.answered .badLength []))
    ∧ (s.mc.mode = .standby → ∃ t : State, exec (.mdWake []) s = .next (t.answered .ok [1])
      ∧ t.mc = { s.mc with
          mode := .starting, previous := some .standby, entered := s.now, fanCheck := some (s.now + 5000000)
          lightPermit := false, thermTrip := false }
      ∧ t.cc.light = 100 ∧ t.cc.windowStart = some s.now ∧ t.cc.nextFanUpdate = s.cc.nextFanUpdate
      ∧ (∀ fan, let f := t.cc.fans.get fan
          f.duty = 60 ∧ f.target = 60 ∧ f.faulted = false ∧ f.compensating = false ∧ f.override = false
            ∧ f.low = 0 ∧ f.good = 0 ∧ f.pulses = 0)
      ∧ t.cc.limits = s.cc.limits ∧ t.cc.curves = s.cc.curves ∧ t.cc.masks = s.cc.masks
      ∧ t.cc.seen = s.cc.seen ∧ t.cc.used = s.cc.used ∧ t.cc.sensorTrip = s.cc.sensorTrip
      ∧ t.scan = { s.scan with
          fastMode := .periodic, nextBurst := some s.now, slowInterval := .tenth, nextSlow := some (s.now + 100000) }
      ∧ t.flagged .modeChange ∧ (s.cc.light ≠ 100 → t.flagged .derate)
      ∧ s.SameOuter t ∧ t.setup = s.setup ∧ t.lens = s.lens ∧ t.mq = s.mq ∧ t.fc = s.fc ∧ t.ge = s.ge)

/-- MD_DOWN and MD_CLEAR_TRIP (R35, R84, R93, R123, R166, R169): the mode becomes COOLDOWN with both lines low, thermal
done no and the timer 240 s away; a recall in flight is abandoned; each axis with a target of the park slot that counts
as healthy after the clearing has a PARK, waiting or running, no other entry waits, and what else still runs is braking.
The fans keep their duty and are aimed as R123 says (log 19, log 39), also one that the entry itself aims at 100 because
it compensates, which slews there (log 42). MD_DOWN's response names those axes. In every other mode, and for
MD_CLEAR_TRIP with a condition still there, WRONG_MODE. The order of the neighbours within the change is log 30. -/
def Obligations.DownAndClearTripCool : Prop :=
  ∀ (s : State), s.Ready →
    let down : Prop := s.mc.mode = .run ∨ s.mc.mode = .starting
    let clear : Prop := s.mc.mode = .trip ∧ faultedFans s.cc < 2
        ∧ ∀ sn t, s.validTemp sn = some t → t < (s.cc.limits.get sn).trip - 100
    let parks (ax : Axis) : Bool := ((parkTargets s.pt).get ax).isSome && (leaveForCooldown true s).healthy ax
    (∀ q, q = .mdDown [] ∧ down ∨ q = .mdClearTrip [] ∧ clear →
      ∃ t : State, exec q s = .next (t.answered .ok (3 :: if q = .mdDown [] then [axisSet parks] else []))
        ∧ t.mc = { s.mc with
            mode := .cooldown, previous := some s.mc.mode, entered := s.now, fanCheck := none
            cooldown := some (s.now + 240000000), thermalDone := false, lightPermit := false, thermTrip := false }
        ∧ (∀ fan, (t.cc.fans.get fan).override = false ∧ 70 ≤ (t.cc.fans.get fan).target
            ∧ (t.cc.fans.get fan).compensating = (s.cc.fans.get fan).compensating ∧ AimedForCooldown fan s t)
        ∧ t.setup.current = none ∧ t.flagged .modeChange
        ∧ (∀ rc, s.setup.current = some rc → Abandoned rc s t ∧ t.flagged .recallDone)
        ∧ (∀ e ∈ t.mq.entries, ∃ target, (parkTargets s.pt).get e.axis = some target ∧ e.job = .park target)
        ∧ (∀ ax target, parks ax = true → (parkTargets s.pt).get ax = some target → t.Has ax (.park target))
        ∧ (∀ ax, parks ax = false → t.entryOf ax = none)
        ∧ (∀ ax m, (t.lens.get ax).motion = some m → m.phase = .brake
            ∨ ∃ target, (parkTargets s.pt).get ax = some target ∧ m.job = .park target)
        ∧ s.SameOuter t)
    ∧ (¬down → exec (.mdDown []) s = .next (s.answered .wrongMode []))
    ∧ (¬clear → exec (.mdClearTrip []) s = .next (s.answered .wrongMode []))

/-- MD_SOFT_RESET (R170 and each block's own soft reset rule): the mode by the table, the flags at their power-on values
with TRIP set again in TRIP, the light limit 100, no fan faulted, every motion cut but for the PARK motions of an entry
to COOLDOWN, with STOPPED or the status fixed in BRAKE as its last end; a recall in flight is abandoned, with its report
and no flag; the placements, the geometry, the tables, the samples and every calibration are kept, and of the live setup
the source slot, modified, the quiet level, the focus choice and the tag (R22), and the base targets and Tref but for
what the end of a cut jog gives them (R75, R103). -/
def Obligations.SoftResetLeaves : Prop :=
  ∀ (s : State), s.Ready →
    ∃ t : State, exec (.mdSoftReset []) s = .next (t.answered .ok [byte (modeCode t.mc.mode)])
      ∧ t.mc.mode = (match s.mc.mode with
          | .standby => .standby
          | .starting | .run => .cooldown
          | .cooldown => if s.mc.thermalDone then .standby else .cooldown
          | .trip => .trip)
      ∧ t.au = (if s.mc.mode = .trip then ⟨0x100, 0x100, 0x100, 0⟩ else ⟨0, 0x100, 0, 0⟩)
      ∧ t.cc.light = 100 ∧ faultedFans t.cc = 0
      ∧ t.cc.limits = s.cc.limits ∧ t.cc.curves = s.cc.curves ∧ t.cc.masks = s.cc.masks
      ∧ (∀ ax m, (t.lens.get ax).motion = some m → ∃ target, m.job = .park target)
      ∧ (∀ ax m, (s.lens.get ax).motion = some m →
          (t.lens.get ax).lastEnd.map (·.status) = some (m.brake.elim .stopped (·.status)))
      ∧ (∀ ax, (∀ m b, (s.lens.get ax).motion = some m → m.brake = some b → b.status ≠ .learnFail) →
          (t.lens.get ax).cal = (s.lens.get ax).cal)
      ∧ (∀ rc, s.setup.current = some rc → Abandoned rc s t)
      ∧ (s.setup.current = none → t.setup.report = s.setup.report)
      ∧ t.setup.current = none ∧ t.setup.source = s.setup.source ∧ t.setup.modified = s.setup.modified
      ∧ t.setup.tag = s.setup.tag ∧ t.setup.quiet = s.setup.quiet ∧ t.setup.focusOn = s.setup.focusOn
      ∧ (∀ ax, (∀ m up d, (s.lens.get ax).motion = some m → m.job ≠ .jog up d) →
          t.setup.base.get ax = s.setup.base.get ax)
      ∧ (∀ ax m up d c, (s.lens.get ax).motion = some m → m.job = .jog up d → (t.lens.get ax).cal = some c →
          t.setup.base.get ax = if m.brake.elim .stopped (·.status) = .retargeted then s.setup.base.get ax
            else some (normalise c (s.rawNow ax)))
      ∧ ((∀ m, s.lens.focus.motion = some m → (∀ up d, m.job ≠ .jog up d) ∧ ∀ b, m.brake = some b → b.status ≠ .arrived) →
          t.setup.tref = s.setup.tref ∧ t.fc.comp = s.fc.comp ∧ t.fc.applied = s.fc.applied ∧ t.fc.coef = s.fc.coef)
      ∧ t.pt = s.pt ∧ t.ge = s.ge ∧ t.scan.therms = s.scan.therms ∧ t.scan.pots = s.scan.pots
      ∧ t.scan.rounds = s.scan.rounds ∧ t.lp = { s.lp with cursor := 0 } ∧ t.fc.table = s.fc.table

/-! ## Alert requests -/

/-- AL_READ (R181), whole: the three fields as they stood, then every set flag read-marked; any payload is BAD_LENGTH.
-/
def Obligations.AlertReadMarks : Prop :=
  ∀ (s : State) (p : Payload), s.Ready →
    (p = [] → exec (.alRead p) s = .next (State.answered
      { s with au := { s.au with read := s.au.read ||| s.au.set } } .ok
      (le16 s.au.set.toNat ++ le16 s.au.armed.toNat ++ le16 s.au.enable.toNat)))
    ∧ (p ≠ [] → exec (.alRead p) s = .next (s.answered .badLength []))

/-- AL_ACK (R182), whole: flag by flag, a named flag that is set and read-marked is cleared and every other stays; a
mask above bit 10 is BAD_VALUE, and any other length BAD_LENGTH. -/
def Obligations.AlertAckClears : Prop :=
  ∀ (s : State), s.Ready →
    (∀ n, n < 2048 → ∃ a : Alerts,
      (∀ k, k < 11 →
        let cleared := n.testBit k && s.au.set.getLsbD k && s.au.read.getLsbD k
        a.set.getLsbD k = (s.au.set.getLsbD k && !cleared) ∧ a.armed.getLsbD k = (s.au.armed.getLsbD k && !cleared)
          ∧ a.read.getLsbD k = (s.au.read.getLsbD k && !cleared))
      ∧ a.enable = s.au.enable
      ∧ exec (.alAck (le16 n)) s = .next (State.answered { s with au := a } .ok
          (le16 (s.au.set &&& ~~~a.set).toNat ++ le16 a.set.toNat)))
    ∧ (∀ n, 2048 ≤ n → n < 65536 → exec (.alAck (le16 n)) s = .next (s.answered .badValue []))
    ∧ ∀ p : Payload, p.length ≠ 2 → exec (.alAck p) s = .next (s.answered .badLength [])

/-- AL_ENABLE (R180), whole: flag by flag, the enable follows the mask, TRIP's staying yes, and a flag whose enable goes
from yes to no is disarmed; a mask above bit 10 is BAD_VALUE, and any other length BAD_LENGTH. -/
def Obligations.AlertEnableSets : Prop :=
  ∀ (s : State), s.Ready → s.au.enable.getLsbD 8 = true →
    (∀ n, n < 2048 → ∃ a : Alerts,
      (∀ k, k < 11 →
        a.enable.getLsbD k = (n.testBit k || k == 8)
          ∧ a.armed.getLsbD k = (s.au.armed.getLsbD k && !(s.au.enable.getLsbD k && !a.enable.getLsbD k)))
      ∧ a.set = s.au.set ∧ a.read = s.au.read
      ∧ exec (.alEnable (le16 n)) s = .next (State.answered { s with au := a } .ok
          (le16 s.au.enable.toNat ++ le16 a.enable.toNat ++ le16 a.armed.toNat)))
    ∧ (∀ n, 2048 ≤ n → n < 65536 → exec (.alEnable (le16 n)) s = .next (s.answered .badValue []))
    ∧ ∀ p : Payload, p.length ≠ 2 → exec (.alEnable p) s = .next (s.answered .badLength [])

/-! ## The command link -/

/-- A complete frame (R174): in IDLE it is executed and the slot is PENDING with no overrun marker, whatever the slot
held; in EXECUTING it is lost and the pending response's marker is set, and FRAME_OVERRUN says the same of a frame
without its contents; an unknown code is answered BAD_REQUEST and changes nothing else (R175). -/
def Obligations.FramesTaken : Prop :=
  ∀ (i : Instr) (code : Byte) (p : Payload) (s : State), i.WellFormed = true → frameOf i = some (code, p) →
    s.held = false →
    (s.cl.exec = .idle → ∃ (t : State) (r : Response), exec i s = .next t ∧ t.cl.exec = .executing
        ∧ t.cl.slot = .pending r ∧ r.overrun = false)
    ∧ (s.cl.exec = .idle → unknownCode code = true → exec (.unknownRequest code p) s = .next (s.answered .badRequest []))
    ∧ ∀ r, s.cl.exec = .executing → s.cl.slot = .pending r →
        exec i s = .next { s with cl := ⟨.executing, .pending { r with overrun := true }, none⟩ }
        ∧ exec .frameOverrun s = .next { s with cl := ⟨.executing, .pending { r with overrun := true }, none⟩ }

/-- Responses and fetches (R172, R173, R175, R176): a formed response fills the slot, its dispatched mark saying yes for
an entry dispatched by then (R85, R88, R91; that this mark's byte is 1 is the model's choice, log 36); a fetch fixes its
answer by the slot and changes nothing else; the last byte of a FULL response empties the slot; a discarded frame leaves
it, and only the answer of an earlier fetch is gone (log 6). CMD_DO sends hex 00 on a first byte, on every byte of a
request frame and after an answer, and the answer from a fetch's second byte; it is at high impedance outside a
transaction. -/
def Obligations.FetchAnswersSlot : Prop :=
  ∀ (s : State), s.held = false →
    (∀ r, s.cl.exec = .executing → s.cl.slot = .pending r →
      let formed : Response := { r with payload := match s.mq.awaited with
        | none => r.payload
        | some w => if w.started then r.payload.set w.place 1 else r.payload }
      exec .responseFormed s = .next { s with
        cl := { s.cl with exec := .idle, slot := .full formed }, mq := { s.mq with awaited := none } })
    ∧ (exec .fetch s = .next { s with cl := { s.cl with fetch := some (match s.cl.slot with
        | .empty => .noResponse
        | .pending _ => .notReady
        | .full r => .response r) } })
    ∧ (∀ r, s.cl.slot = .full r → s.cl.fetch = some (.response r) →
        exec .responseFetched s = .next { s with cl := { s.cl with slot := .empty, fetch := none } })
    ∧ exec .frameDiscarded s = .next { s with cl := { s.cl with fetch := none } }
    ∧ answerBytes .noResponse = [0x7E, 0] ∧ answerBytes .notReady = [0x7F, 0]
    ∧ (∀ r : Response, answerBytes (.response r)
        = byte (statusCode r.status + if r.overrun then 128 else 0) :: byte r.payload.length :: r.payload)
    ∧ s.commandOut .released = .highImpedance ∧ s.commandOut .firstByte = .sends 0
    ∧ (∀ first n, first ≠ 0 → s.commandOut (.later first n) = .sends 0)
    ∧ ∀ a k, s.cl.fetch = some a → s.commandOut (.later 0 (k + 1)) = .sends ((answerBytes a).getD k 0)

/-! ## The lookup port and the banks -/

/-- A lookup transaction (R158, R159, R160): a fall starts it; an index of 0 to 64 latches its record whole from the
LIVE bank as it stands and any other gives VOID; a complete record advances the cursor, 64 being followed by 0, and
latches the next; a rise ends it and leaves the cursor. The position stands at the first byte of the latched record (log
7). Band records are 17 bytes and the frame record 13, with their fields at their byte positions, and a band that a
compute leaves EMPTY has 0 in every value field (R156, R157, R189). LK_DO sends hex 00 in INDEX and VOID and the latched
record's bytes in RECORD, and is at high impedance in IDLE, also after a power-on reset (R161). -/
def Obligations.LookupTransactions : Prop :=
  ∀ (s : State), s.held = false →
    (s.lp.state = .idle →
      exec .lookupTransactionStart s = .next { s with lp := { s.lp with state := .index } })
    ∧ (∀ c : Fin 65, s.lp.state = .index →
      exec (.lookupIndex (byte c)) s = .next { s with lp := ⟨.record, c, some (recordAt s.ge c), 0⟩ })
    ∧ (∀ n, 65 ≤ n → n < 256 → s.lp.state = .index →
      exec (.lookupIndex (byte n)) s = .next { s with lp := { s.lp with state := .void } })
    ∧ (s.lp.state = .record →
      let c : Fin 65 := if h : s.lp.cursor.val < 64 then ⟨s.lp.cursor.val + 1, by omega⟩ else 0
      exec .recordComplete s = .next { s with lp := ⟨.record, c, some (recordAt s.ge c), 0⟩ })
    ∧ exec .lookupTransactionEnd s = .next { s with lp := ⟨.idle, s.lp.cursor, none, 0⟩ }
    ∧ (∀ c : Fin 65, (recordAt s.ge c).length = if c.val = 64 then 13 else 17)
    ∧ (∀ (c : Fin 65) (h : c.val < 64), ∀ field ∈ bandFields s.ge.generation (s.ge.live.bands[c.val]),
        FieldAt (recordAt s.ge c) field)
    ∧ (∀ field ∈ frameFields s.ge, FieldAt (recordAt s.ge 64) field)
    ∧ (∀ i b, (bandOf i b).kind = .empty → bandOf i b = ⟨.empty, 0, 0, 0, 0, 0, 0⟩)
    ∧ (∀ k, s.lp.state = .idle → s.lookupOut k = .highImpedance)
    ∧ (∀ k, s.lp.state = .index ∨ s.lp.state = .void → s.lookupOut k = .sends 0)
    ∧ (∀ (c : Fin 65) k, s.lp = ⟨.record, c, some (recordAt s.ge c), 0⟩ →
        s.lookupOut k = .sends ((recordAt s.ge c).getD k 0))
    ∧ ∀ t k, exec .powerOnReset s = .next t → t.lookupOut k = .highImpedance

/-- The band table's events (R151, R152, R153, R154): a compute's end makes its table READY, and LIVE at once while
timing is ABSENT; FRAME_START makes timing PRESENT for 100 ms and swaps a READY table; the timer's end makes timing
ABSENT, sets TIMING_LOST and swaps a READY table. -/
def Obligations.BandTableEvents : Prop :=
  ∀ (s : State), s.held = false →
    (∀ i, s.ge.staged = .computing i →
      (s.ge.timing ≠ .absent → exec .computeComplete s
        = .next { s with ge := { s.ge with staged := .ready (computeTable i) } })
      ∧ (s.ge.timing = .absent → ∃ t : State, exec .computeComplete s = .next t ∧ Swapped (computeTable i) s t
          ∧ t.ge.timing = .absent))
    ∧ ((∀ tb, s.ge.staged ≠ .ready tb) → exec .frameStart s
        = .next { s with ge := { s.ge with timing := .present (s.now + 100000) } })
    ∧ (∀ tb, s.ge.staged = .ready tb → ∃ t : State, exec .frameStart s = .next t ∧ Swapped tb s t
        ∧ t.ge.timing = .present (s.now + 100000))
    ∧ ∀ e, s.ge.timing = .present e → e ≤ s.now →
        ∃ t : State, exec .timingTimerExpiry s = .next t ∧ t.ge.timing = .absent ∧ t.flagged .timingLost
          ∧ (∀ tb, s.ge.staged = .ready tb → Swapped tb s t)
          ∧ ((∀ tb, s.ge.staged ≠ .ready tb) → t = { s with ge := { s.ge with timing := .absent }, au := t.au })

/-! ## The scanner -/

/-- The scanner's schedules (R41, R42, R43, R45): a slow conversion that falls due starts on the slow cursor's sensor if
the converter is free outside TRIGGERED mode, and is held otherwise; a burst starts at the fast cursor; a trigger that
finds the converter free converts one channel. Only the scan state changes. That a cursor advances at its conversion's
start, and that a trigger is taken 200 us or more after the last, also where the part was in STANDBY in between, is the
model's choice (log 25). -/
def Obligations.ScannerSchedules : Prop :=
  ∀ (s : State), s.held = false →
    (∀ d, s.scan.nextSlow = some d → d ≤ s.now →
      ∃ t : State, exec .slowConversionDue s = .next t ∧ t = { s with scan := t.scan }
        ∧ t.scan.nextSlow = some (d + match s.scan.slowInterval with | .tenth => 100000 | .one => 1000000)
        ∧ (s.scan.converting = none → s.scan.burstLeft = 0 → s.scan.fastMode ≠ .triggered →
            t.scan.converting = some ⟨.slow s.scan.slowCursor, s.now⟩
              ∧ t.scan.slowCursor = nextSensor s.scan.slowCursor ∧ t.scan.slowHeld = false)
        ∧ (s.scan.converting ≠ none ∨ s.scan.burstLeft = 0 ∧ s.scan.burstWaiting = false ∧ s.scan.fastMode = .triggered →
            t.scan.converting = s.scan.converting ∧ t.scan.slowCursor = s.scan.slowCursor ∧ t.scan.slowHeld = true))
    ∧ (∀ d, s.scan.fastMode = .periodic → s.scan.nextBurst = some d → d ≤ s.now →
      ∃ t : State, exec .fastBurstDue s = .next t ∧ t = { s with scan := t.scan } ∧ t.scan.nextBurst = some (d + 20000)
        ∧ (s.scan.converting = none → s.scan.burstLeft = 0 → s.scan.slowHeld = false →
            t.scan.converting = some ⟨.fast s.scan.fastCursor, s.now⟩ ∧ t.scan.burstLeft = 4
              ∧ t.scan.fastCursor = nextFast s.scan.fastCursor)
        ∧ (s.scan.converting ≠ none → t.scan.converting = s.scan.converting ∧ t.scan.burstWaiting = true))
    ∧ (s.scan.fastMode = .triggered → (∀ x, s.scan.lastTrigger = some x → x + 200 ≤ s.now) →
      exec .fastTrigger s = .next { s with scan :=
        if s.scan.converting = none then
          { s.scan with
            lastTrigger := some s.now, converting := some ⟨.fast s.scan.fastCursor, s.now⟩
            fastCursor := nextFast s.scan.fastCursor }
        else { s.scan with lastTrigger := some s.now } })

/-- A thermistor conversion ends (R46, R47, R48, R50, R51, R52): the sample is applied to its sensor's entry alone. A
good one joins the ring, and the fourth makes the sensor VALID; a bad one is held back once, and faults the sensor the
second time; after S7 the round count advances. After any other sensor the converter takes what waits (R41; log 25). -/
def Obligations.SlowConversionEnds : Prop :=
  ∀ (s : State) (sn : Sensor) (start : Time) (raw : Raw), s.held = false → s.scan.converting = some ⟨.slow sn, start⟩ →
    start + 10 ≤ s.now → (s.scan.therms.get sn).ring.length ≤ 4 →
    ∃ t : State, exec (.slowConversionEnd raw) s = .next t
      ∧ (∀ other, other ≠ sn → t.scan.therms.get other = s.scan.therms.get other)
      ∧ (let old := s.scan.therms.get sn
         let new := t.scan.therms.get sn
         let good := 41 ≤ raw.toNat ∧ raw.toNat ≤ 4054
         new.raw = some raw
         ∧ (good → new.ring = (old.ring ++ [raw]).drop (old.ring.length + 1 - 4) ∧ new.count = min (old.count + 1) 255
              ∧ new.bad = false
              ∧ (3 ≤ old.ring.length → new.state = .valid
                  ∧ new.filtered = some (temperatureOf ((new.ring.map (·.toNat)).sum / 4)))
              ∧ (old.ring.length < 3 → new.state = old.state ∧ new.filtered = old.filtered))
         ∧ (¬good → old.state ≠ .faulted → old.bad = false → new = { old with raw := some raw, bad := true })
         ∧ (¬good → old.state = .faulted ∨ old.bad = true → new = ⟨.faulted, [], false, none, some raw, 0⟩)
         ∧ (¬good → old.state ≠ .faulted → old.bad = true → t.flagged .sensorFault))
      ∧ t.scan.rounds = s.scan.rounds + (if sn = .s7 then 1 else 0)
      ∧ t.scan.pots = s.scan.pots ∧ t.scan.supply = s.scan.supply ∧ s.SameOuter t
      ∧ (sn ≠ .s7 → t = { s with scan := t.scan, au := t.au }
          ∧ Granted s.now false { s.scan with therms := t.scan.therms, converting := none } t.scan)

/-- A fast conversion ends (R41, R44, R47, R63 to R66, R68 to R70, R75 to R77): the reading is stored in its channel's
entry alone, and the converter, where no motion ends, takes what waits (log 25). On an axis at rest nothing else
follows; a moving axis takes the sample as its phase says, and goes on, or ends as the rules of the motion's end say
(which comes first where one sample shows a stall and a drive-off is free, log 13; the older sample that a stall is
judged against is log 22; what stands between two legs is log 24; a jog's end after an LN_MOVE in its brake is log 34;
what is sent of a leg end point in SETTLE and BRAKE is log 17 and log 38; that a sample leaves alone a jog that is
PAUSED at its soft limit is log 41). In BRAKE and PAUSED no position sample changes a motion. A supply below 10 800 mV
pauses every motion that is not in BRAKE or PAUSED, and a sample at a paused motion starts its resume timer at 11 200 mV
and empties it below. -/
def Obligations.FastConversionEnds : Prop :=
  (∀ (s : State) (ch : FastChannel) (start : Time) (raw : Raw), s.held = false →
    s.scan.converting = some ⟨.fast ch, start⟩ → start + 10 ≤ s.now →
    ∃ t : State, exec (.fastConversionEnd raw) s = .next t ∧ s.SameOuter t
      ∧ t.scan.therms = s.scan.therms ∧ t.scan.rounds = s.scan.rounds
      ∧ (∀ ax, ch = .pot ax →
          t.scan.pots = s.scan.pots.set ax ⟨some raw, min ((s.scan.pots.get ax).count + 1) 255⟩
          ∧ t.scan.supply = s.scan.supply
          ∧ (s.moving ax = false → t = { s with scan := t.scan }
              ∧ Granted s.now true { s.scan with pots := t.scan.pots, converting := none } t.scan)
          ∧ (∀ m target st c, (s.lens.get ax).motion = some m → (s.lens.get ax).cal = some c →
              jobTarget m.job = some target → m.phase = .settle → m.settle = some st → st.waiting = false →
              st.count = 4 → distance (normalise c raw) target ≤ 3 → Ended ax m .arrived s t)
          ∧ (∀ m, (s.lens.get ax).motion = some m →
              let r := sampleMotion (s.lens.get ax).cal s.now raw (Config.stallFirst (axisNumber ax) s.now) m
              let cal := r.learned.or (s.lens.get ax).cal
              (∀ m', r.fate = .goes m' → t = { s with
                scan := t.scan, lens := s.lens.set ax { s.lens.get ax with motion := some m', cal := cal } }
                ∧ Granted s.now true { s.scan with pots := t.scan.pots, converting := none } t.scan)
              ∧ (∀ status, r.fate = .ends status →
                  Ended ax m status { s with lens := s.lens.set ax { s.lens.get ax with cal := cal } } t)))
      ∧ (ch = .supply →
          t.scan.supply = ⟨some raw, min (s.scan.supply.count + 1) 255⟩ ∧ t.scan.pots = s.scan.pots
          ∧ Granted s.now true { s.scan with supply := t.scan.supply, converting := none } t.scan
          ∧ (∀ ax, (s.lens.get ax).motion = none → t.lens.get ax = s.lens.get ax)
          ∧ (∀ ax m, (s.lens.get ax).motion = some m → m.phase ≠ .brake → m.phase ≠ .paused →
              supplyMillivolts raw < 10800 →
              (t.lens.get ax).motion
                = some { m with phase := .paused, pause := some ⟨m.phase, s.now, none⟩, window := [] })
          ∧ (∀ ax m, (s.lens.get ax).motion = some m → m.phase = .brake ∨ 10800 ≤ supplyMillivolts raw ∧ m.phase ≠ .paused →
              t.lens.get ax = s.lens.get ax)
          ∧ (∀ ax m x, (s.lens.get ax).motion = some m → m.phase = .paused → m.pause = some x →
              (t.lens.get ax).motion = some { m with pause := some { x with
                resume := if 11200 ≤ supplyMillivolts raw then some (x.resume.getD s.now) else none } })
          ∧ t.mq = s.mq ∧ t.mc = s.mc ∧ t.cc = s.cc ∧ t.setup = s.setup))
  ∧ SettleSamples ∧ LegSamples ∧ JogSamples ∧ LearnSamples
  ∧ ∀ (cal : Option Calibration) (now : Time) (raw : Raw) (first : Bool) (m : Motion),
      m.phase = .paused ∨ m.phase = .brake → sampleMotion cal now raw first m = ⟨.goes m, none⟩

/-! ## The timers of the lens -/

/-- The timers that end a motion at once (R67, R70, R71, R78): the brake's 50 ms with the fixed status, 15 s without an
end TIMEOUT, a pause of 2 s SUPPLY_LOW, a learn leg of 20 s LEARN_FAIL, which is not timed between two legs (log 24); a
jog's end after an LN_MOVE in its brake sets the base target too (log 34). With no entry waiting the fast list follows
the end (R41, R42): after the last MOVING axis it is PERIODIC with its first burst 20 ms later. In COOLDOWN with thermal
done yes, the end that brings the lens to rest makes the mode STANDBY (R167). -/
def Obligations.TimersThatEndMotions : Prop :=
  ∀ (s : State) (ax : Axis) (m : Motion), s.held = false → (s.lens.get ax).motion = some m →
    (∀ b, m.phase = .brake → m.brake = some b → b.start + 50000 ≤ s.now →
      ∃ t : State, exec (.brakeEnd ax) s = .next t ∧ Ended ax m b.status s t)
    ∧ (jobTarget m.job ≠ none → m.phase ≠ .brake → m.dispatched + 15000000 ≤ s.now →
      ∃ t : State, exec (.moveTimeout ax) s = .next t ∧ Ended ax m .timeout s t)
    ∧ (∀ x, m.phase = .paused → m.pause = some x → x.start + 2000000 ≤ s.now →
      ∃ t : State, exec (.pauseExpiry ax) s = .next t ∧ Ended ax m .supplyLow s t)
    ∧ (m.job = .learn → m.phase ≠ .brake → m.between = false → m.legStart + 20000000 ≤ s.now →
      ∃ t : State, exec (.learnLegTimeout ax) s = .next t ∧ Ended ax m .learnFail s t)

/-- The timers after which a motion goes on (R64, R65, R70, R74, R75): the settle begins to judge; a jog passes to its
next stage; a jog's deadline sends it into its brake; and after the resume timer's 100 ms a paused motion resumes: a leg
toward the same end point with its duty class chosen afresh, or settling where it is already done (log 23); a settle
afresh; a jog at the stage of its time since dispatch; a learn leg driving again. Where a leg end point stays and where
it is cleared is log 17 and log 38. A jog is in JOG_SLOW from 600 ms and in JOG_FULL from 1800 ms, the boundaries put
into the later stage (log 26). -/
def Obligations.TimersThatMotionsOutlive : Prop :=
  ∀ (s : State) (ax : Axis) (m : Motion), s.held = false → (s.lens.get ax).motion = some m →
    let after (m' : Motion) : State := { s with lens := s.lens.set ax { s.lens.get ax with motion := some m' } }
    (∀ st, m.phase = .settle → m.settle = some st → st.waiting = true → st.start + 30000 ≤ s.now →
      exec (.settleWaitExpiry ax) s = .next (after { m with settle := some { st with waiting := false } }))
    ∧ (∀ up d, m.job = .jog up d → m.phase = .jogCreep → m.dispatched + 600000 ≤ s.now →
        s.now < m.dispatched + 1800000 →
        exec (.jogStageChange ax) s = .next (after { m with phase := .jogSlow, duty := .slow }))
    ∧ (∀ up d, m.job = .jog up d → m.phase = .jogSlow → m.dispatched + 1800000 ≤ s.now →
        exec (.jogStageChange ax) s = .next (after { m with phase := .jogFull, duty := .full }))
    ∧ (∀ up d, m.job = .jog up d → driveOn m.phase = true → d ≤ s.now →
        exec (.jogDeadline ax) s
          = .next (after { m with phase := .brake, brake := some ⟨.jogEnd, s.now⟩, window := [] }))
    ∧ (∀ up d, m.job = .jog up d → m.phase = .paused → d ≤ s.now →
        ∃ t : State, exec (.jogDeadline ax) s = .next t ∧ Ended ax m .jogEnd s t)
    ∧ (∀ x r, m.phase = .paused → m.pause = some x → x.resume = some r → r + 100000 ≤ s.now →
        x.phase = .learnNeg ∨ x.phase = .learnPos →
        exec (.resumeTimerExpiry ax) s
          = .next (after { m with phase := x.phase, pause := none, driveStart := s.now, window := [] }))
    ∧ (∀ x r, m.phase = .paused → m.pause = some x → x.resume = some r → r + 100000 ≤ s.now → x.phase = .settle →
        exec (.resumeTimerExpiry ax) s
          = .next (after { m with
              phase := .settle, pause := none, driveStart := s.now, window := [], legEnd := none, sense := .off
              between := false, settle := some ⟨s.now, true, 0⟩ }))
    ∧ (∀ x r up d, m.phase = .paused → m.pause = some x → x.resume = some r → r + 100000 ≤ s.now →
        x.phase ∈ [.jogCreep, .jogSlow, .jogFull] → m.job = .jog up d →
        let since := s.now - m.dispatched
        exec (.resumeTimerExpiry ax) s = .next (after { m with
          phase := if since < 600000 then .jogCreep else if since < 1800000 then .jogSlow else .jogFull
          duty := if since < 600000 then .creep else if since < 1800000 then .slow else .full
          pause := none, driveStart := s.now, window := [] }))
    ∧ (∀ x r c point, m.phase = .paused → m.pause = some x → x.resume = some r → r + 100000 ≤ s.now →
        x.phase ∈ [.drive, .slow, .creep, .overshoot, .correct, .learnReturn] → (s.lens.get ax).cal = some c →
        m.legEnd = some point →
        let pos := normalise c (s.rawNow ax)
        let driving : Motion := { m with pause := none, driveStart := s.now, window := [] }
        let done : Prop := distance pos point ≤ 3 ∨ m.sense = .positive ∧ point ≤ pos ∨ m.sense = .negative ∧ pos ≤ point
        (¬done → exec (.resumeTimerExpiry ax) s = .next (after { driving with
          phase := if x.phase ∈ [.overshoot, .correct, .learnReturn] then x.phase else legPhaseAt (distance pos point)
          duty := if x.phase = .correct then .creep else classAt (distance pos point)
          between := false }))
        ∧ (done → x.phase ∈ [.drive, .slow, .creep, .correct] →
            exec (.resumeTimerExpiry ax) s = .next (after (settling s.now driving))))

/-- PENDING_JOG_EXPIRY and dispatch (R89, R97, R98): the entry leaves the queue, and the response that waited for it
with it (log 4), and dispatch runs on what is left; a deadline has passed when the clock has reached it (log 26).
Dispatch takes the entries oldest first: a head whose axis is MOVING, whose units do not fit, or in STANDBY stops it,
and otherwise the head leaves the list, its axis is MOVING with the first phase of its motion, or at rest again for a
jog at its soft limit, and the next entry is judged in the same way. -/
def Obligations.PendingJogLeaves : Prop :=
  (∀ (s : State) (ax : Axis) (e : Entry) (up : Bool) (d : Time), s.held = false → s.entryOf ax = some e →
    e.job = .jog up d → d ≤ s.now →
    let left : State := { s with mq := { s.mq with
      entries := s.mq.entries.filter fun x => x.axis ≠ ax
      awaited := s.mq.awaited.bind fun w => if w.axis = ax ∧ w.started = false then none else some w } }
    exec (.pendingJogExpiry ax) s = .next (dispatch left)
      ∧ (dispatch left).lens.get ax = s.lens.get ax
      ∧ s.SameOuter (dispatch left) ∧ (dispatch left).mc = s.mc ∧ (dispatch left).cc = s.cc
      ∧ (s.mq.entries = [e] → dispatch left = left))
  ∧ (∀ s : State, s.mq.entries = [] → dispatch s = s)
  ∧ (∀ (s : State) (e : Entry) (rest : List Entry), s.mq.entries = e :: rest →
      let taken : State := { s with mq := { s.mq with
        entries := rest
        awaited := s.mq.awaited.map fun w => if w.axis = e.axis then { w with started := true } else w } }
      (s.mc.mode = .standby ∨ s.moving e.axis = true ∨ s.mq.budget < s.unitsHeld + driveUnits e.axis → dispatch s = s)
      ∧ (s.mc.mode ≠ .standby → s.moving e.axis = false → s.unitsHeld + driveUnits e.axis ≤ s.mq.budget →
          dispatch s = dispatch (startEntry e taken)))
  ∧ (∀ (s : State) (e : Entry), s.moving e.axis = false →
      let u := startEntry e s
      let old := s.lens.get e.axis
      let fate := dispatchMotion e.axis s.ge.orient old.cal s.now (s.rawNow e.axis) s.supplyIsLow old.state e.job
      u.mq = s.mq ∧ (∀ b, b ≠ e.axis → u.lens.get b = s.lens.get b)
      ∧ (∀ m, fate = .goes m → u.lens.get e.axis = { old with state := .moving, motion := some m }
          ∧ (s.scan.fastMode = .periodic → u.scan.fastMode = .triggered)
          ∧ ∀ rc g, s.setup.current = some rc → jobTag e.job = some g → rc.tag = g → rc.progress.get e.axis = .waiting →
              u.setup.current = some { rc with progress := rc.progress.set e.axis .running })
      ∧ (fate = .ends .jogEnd → (u.lens.get e.axis).motion = none ∧ (u.lens.get e.axis).state = old.state
          ∧ (u.lens.get e.axis).lastEnd = some ⟨originOf e.job, jobTag e.job, .jogEnd, s.position e.axis⟩
          ∧ u.flagged .motionEnd))
  ∧ DispatchSteps

/-! ## Fans, windows and the timers of the modes -/

/-- FAN_UPDATE and TACH_PULSE (R119, R124): every commanded duty moves one point toward its target, and the next update
is 500 ms after this one; a pulse advances its fan's count, which stops at 255. -/
def Obligations.FanUpdateAndPulses : Prop :=
  ∀ (s : State), s.held = false →
    (∀ d, s.cc.nextFanUpdate = some d → d ≤ s.now →
      exec .fanUpdate s = .next { s with cc := { s.cc with
        nextFanUpdate := some (d + 500000)
        fans := .make fun fan =>
          let f := s.cc.fans.get fan
          let duty := if f.duty < f.target then f.duty + 1 else if f.target < f.duty then f.duty - 1 else f.duty
          { f with duty := duty, dipped := f.dipped || (f.duty ≠ f.target && duty < 30) } } })
    ∧ ∀ fan, exec (.tachPulse fan) s = .next { s with cc := { s.cc with
        fans := s.cc.fans.set fan
          { s.cc.fans.get fan with pulses := min ((s.cc.fans.get fan).pulses + 1) 255 } } }

/-- TACH_WINDOW_CLOSE, FAN_CHECK_EXPIRY and COOLDOWN_TIMER_EXPIRY (R124 to R128, R165, R167): RPM recorded and the
windows judged, with the low and good window counts, in STARTING but for the window that the fan check's expiry closes;
in STANDBY and STARTING the RPM is recorded and nothing judged, and that a duty below 30 sets both counts to 0 there is
the model's reading (log 29); in RUN, COOLDOWN and TRIP what a fan fault does to the other fans and the light, what the
recovery of the last faulted fan undoes and what one beside another faulted fan brings (log 18, log 19, log 20 and log
39 for the targets); the fan trip of a second faulted fan (R130, R168), whose record holds no sensor (log 40), and that
in TRIP and after any other close the mode, the lens and the setup stay; the fan check's result; the end of a cooldown
by its timer. -/
def Obligations.WindowsAndModeTimers : Prop :=
  ∀ (s : State), s.held = false →
    (∀ w, s.cc.windowStart = some w → w + 1000000 ≤ s.now → (∀ e, s.mc.fanCheck = some e → w + 1000000 < e) →
      ∃ t : State, exec .tachWindowClose s = .next t ∧ s.SameOuter t ∧ t.cc.windowStart = some (w + 1000000)
        ∧ (∀ fan, let f := s.cc.fans.get fan
            let g := t.cc.fans.get fan
            g.rpm = some (f.pulses * 30) ∧ g.pulses = 0
            ∧ (s.mc.mode = .run ∨ s.mc.mode = .cooldown ∨ s.mc.mode = .trip →
                (f.faulted = false →
                  (g.faulted = true ↔ f.dipped = false ∧ f.pulses * 30 < 300 ∧ f.low = 2)
                  ∧ (g.faulted = true → t.flagged .fanFault)
                  ∧ (g.faulted = false → g.low = if f.dipped = false ∧ f.pulses * 30 < 300 then f.low + 1 else 0))
                ∧ (f.faulted = true →
                  (g.faulted = false ↔ f.dipped = false ∧ 600 ≤ f.pulses * 30 ∧ f.good = 2)
                  ∧ (g.faulted = true → g.good = if f.dipped = false ∧ 600 ≤ f.pulses * 30 then f.good + 1 else 0))
                ∧ (g.faulted = true → g.low = 0) ∧ (g.faulted = false → g.good = 0)
                ∧ (g.faulted ≠ f.faulted → g.low = 0 ∧ g.good = 0)))
        ∧ (s.mc.mode = .standby ∨ s.mc.mode = .starting → t = { s with cc := { s.cc with
            windowStart := some (w + 1000000)
            fans := .make fun fan =>
              let f := s.cc.fans.get fan
              { f with
                rpm := some (f.pulses * 30), pulses := 0, dipped := decide (f.duty < 30)
                low := if f.dipped then 0 else f.low, good := if f.dipped then 0 else f.good } } })
        ∧ (∀ bad, s.mc.mode = .run ∨ s.mc.mode = .cooldown ∨ s.mc.mode = .trip →
            (s.cc.fans.get bad).faulted = false → (t.cc.fans.get bad).faulted = true → FaultSpreads bad s t
            ∧ (2 ≤ faultedFans t.cc → s.mc.mode ≠ .trip → Tripped ⟨.fan, 0, faultedFans t.cc, s.mc.mode⟩ s t))
        ∧ ((∀ fan, (s.cc.fans.get fan).faulted = false → (t.cc.fans.get fan).faulted = false) ∨ faultedFans t.cc < 2
            ∨ s.mc.mode = .trip →
            t.mc = s.mc ∧ t.lens = s.lens ∧ t.mq = s.mq ∧ t.setup = s.setup ∧ t.scan = s.scan)
        ∧ (∀ good, (s.cc.fans.get good).faulted = true → (∀ fan, (t.cc.fans.get fan).faulted = false) →
            RecoverySpreads s t)
        ∧ (∀ good other, (s.cc.fans.get good).faulted = true → (t.cc.fans.get good).faulted = false →
            (t.cc.fans.get other).faulted = true →
            (t.cc.fans.get good).compensating = true
            ∧ (t.mc.mode ≠ .run ∨ (s.cc.fans.get good).failsafe = false → (t.cc.fans.get good).target = 100)
            ∧ (t.mc.mode = .run → (s.cc.fans.get good).failsafe = true →
                (t.cc.fans.get good).target = (s.cc.fans.get good).target)))
    ∧ (∀ e, s.mc.mode = .starting → s.mc.fanCheck = some e → e ≤ s.now →
      let failing := (s.cc.fans.toList.filter fun f => f.pulses * 30 < 600).length
      ∃ t : State, exec .fanCheckExpiry s = .next t ∧ s.SameOuter t ∧ t.mc.fanCheck = none
        ∧ (∀ fan, (t.cc.fans.get fan).faulted = decide ((s.cc.fans.get fan).pulses * 30 < 600)
            ∧ (t.cc.fans.get fan).rpm = some ((s.cc.fans.get fan).pulses * 30))
        ∧ (failing ≤ 1 → t.mc.mode = .run ∧ t.mc.lightPermit = true ∧ t.mc.thermTrip = false)
        ∧ (failing = 1 → t.cc.light ≤ 60
            ∧ ∀ fan, (t.cc.fans.get fan).faulted = false → (t.cc.fans.get fan).duty = 100)
        ∧ (2 ≤ failing → Tripped ⟨.fan, 0, failing, .starting⟩ s t)
        ∧ (1 ≤ failing → t.flagged .fanFault))
    ∧ ∀ e, s.mc.mode = .cooldown → s.mc.cooldown = some e → e ≤ s.now →
      ∃ t : State, exec .cooldownTimerExpiry s = .next t ∧ s.SameOuter t ∧ t.mc.thermalDone = true
        ∧ (s.lensAtRest = true → CooledDown s t)
        ∧ (s.lensAtRest = false → t = { s with mc := { s.mc with cooldown := none, thermalDone := true } })

/-! ## The thermal evaluation, and what every request owes -/

/-- A thermal evaluation, in whatever order its receivers take it (log 10), in every mode: the budget from S7 and its
hold and override limits (R96), the sensor trip mark (R130), and what it went by (log 19, log 39). In STANDBY and TRIP,
and in STARTING where no valid sensor is at its trip limit, mode, fans and light limit stay (R123, R129). Where none is:
the Focus Compensator's coefficient, compensation and trim with no entry of FOCUS waiting (R102, R105, R106); in RUN
every fan's override, demand, target and duty, and the light limit (R120, R121, R122, R129); and in COOLDOWN every fan's
governing temperature, failsafe, demand and target, thermal done where S0 is valid below 450 and S1 valid below 500, and
with that STANDBY if the lens is at rest (R118, R123, R167; what a queue of nothing but jogs leaves, which no COOLDOWN
holds, is not said). -/
def Obligations.EvaluationSetsBudget : Prop :=
  ∀ (s : State) (start : Time) (raw : Raw), s.held = false → s.scan.converting = some ⟨.slow .s7, start⟩ →
    start + 10 ≤ s.now →
    ∃ t : State, exec (.slowConversionEnd raw) s = .next t
      ∧ t.mq.budget = (match t.validTemp .s7 with
          | none => 4
          | some x =>
            if x < (s.cc.limits.get .s7).hold then 4 else if x < (s.cc.limits.get .s7).override then 3 else 0)
      ∧ (let trips : Prop := ∃ sn x, t.validTemp sn = some x ∧ (s.cc.limits.get sn).trip ≤ x
        let cools : Prop := ∃ y z, t.validTemp .s0 = some y ∧ y < 450 ∧ t.validTemp .s1 = some z ∧ z < 500
        let found : Cooling := { s.cc with
          seen := .make t.validTemp, used := .make fun fan => ⟨maskInForce s fan, s.cc.curves.get fan⟩
          sensorTrip := t.cc.sensorTrip }
        (t.cc.sensorTrip = true ↔ trips) ∧ t.cc = { found with fans := t.cc.fans, light := t.cc.light }
        ∧ (s.mc.mode = .standby ∨ s.mc.mode = .trip ∨ s.mc.mode = .starting ∧ ¬trips → t.mc = s.mc ∧ t.cc = found)
        ∧ (¬trips →
          (s.entryOf .focus = none → FocusEvaluated s t)
          ∧ (s.mc.mode = .run → t.mc = s.mc ∧ (∀ fan, FanEvaluated fan s t) ∧ LightEvaluated s t)
          ∧ (s.mc.mode = .cooldown →
              (cools → s.lensAtRest = true → CooledDown s t)
              ∧ (¬cools ∨ (∃ ax, s.moving ax = true) ∨ (∃ e ∈ s.mq.entries, ∀ up d, e.job ≠ .jog up d) →
                  (cools → t.mc = { s.mc with thermalDone := true }) ∧ (¬cools → t.mc = s.mc)
                  ∧ t.cc.light = s.cc.light ∧ ∀ fan, FanEvaluatedInCooldown fan s t))))

/-- A thermal trip (R35, R72, R84, R130, R168): at an evaluation in STARTING, RUN or COOLDOWN that finds a valid sensor
at or above its trip limit, S7 itself among them, the mode becomes TRIP with THERM_TRIP high and LIGHT_PERMIT low, every
fan at 100, no motion and no entry left, a recall in flight abandoned, TRIP and MODE_CHANGE set, and the trip record
written, in whatever order its receivers take it (log 10). In COOLDOWN this supposes that the same evaluation does not
meet the criterion that ends it; where it does, the mode becomes TRIP or STANDBY, since either may come first (R167). -/
def Obligations.TripFromTemperature : Prop :=
  ∀ (s : State) (start : Time) (raw : Raw), s.held = false → s.scan.converting = some ⟨.slow .s7, start⟩ →
    start + 10 ≤ s.now →
    ∃ t : State, exec (.slowConversionEnd raw) s = .next t
      ∧ ∀ (sn : Sensor) (x : Int), t.validTemp sn = some x → (s.cc.limits.get sn).trip ≤ x →
        let cools : Prop := ∃ y z, t.validTemp .s0 = some y ∧ y < 450 ∧ t.validTemp .s1 = some z ∧ z < 500
        t.cc.sensorTrip = true
        ∧ (s.mc.mode = .run ∨ s.mc.mode = .starting ∨ (s.mc.mode = .cooldown ∧ ¬cools) →
          ∃ r : TripRecord, r.cause = .sensor ∧ r.enteredFrom = s.mc.mode ∧ r.faultedFans = faultedFans s.cc
            ∧ (∀ sn, inSet r.sensors sn = true ↔ ∃ y, t.validTemp sn = some y ∧ (s.cc.limits.get sn).trip ≤ y)
            ∧ Tripped r s t)
        ∧ (s.mc.mode = .cooldown → cools → t.lensAtRest = true
            ∧ (t.mc.mode = .trip ∧ t.mc.thermTrip = true ∧ t.flagged .trip
              ∨ t.mc.mode = .standby ∧ t.mc.thermTrip = false) ∧ t.flagged .modeChange)

/-- Refusals (R177): a well-formed request taken in IDLE leaves a pending response, and unless its status is OK or
CLAMPED the response has no payload and nothing but the link has changed. -/
def Obligations.RefusalsChangeNothing : Prop :=
  ∀ (i : Instr) (code : Byte) (p : Payload) (s : State), i.WellFormed = true → frameOf i = some (code, p) → s.Ready →
    ∃ (t : State) (r : Response), exec i s = .next t ∧ t.cl = ⟨.executing, .pending r, none⟩ ∧ r.overrun = false
      ∧ (r.status ≠ .ok → r.status ≠ .clamped → t = s.answered r.status [])
end

