-- ==== Sys2Proof/Laws/State.lean ====
section
/-! SUPPORT. What each update of one block does to every field of the state: one simp lemma per update, a conjunction of one
equation per field. -/

namespace Sys2Proof.Machine

variable (s : State)

@[simp] theorem State.mapPt_fields (f : PlacementTable → PlacementTable) :
    (s.mapPt f).pending = s.pending ∧ (s.mapPt f).now = s.now ∧ (s.mapPt f).held = s.held ∧
    (s.mapPt f).pt = f s.pt ∧ (s.mapPt f).setup = s.setup ∧ (s.mapPt f).scan = s.scan ∧
    (s.mapPt f).lens = s.lens ∧ (s.mapPt f).mq = s.mq ∧ (s.mapPt f).fc = s.fc ∧ (s.mapPt f).cc = s.cc ∧
    (s.mapPt f).ge = s.ge ∧ (s.mapPt f).lp = s.lp ∧ (s.mapPt f).mc = s.mc ∧ (s.mapPt f).cl = s.cl ∧
    (s.mapPt f).au = s.au :=
  ⟨rfl, rfl, rfl, rfl, rfl, rfl, rfl, rfl, rfl, rfl, rfl, rfl, rfl, rfl, rfl⟩

@[simp] theorem State.mapSetup_fields (f : ActiveSetup → ActiveSetup) :
    (s.mapSetup f).pending = s.pending ∧ (s.mapSetup f).now = s.now ∧ (s.mapSetup f).held = s.held ∧
    (s.mapSetup f).pt = s.pt ∧ (s.mapSetup f).setup = f s.setup ∧ (s.mapSetup f).scan = s.scan ∧
    (s.mapSetup f).lens = s.lens ∧ (s.mapSetup f).mq = s.mq ∧ (s.mapSetup f).fc = s.fc ∧
    (s.mapSetup f).cc = s.cc ∧ (s.mapSetup f).ge = s.ge ∧ (s.mapSetup f).lp = s.lp ∧ (s.mapSetup f).mc = s.mc ∧
    (s.mapSetup f).cl = s.cl ∧ (s.mapSetup f).au = s.au :=
  ⟨rfl, rfl, rfl, rfl, rfl, rfl, rfl, rfl, rfl, rfl, rfl, rfl, rfl, rfl, rfl⟩

@[simp] theorem State.mapScan_fields (f : Scanner → Scanner) :
    (s.mapScan f).pending = s.pending ∧ (s.mapScan f).now = s.now ∧ (s.mapScan f).held = s.held ∧
    (s.mapScan f).pt = s.pt ∧ (s.mapScan f).setup = s.setup ∧ (s.mapScan f).scan = f s.scan ∧
    (s.mapScan f).lens = s.lens ∧ (s.mapScan f).mq = s.mq ∧ (s.mapScan f).fc = s.fc ∧ (s.mapScan f).cc = s.cc ∧
    (s.mapScan f).ge = s.ge ∧ (s.mapScan f).lp = s.lp ∧ (s.mapScan f).mc = s.mc ∧ (s.mapScan f).cl = s.cl ∧
    (s.mapScan f).au = s.au :=
  ⟨rfl, rfl, rfl, rfl, rfl, rfl, rfl, rfl, rfl, rfl, rfl, rfl, rfl, rfl, rfl⟩

@[simp] theorem State.mapMq_fields (f : MotionQueue → MotionQueue) :
    (s.mapMq f).pending = s.pending ∧ (s.mapMq f).now = s.now ∧ (s.mapMq f).held = s.held ∧
    (s.mapMq f).pt = s.pt ∧ (s.mapMq f).setup = s.setup ∧ (s.mapMq f).scan = s.scan ∧
    (s.mapMq f).lens = s.lens ∧ (s.mapMq f).mq = f s.mq ∧ (s.mapMq f).fc = s.fc ∧ (s.mapMq f).cc = s.cc ∧
    (s.mapMq f).ge = s.ge ∧ (s.mapMq f).lp = s.lp ∧ (s.mapMq f).mc = s.mc ∧ (s.mapMq f).cl = s.cl ∧
    (s.mapMq f).au = s.au :=
  ⟨rfl, rfl, rfl, rfl, rfl, rfl, rfl, rfl, rfl, rfl, rfl, rfl, rfl, rfl, rfl⟩

@[simp] theorem State.mapFc_fields (f : FocusCompensator → FocusCompensator) :
    (s.mapFc f).pending = s.pending ∧ (s.mapFc f).now = s.now ∧ (s.mapFc f).held = s.held ∧
    (s.mapFc f).pt = s.pt ∧ (s.mapFc f).setup = s.setup ∧ (s.mapFc f).scan = s.scan ∧
    (s.mapFc f).lens = s.lens ∧ (s.mapFc f).mq = s.mq ∧ (s.mapFc f).fc = f s.fc ∧ (s.mapFc f).cc = s.cc ∧
    (s.mapFc f).ge = s.ge ∧ (s.mapFc f).lp = s.lp ∧ (s.mapFc f).mc = s.mc ∧ (s.mapFc f).cl = s.cl ∧
    (s.mapFc f).au = s.au :=
  ⟨rfl, rfl, rfl, rfl, rfl, rfl, rfl, rfl, rfl, rfl, rfl, rfl, rfl, rfl, rfl⟩

@[simp] theorem State.mapCc_fields (f : Cooling → Cooling) :
    (s.mapCc f).pending = s.pending ∧ (s.mapCc f).now = s.now ∧ (s.mapCc f).held = s.held ∧
    (s.mapCc f).pt = s.pt ∧ (s.mapCc f).setup = s.setup ∧ (s.mapCc f).scan = s.scan ∧
    (s.mapCc f).lens = s.lens ∧ (s.mapCc f).mq = s.mq ∧ (s.mapCc f).fc = s.fc ∧ (s.mapCc f).cc = f s.cc ∧
    (s.mapCc f).ge = s.ge ∧ (s.mapCc f).lp = s.lp ∧ (s.mapCc f).mc = s.mc ∧ (s.mapCc f).cl = s.cl ∧
    (s.mapCc f).au = s.au :=
  ⟨rfl, rfl, rfl, rfl, rfl, rfl, rfl, rfl, rfl, rfl, rfl, rfl, rfl, rfl, rfl⟩

@[simp] theorem State.mapGe_fields (f : GeometryEngine → GeometryEngine) :
    (s.mapGe f).pending = s.pending ∧ (s.mapGe f).now = s.now ∧ (s.mapGe f).held = s.held ∧
    (s.mapGe f).pt = s.pt ∧ (s.mapGe f).setup = s.setup ∧ (s.mapGe f).scan = s.scan ∧
    (s.mapGe f).lens = s.lens ∧ (s.mapGe f).mq = s.mq ∧ (s.mapGe f).fc = s.fc ∧ (s.mapGe f).cc = s.cc ∧
    (s.mapGe f).ge = f s.ge ∧ (s.mapGe f).lp = s.lp ∧ (s.mapGe f).mc = s.mc ∧ (s.mapGe f).cl = s.cl ∧
    (s.mapGe f).au = s.au :=
  ⟨rfl, rfl, rfl, rfl, rfl, rfl, rfl, rfl, rfl, rfl, rfl, rfl, rfl, rfl, rfl⟩

@[simp] theorem State.mapLp_fields (f : LookupPort → LookupPort) :
    (s.mapLp f).pending = s.pending ∧ (s.mapLp f).now = s.now ∧ (s.mapLp f).held = s.held ∧
    (s.mapLp f).pt = s.pt ∧ (s.mapLp f).setup = s.setup ∧ (s.mapLp f).scan = s.scan ∧
    (s.mapLp f).lens = s.lens ∧ (s.mapLp f).mq = s.mq ∧ (s.mapLp f).fc = s.fc ∧ (s.mapLp f).cc = s.cc ∧
    (s.mapLp f).ge = s.ge ∧ (s.mapLp f).lp = f s.lp ∧ (s.mapLp f).mc = s.mc ∧ (s.mapLp f).cl = s.cl ∧
    (s.mapLp f).au = s.au :=
  ⟨rfl, rfl, rfl, rfl, rfl, rfl, rfl, rfl, rfl, rfl, rfl, rfl, rfl, rfl, rfl⟩

@[simp] theorem State.mapMc_fields (f : ModeController → ModeController) :
    (s.mapMc f).pending = s.pending ∧ (s.mapMc f).now = s.now ∧ (s.mapMc f).held = s.held ∧
    (s.mapMc f).pt = s.pt ∧ (s.mapMc f).setup = s.setup ∧ (s.mapMc f).scan = s.scan ∧
    (s.mapMc f).lens = s.lens ∧ (s.mapMc f).mq = s.mq ∧ (s.mapMc f).fc = s.fc ∧ (s.mapMc f).cc = s.cc ∧
    (s.mapMc f).ge = s.ge ∧ (s.mapMc f).lp = s.lp ∧ (s.mapMc f).mc = f s.mc ∧ (s.mapMc f).cl = s.cl ∧
    (s.mapMc f).au = s.au :=
  ⟨rfl, rfl, rfl, rfl, rfl, rfl, rfl, rfl, rfl, rfl, rfl, rfl, rfl, rfl, rfl⟩

@[simp] theorem State.mapCl_fields (f : CommandLink → CommandLink) :
    (s.mapCl f).pending = s.pending ∧ (s.mapCl f).now = s.now ∧ (s.mapCl f).held = s.held ∧
    (s.mapCl f).pt = s.pt ∧ (s.mapCl f).setup = s.setup ∧ (s.mapCl f).scan = s.scan ∧
    (s.mapCl f).lens = s.lens ∧ (s.mapCl f).mq = s.mq ∧ (s.mapCl f).fc = s.fc ∧ (s.mapCl f).cc = s.cc ∧
    (s.mapCl f).ge = s.ge ∧ (s.mapCl f).lp = s.lp ∧ (s.mapCl f).mc = s.mc ∧ (s.mapCl f).cl = f s.cl ∧
    (s.mapCl f).au = s.au :=
  ⟨rfl, rfl, rfl, rfl, rfl, rfl, rfl, rfl, rfl, rfl, rfl, rfl, rfl, rfl, rfl⟩

@[simp] theorem State.mapAu_fields (f : Alerts → Alerts) :
    (s.mapAu f).pending = s.pending ∧ (s.mapAu f).now = s.now ∧ (s.mapAu f).held = s.held ∧
    (s.mapAu f).pt = s.pt ∧ (s.mapAu f).setup = s.setup ∧ (s.mapAu f).scan = s.scan ∧
    (s.mapAu f).lens = s.lens ∧ (s.mapAu f).mq = s.mq ∧ (s.mapAu f).fc = s.fc ∧ (s.mapAu f).cc = s.cc ∧
    (s.mapAu f).ge = s.ge ∧ (s.mapAu f).lp = s.lp ∧ (s.mapAu f).mc = s.mc ∧ (s.mapAu f).cl = s.cl ∧
    (s.mapAu f).au = f s.au :=
  ⟨rfl, rfl, rfl, rfl, rfl, rfl, rfl, rfl, rfl, rfl, rfl, rfl, rfl, rfl, rfl⟩

@[simp] theorem State.mapAxis_fields (ax : Axis) (f : AxisRecord → AxisRecord) :
    (s.mapAxis ax f).pending = s.pending ∧ (s.mapAxis ax f).now = s.now ∧ (s.mapAxis ax f).held = s.held ∧
    (s.mapAxis ax f).pt = s.pt ∧ (s.mapAxis ax f).setup = s.setup ∧ (s.mapAxis ax f).scan = s.scan ∧
    (s.mapAxis ax f).lens = s.lens.set ax (f (s.lens.get ax)) ∧ (s.mapAxis ax f).mq = s.mq ∧
    (s.mapAxis ax f).fc = s.fc ∧ (s.mapAxis ax f).cc = s.cc ∧ (s.mapAxis ax f).ge = s.ge ∧
    (s.mapAxis ax f).lp = s.lp ∧ (s.mapAxis ax f).mc = s.mc ∧ (s.mapAxis ax f).cl = s.cl ∧
    (s.mapAxis ax f).au = s.au :=
  ⟨rfl, rfl, rfl, rfl, rfl, rfl, rfl, rfl, rfl, rfl, rfl, rfl, rfl, rfl, rfl⟩

@[simp] theorem State.withPending_fields (q : List Instr) :
    (s.withPending q).pending = q ∧ (s.withPending q).now = s.now ∧ (s.withPending q).held = s.held ∧
    (s.withPending q).pt = s.pt ∧ (s.withPending q).setup = s.setup ∧ (s.withPending q).scan = s.scan ∧
    (s.withPending q).lens = s.lens ∧ (s.withPending q).mq = s.mq ∧ (s.withPending q).fc = s.fc ∧
    (s.withPending q).cc = s.cc ∧ (s.withPending q).ge = s.ge ∧ (s.withPending q).lp = s.lp ∧
    (s.withPending q).mc = s.mc ∧ (s.withPending q).cl = s.cl ∧ (s.withPending q).au = s.au :=
  ⟨rfl, rfl, rfl, rfl, rfl, rfl, rfl, rfl, rfl, rfl, rfl, rfl, rfl, rfl, rfl⟩

@[simp] theorem State.tick_fields :
    (s.tick).pending = s.pending ∧ (s.tick).now = s.now + 1 ∧ (s.tick).held = s.held ∧ (s.tick).pt = s.pt ∧
    (s.tick).setup = s.setup ∧ (s.tick).scan = s.scan ∧ (s.tick).lens = s.lens ∧ (s.tick).mq = s.mq ∧
    (s.tick).fc = s.fc ∧ (s.tick).cc = s.cc ∧ (s.tick).ge = s.ge ∧ (s.tick).lp = s.lp ∧ (s.tick).mc = s.mc ∧
    (s.tick).cl = s.cl ∧ (s.tick).au = s.au :=
  ⟨rfl, rfl, rfl, rfl, rfl, rfl, rfl, rfl, rfl, rfl, rfl, rfl, rfl, rfl, rfl⟩

/-! ## Families of like things -/

@[simp] theorem PerAxis.get_set {α : Type} (p : PerAxis α) (ax b : Axis) (x : α) :
    (p.set ax x).get b = if b = ax then x else p.get b := by
  cases ax <;> cases b <;> rfl

@[simp] theorem PerAxis.get_make {α : Type} (f : Axis → α) (ax : Axis) : (PerAxis.make f).get ax = f ax := by
  cases ax <;> rfl

@[simp] theorem PerFan.get_set {α : Type} (p : PerFan α) (fan b : Fan) (x : α) :
    (p.set fan x).get b = if b = fan then x else p.get b := by
  cases fan <;> cases b <;> rfl

@[simp] theorem PerFan.get_make {α : Type} (f : Fan → α) (fan : Fan) : (PerFan.make f).get fan = f fan := by
  cases fan <;> rfl

@[simp] theorem PerSensor.get_set {α : Type} (p : PerSensor α) (sn b : Sensor) (x : α) :
    (p.set sn x).get b = if b = sn then x else p.get b := by
  cases sn <;> cases b <;> rfl

@[simp] theorem PerSensor.get_make {α : Type} (f : Sensor → α) (sn : Sensor) : (PerSensor.make f).get sn = f sn := by
  cases sn <;> rfl

theorem PerAxis.ext_get {α : Type} {p q : PerAxis α} (h : ∀ ax, p.get ax = q.get ax) : p = q := by
  have a := h .vshift
  have b := h .hshift
  have c := h .zoom
  have d := h .focus
  cases p; cases q
  simp_all [PerAxis.get]

theorem mem_axes (ax : Axis) : ax ∈ axes := by cases ax <;> decide

theorem mem_fans (fan : Fan) : fan ∈ fans := by cases fan <;> decide

theorem mem_sensors (sn : Sensor) : sn ∈ sensors := by cases sn <;> decide

/-! ## Rounding and clamps -/

theorem clampInt_le {x lo hi : Int} (h : lo ≤ hi) : clampInt x lo hi ≤ hi := by unfold clampInt; split <;> [omega; split <;> omega]

theorem le_clampInt {x lo hi : Int} (h : lo ≤ hi) : lo ≤ clampInt x lo hi := by unfold clampInt; split <;> [omega; split <;> omega]

theorem clampNat_le (x : Int) (hi : Nat) : clampNat x hi ≤ hi := by
  have := clampInt_le (x := x) (lo := 0) (hi := hi) (by omega)
  unfold clampNat; omega

theorem normalise_le (c : Calibration) (raw : Raw) : normalise c raw ≤ 4000 := clampNat_le _ _

/-- A position lies between 0 and 4000 (R56, R59). -/
theorem position_le {ax : Axis} {n : Nat} (h : s.position ax = some n) : n ≤ 4000 := by
  unfold State.position at h
  simp only [Option.bind_eq_some_iff, Option.map_eq_some_iff] at h
  obtain ⟨c, -, r, -, rfl⟩ := h
  exact normalise_le c r

end Sys2Proof.Machine
end

