-- ==== Sys2Proof/Laws/Frames.lean ====
section
/-! SUPPORT. What the shared operations leave alone, said once for each: `Outer` for everything that is not a block's own
request, and `LensOnly` for the lens path, which also leaves the mode and Cooling alone. -/

namespace Sys2Proof.Machine

/-- The queue of commands, the clock, the reset line, the placements, the lookup port and the command link are the same. -/
structure Outer (s t : State) : Prop where
  pending : t.pending = s.pending
  now : t.now = s.now
  held : t.held = s.held
  pt : t.pt = s.pt
  lp : t.lp = s.lp
  cl : t.cl = s.cl

/-- Besides, the mode record and Cooling are the same. -/
structure LensOnly (s t : State) : Prop extends Outer s t where
  mc : t.mc = s.mc
  cc : t.cc = s.cc

theorem Outer.refl (s : State) : Outer s s := ⟨rfl, rfl, rfl, rfl, rfl, rfl⟩

theorem Outer.trans {s t u : State} (h : Outer s t) (k : Outer t u) : Outer s u :=
  ⟨k.pending.trans h.pending, k.now.trans h.now, k.held.trans h.held, k.pt.trans h.pt, k.lp.trans h.lp,
    k.cl.trans h.cl⟩

theorem LensOnly.refl (s : State) : LensOnly s s := ⟨.refl s, rfl, rfl⟩

theorem LensOnly.trans {s t u : State} (h : LensOnly s t) (k : LensOnly t u) : LensOnly s u :=
  ⟨h.toOuter.trans k.toOuter, k.mc.trans h.mc, k.cc.trans h.cc⟩

variable {s : State}

theorem lensOnly_mapSetup (f : ActiveSetup → ActiveSetup) : LensOnly s (s.mapSetup f) :=
  ⟨⟨rfl, rfl, rfl, rfl, rfl, rfl⟩, rfl, rfl⟩
theorem lensOnly_mapScan (f : Scanner → Scanner) : LensOnly s (s.mapScan f) :=
  ⟨⟨rfl, rfl, rfl, rfl, rfl, rfl⟩, rfl, rfl⟩
theorem lensOnly_mapMq (f : MotionQueue → MotionQueue) : LensOnly s (s.mapMq f) :=
  ⟨⟨rfl, rfl, rfl, rfl, rfl, rfl⟩, rfl, rfl⟩
theorem lensOnly_mapFc (f : FocusCompensator → FocusCompensator) : LensOnly s (s.mapFc f) :=
  ⟨⟨rfl, rfl, rfl, rfl, rfl, rfl⟩, rfl, rfl⟩
theorem lensOnly_mapGe (f : GeometryEngine → GeometryEngine) : LensOnly s (s.mapGe f) :=
  ⟨⟨rfl, rfl, rfl, rfl, rfl, rfl⟩, rfl, rfl⟩
theorem lensOnly_mapAu (f : Alerts → Alerts) : LensOnly s (s.mapAu f) :=
  ⟨⟨rfl, rfl, rfl, rfl, rfl, rfl⟩, rfl, rfl⟩
theorem lensOnly_mapAxis (ax : Axis) (f : AxisRecord → AxisRecord) : LensOnly s (s.mapAxis ax f) :=
  ⟨⟨rfl, rfl, rfl, rfl, rfl, rfl⟩, rfl, rfl⟩
theorem outer_mapCc (f : Cooling → Cooling) : Outer s (s.mapCc f) :=
  ⟨rfl, rfl, rfl, rfl, rfl, rfl⟩
theorem outer_mapMc (f : ModeController → ModeController) : Outer s (s.mapMc f) :=
  ⟨rfl, rfl, rfl, rfl, rfl, rfl⟩

theorem LensOnly.ite {c : Prop} [Decidable c] {t u : State} (h : LensOnly s t) (k : LensOnly s u) :
    LensOnly s (if c then t else u) := by split <;> assumption

theorem Outer.ite {c : Prop} [Decidable c] {t u : State} (h : Outer s t) (k : Outer s u) :
    Outer s (if c then t else u) := by split <;> assumption

theorem LensOnly.fold {α : Type} (f : State → α → State) (h : ∀ s a, LensOnly s (f s a)) (l : List α) :
    ∀ s, LensOnly s (l.foldl f s) := by
  induction l with
  | nil => exact LensOnly.refl
  | cons a l ih => exact fun s => (h s a).trans (ih (f s a))

theorem Outer.fold {α : Type} (f : State → α → State) (h : ∀ s a, Outer s (f s a)) (l : List α) :
    ∀ s, Outer s (l.foldl f s) := by
  induction l with
  | nil => exact Outer.refl
  | cons a l ih => exact fun s => (h s a).trans (ih (f s a))

/-! ## Flags, compute and recall -/

theorem lensOnly_occur (f : Flag) : LensOnly s (occur f s) := lensOnly_mapAu _

theorem lensOnly_occurIf (b : Bool) (f : Flag) : LensOnly s (occurIf b f s) := (lensOnly_occur f).ite (.refl s)

theorem lensOnly_startCompute : LensOnly s (startCompute s) := lensOnly_mapGe _

theorem lensOnly_applyGeometry (g : Insets) : LensOnly s (applyGeometry g s) :=
  (lensOnly_mapGe _).trans lensOnly_startCompute

theorem lensOnly_endRecall (o : RecallOutcome) (b : Bool) : LensOnly s (endRecall o b s) :=
  (lensOnly_mapSetup _).trans (lensOnly_occurIf _ _)

theorem lensOnly_axisPhaseEnd (r : Recall) : LensOnly s (axisPhaseEnd r s) := by
  unfold axisPhaseEnd
  dsimp only
  split
  · exact (lensOnly_mapSetup _).trans (lensOnly_endRecall _ _)
  · exact ((lensOnly_mapSetup _).trans (lensOnly_mapSetup _)).trans (lensOnly_applyGeometry _)

theorem lensOnly_recordRecall (ax : Axis) (tag : Nat) (st : EndStatus) : LensOnly s (recordRecall ax tag st s) := by
  unfold recordRecall
  split
  · exact .refl s
  · dsimp only
    split
    · exact .ite ((lensOnly_mapSetup _).trans (lensOnly_axisPhaseEnd _)) (lensOnly_mapSetup _)
    · exact .refl s

theorem lensOnly_markRunning (ax : Axis) (tag : Nat) : LensOnly s (markRunning ax tag s) := by
  unfold markRunning
  split
  · exact .refl s
  · exact .ite (lensOnly_mapSetup _) (.refl s)

theorem lensOnly_abandonRecall (b : Bool) : LensOnly s (abandonRecall b s) := by
  unfold abandonRecall
  split
  · exact .refl s
  · exact (lensOnly_mapSetup _).trans (lensOnly_endRecall _ _)

theorem lensOnly_recallAtSwap : LensOnly s (recallAtSwap s) := .ite (lensOnly_endRecall _ _) (.refl s)

theorem lensOnly_swapTo (t : Table) : LensOnly s (swapTo t s) :=
  ((lensOnly_mapGe _).trans (lensOnly_occur _)).trans lensOnly_recallAtSwap

theorem lensOnly_swapIfReady : LensOnly s (swapIfReady s) := by
  unfold swapIfReady
  split
  · exact lensOnly_swapTo _
  · exact .refl s
  · exact .refl s

/-! ## Motions and entries -/

theorem lensOnly_takeReference : LensOnly s (takeReference s) := (lensOnly_mapSetup _).trans (lensOnly_mapFc _)

theorem lensOnly_focusEnd (job : Job) (st : EndStatus) : LensOnly s (focusEnd job st s) := by
  cases job with
  | move _ => exact .ite lensOnly_takeReference (.refl s)
  | ofRecall _ _ => exact .ite lensOnly_takeReference (.refl s)
  | trim _ => unfold focusEnd; exact lensOnly_mapFc _
  | park _ => exact .refl s
  | jog _ _ => exact .ite (.refl s) lensOnly_takeReference
  | learn => exact .refl s

theorem lensOnly_jogBase (ax : Axis) (cal : Option Calibration) (st : EndStatus) : LensOnly s (jogBase ax cal st s) := by
  cases cal with
  | none => exact .refl s
  | some _ => exact .ite (.refl s) (lensOnly_mapSetup _)

theorem lensOnly_setupEnd (ax : Axis) (cal : Option Calibration) (job : Job) (st : EndStatus) :
    LensOnly s (setupEnd ax cal job st s) := by
  cases job with
  | ofRecall _ _ => exact lensOnly_recordRecall _ _ _
  | jog _ _ => exact lensOnly_jogBase _ _ _
  | move _ => exact .refl s
  | trim _ => exact .refl s
  | park _ => exact .refl s
  | learn => exact .refl s

theorem lensOnly_settleFastMode : LensOnly s (settleFastMode s) := .ite (.refl s) (lensOnly_mapScan _)

theorem lensOnly_endMotion (ax : Axis) (st : EndStatus) : LensOnly s (endMotion ax st s) := by
  unfold endMotion
  split
  · exact .refl s
  · refine .trans ?_ lensOnly_settleFastMode
    refine .trans ?_ (lensOnly_occurIf _ _)
    refine .trans ?_ (lensOnly_occur _)
    exact .ite (((lensOnly_mapAxis _ _).trans (lensOnly_setupEnd _ _ _ _)).trans (lensOnly_focusEnd _ _))
      ((lensOnly_mapAxis _ _).trans (lensOnly_setupEnd _ _ _ _))

theorem lensOnly_applyFate (ax : Axis) (f : Fate) : LensOnly s (applyFate ax f s) := by
  unfold applyFate
  split
  · exact lensOnly_mapAxis _ _
  · exact lensOnly_endMotion _ _

theorem lensOnly_requestEnd (ax : Axis) (st : Motion → EndStatus) : LensOnly s (requestEnd ax st s) := by
  unfold requestEnd
  split
  · exact .refl s
  · exact lensOnly_applyFate _ _

theorem lensOnly_cutMotion (ax : Axis) : LensOnly s (cutMotion ax s) := by
  unfold cutMotion
  split
  · exact .refl s
  · exact lensOnly_endMotion _ _

theorem lensOnly_cutAll : LensOnly s (cutAll s) := LensOnly.fold _ (fun _ ax => lensOnly_cutMotion ax) _ _

theorem lensOnly_startEntry (e : Entry) : LensOnly s (startEntry e s) := by
  unfold startEntry
  refine .trans ?_ (lensOnly_applyFate _ _)
  refine .trans ?_ (lensOnly_mapScan _)
  cases jobTag e.job with
  | none => exact lensOnly_mapAxis e.axis (fun r => { r with state := .moving, motion := some _ })
  | some tag => exact .trans (lensOnly_mapAxis e.axis _) (lensOnly_markRunning _ _)

theorem lensOnly_dispatchUpTo : ∀ n s, LensOnly s (dispatchUpTo n s)
  | 0, s => .refl s
  | n + 1, s => by
    unfold dispatchUpTo
    split
    · exact .refl s
    · exact .ite (((lensOnly_mapMq _).trans (lensOnly_startEntry _)).trans (lensOnly_dispatchUpTo n _)) (.refl s)

theorem lensOnly_dispatch : LensOnly s (dispatch s) := lensOnly_dispatchUpTo _ _

theorem lensOnly_handRemoved (st : EndStatus) (e : Entry) : LensOnly s (handRemoved st e s) := by
  unfold handRemoved
  split
  · exact lensOnly_recordRecall _ _ _
  · exact lensOnly_mapFc _
  all_goals exact .refl s

theorem lensOnly_removeEntry (ax : Axis) (st : EndStatus) : LensOnly s (removeEntry ax st s) := by
  unfold removeEntry
  split
  · exact .refl s
  · exact (lensOnly_mapMq _).trans (lensOnly_handRemoved _ _)

theorem lensOnly_clearQueue : LensOnly s (clearQueue s) :=
  (lensOnly_mapMq _).trans (LensOnly.fold _ (fun _ e => lensOnly_handRemoved _ e) _ _)

theorem lensOnly_appendEntry (e : Entry) : LensOnly s (appendEntry e s) := (lensOnly_mapMq _).trans lensOnly_dispatch

theorem lensOnly_appendAwaited (n : Nat) (e : Entry) : LensOnly s (appendAwaited n e s) :=
  (lensOnly_mapMq _).trans (lensOnly_appendEntry e)

/-! ## Fans, modes and evaluations -/

theorem outer_mapFans (f : Fan → FanRecord → FanRecord) : Outer s (mapFans s f) := outer_mapCc _

theorem outer_capCut : Outer s (capCut s) := .ite (outer_mapFans _) (.refl s)

theorem outer_setLight (l : Nat) : Outer s (setLight l s) := (outer_mapCc _).trans (lensOnly_occurIf _ _).toOuter

theorem outer_aimCooldown : Outer s (aimCooldown s) := (outer_mapFans _).trans (outer_mapFans _)

theorem outer_setMode (m : Mode) (b : Bool) : Outer s (setMode m b s) := (outer_mapMc _).trans (lensOnly_occurIf _ _).toOuter

theorem outer_enterStarting : Outer s (enterStarting s) := by
  unfold enterStarting
  refine .trans ?_ (outer_mapMc _)
  refine .trans ?_ (lensOnly_mapScan _).toOuter
  exact (((outer_setMode _ _).trans (outer_mapFans _)).trans (outer_setLight _)).trans (outer_mapCc _)

theorem outer_enterRun : Outer s (enterRun s) :=
  (((outer_setMode _ _).trans (outer_mapMc _)).trans (outer_mapFans _)).trans outer_capCut

theorem outer_enterStandby (b : Bool) : Outer s (enterStandby b s) :=
  (((outer_setMode _ _).trans (outer_mapMc _)).trans (outer_mapFans _)).trans
    ((lensOnly_mapScan _).trans lensOnly_clearQueue).toOuter

theorem outer_judgeCooldown (b : Bool) : Outer s (judgeCooldown b s) := .ite (outer_enterStandby _) (.refl s)

theorem outer_afterLens : Outer s (afterLens s) := lensOnly_dispatch.toOuter.trans (outer_judgeCooldown _)

theorem outer_stepAxis (ax : Axis) (f : State → State) (h : Outer s (f s)) : Outer s (stepAxis ax f s) :=
  .ite (h.trans outer_afterLens) h

theorem outer_clearAxis (ax : Axis) (st : Motion → EndStatus) (rm : EndStatus) : Outer s (clearAxis ax st rm s) := by
  have h : Outer s (stepAxis ax (requestEnd ax st) s) := outer_stepAxis _ _ (lensOnly_requestEnd _ _).toOuter
  exact .ite (h.trans ((lensOnly_removeEntry _ _).trans lensOnly_dispatch).toOuter) h

theorem outer_appendParks : Outer s (appendParks s) :=
  Outer.fold _ (fun s ax => by
    unfold parkEntry
    split
    · exact .refl s
    · exact .ite (lensOnly_appendEntry _).toOuter (.refl s)) _ _

theorem outer_leaveForCooldown (b : Bool) : Outer s (leaveForCooldown b s) := by
  refine .trans ?_ (LensOnly.fold _ (fun _ ax => lensOnly_requestEnd ax _) _ _).toOuter
  refine .trans ?_ ((lensOnly_abandonRecall _).trans lensOnly_clearQueue).toOuter
  exact (((outer_setMode _ _).trans (outer_mapMc _)).trans (outer_mapFans _)).trans outer_aimCooldown

theorem outer_enterCooldown (b : Bool) : Outer s (enterCooldown b s) := (outer_leaveForCooldown _).trans outer_appendParks

theorem outer_enterTrip (c : TripCause) (x : SensorSet) : Outer s (enterTrip c x s) := by
  refine .trans ?_ (((lensOnly_abandonRecall _).trans lensOnly_clearQueue).trans lensOnly_cutAll).toOuter
  exact (((outer_setMode _ _).trans (lensOnly_occur _).toOuter).trans (outer_mapMc _)).trans (outer_mapFans _)

theorem outer_tripCondition (c : TripCause) (x : SensorSet) : Outer s (tripCondition c x s) := by
  unfold tripCondition
  split
  case h_4 => exact .refl s
  case h_5 => exact .refl s
  all_goals exact outer_enterTrip _ _

theorem outer_runEvaluation : Outer s (runEvaluation s) :=
  (((outer_mapFans _).trans (lensOnly_occurIf _ _).toOuter).trans outer_capCut).trans (outer_setLight _)

theorem outer_evaluateCooling : Outer s (evaluateCooling s) := by
  unfold evaluateCooling
  have h : Outer s (match s.mc.mode with
      | .run => runEvaluation s
      | .cooldown => cooldownPipeline s
      | .standby | .starting | .trip => s) := by
    split
    · exact outer_runEvaluation
    · exact outer_mapFans _
    all_goals exact .refl s
  exact .ite ((h.trans (outer_mapCc _)).trans (outer_tripCondition _ _)) (h.trans (outer_mapCc _))

theorem lensOnly_judgeTrim : LensOnly s (judgeTrim s) := by
  unfold judgeTrim
  split
  · exact .refl _
  · exact .ite ((lensOnly_mapFc _).trans (lensOnly_appendEntry _)) (.refl _)

theorem lensOnly_evaluateFocus : LensOnly s (evaluateFocus s) := by
  unfold evaluateFocus
  exact .trans (lensOnly_mapFc _) lensOnly_judgeTrim

theorem lensOnly_evaluateQueue : LensOnly s (evaluateQueue s) :=
  .ite ((lensOnly_mapMq _).trans lensOnly_dispatch) (lensOnly_mapMq _)

theorem outer_evaluateMode : Outer s (evaluateMode s) := .ite ((outer_mapMc _).trans (outer_judgeCooldown _)) (.refl s)

/-- An evaluation leaves the command queue, the clock, the placements and both ports alone (R46). -/
theorem outer_evaluate : Outer s (evaluate s) := by
  refine .trans ?_ (Outer.fold _ (fun s r => ?_) _ _)
  · exact (lensOnly_mapScan _).toOuter.trans (outer_mapCc _)
  · cases r with
    | cooling => exact outer_evaluateCooling
    | focus => exact lensOnly_evaluateFocus.toOuter
    | queue => exact lensOnly_evaluateQueue.toOuter
    | mode => exact outer_evaluateMode

/-! ## Requests and events -/

/-- All that a request can do, once (R174): held, nothing; while another executes, the overrun marker; otherwise its
owner's effect, with its response pending. -/
theorem takeFrame_eq (handler : State → Reply × State) (s : State) :
    takeFrame handler s = .next (if s.held then s
      else if s.cl.exec = .executing then s.mapCl markOverrun
      else (handler s).2.mapCl fun _ => executing (handler s).1) := by
  unfold takeFrame
  split
  · rfl
  · cases h : s.cl.exec <;> simp

/-- All that an event can do, once. -/
theorem event_eq (due : Bool) (effect : State → State) (s : State) :
    event due effect s = .next (if !s.held && due then effect s else s) := rfl

end Sys2Proof.Machine
end

