-- ==== Sys2Proof/Laws/Lens.lean ====
section
/-! SUPPORT. The lens path: what the end of a recall, the end of a motion and a dispatch do to the axes and the queue. -/

namespace Sys2Proof.Machine

variable {s : State}

/-- The scanner, the axes, the queue and the Focus Compensator are the same: all that a recall's own rules touch besides
is the Active Setup, the banks and the flags. -/
structure SetupOnly (s t : State) : Prop where
  scan : t.scan = s.scan
  lens : t.lens = s.lens
  mq : t.mq = s.mq
  fc : t.fc = s.fc

theorem SetupOnly.refl (s : State) : SetupOnly s s := ⟨rfl, rfl, rfl, rfl⟩

theorem SetupOnly.trans {s t u : State} (h : SetupOnly s t) (k : SetupOnly t u) : SetupOnly s u :=
  ⟨k.scan.trans h.scan, k.lens.trans h.lens, k.mq.trans h.mq, k.fc.trans h.fc⟩

theorem SetupOnly.ite {c : Prop} [Decidable c] {t u : State} (h : SetupOnly s t) (k : SetupOnly s u) :
    SetupOnly s (if c then t else u) := by split <;> assumption

theorem setupOnly_mapSetup (f : ActiveSetup → ActiveSetup) : SetupOnly s (s.mapSetup f) := ⟨rfl, rfl, rfl, rfl⟩
theorem setupOnly_mapGe (f : GeometryEngine → GeometryEngine) : SetupOnly s (s.mapGe f) := ⟨rfl, rfl, rfl, rfl⟩
theorem setupOnly_occur (f : Flag) : SetupOnly s (occur f s) := ⟨rfl, rfl, rfl, rfl⟩
theorem setupOnly_occurIf (b : Bool) (f : Flag) : SetupOnly s (occurIf b f s) := .ite (setupOnly_occur f) (.refl s)

theorem setupOnly_endRecall (o : RecallOutcome) (b : Bool) : SetupOnly s (endRecall o b s) :=
  (setupOnly_mapSetup _).trans (setupOnly_occurIf _ _)

theorem setupOnly_applyGeometry (g : Insets) : SetupOnly s (applyGeometry g s) := ⟨rfl, rfl, rfl, rfl⟩

theorem setupOnly_axisPhaseEnd (r : Recall) : SetupOnly s (axisPhaseEnd r s) := by
  unfold axisPhaseEnd
  dsimp only
  split
  · exact (setupOnly_mapSetup _).trans (setupOnly_endRecall _ _)
  · exact ((setupOnly_mapSetup _).trans (setupOnly_mapSetup _)).trans (setupOnly_applyGeometry _)

theorem setupOnly_recordRecall (ax : Axis) (tag : Nat) (st : EndStatus) : SetupOnly s (recordRecall ax tag st s) := by
  unfold recordRecall
  split
  · exact .refl s
  · dsimp only
    split
    · exact .ite ((setupOnly_mapSetup _).trans (setupOnly_axisPhaseEnd _)) (setupOnly_mapSetup _)
    · exact .refl s

theorem setupOnly_markRunning (ax : Axis) (tag : Nat) : SetupOnly s (markRunning ax tag s) := by
  unfold markRunning
  split
  · exact .refl s
  · exact .ite (setupOnly_mapSetup _) (.refl s)

theorem setupOnly_setupEnd (ax : Axis) (cal : Option Calibration) (job : Job) (st : EndStatus) :
    SetupOnly s (setupEnd ax cal job st s) := by
  unfold setupEnd
  split
  · exact setupOnly_recordRecall _ _ _
  · unfold jogBase
    split
    · exact .refl s
    · exact .ite (.refl s) (setupOnly_mapSetup _)
  all_goals exact .refl s

/-- The axes and the queue are the same. -/
theorem focusEnd_lens_mq (job : Job) (st : EndStatus) :
    (focusEnd job st s).lens = s.lens ∧ (focusEnd job st s).mq = s.mq := by
  unfold focusEnd takeReference
  split
  · split <;> exact ⟨rfl, rfl⟩
  · split <;> exact ⟨rfl, rfl⟩
  all_goals first | exact ⟨rfl, rfl⟩ | (split <;> exact ⟨rfl, rfl⟩)

theorem occurIf_lens_mq (b : Bool) (f : Flag) : (occurIf b f s).lens = s.lens ∧ (occurIf b f s).mq = s.mq := by
  unfold occurIf; split <;> exact ⟨rfl, rfl⟩

theorem settleFastMode_lens_mq : (settleFastMode s).lens = s.lens ∧ (settleFastMode s).mq = s.mq := by
  unfold settleFastMode; split <;> exact ⟨rfl, rfl⟩

/-- The end of a motion (R73): its axis takes the record of R57, every other axis and the queue are the same. -/
theorem endMotion_lens_mq {ax : Axis} {m : Motion} (st : EndStatus) (h : (s.lens.get ax).motion = some m) :
    (endMotion ax st s).lens = s.lens.set ax (endedAxis m st (s.reading ax) (s.lens.get ax))
      ∧ (endMotion ax st s).mq = s.mq := by
  have key : endMotion ax st s = settleFastMode (occurIf (st = .stalled || st = .timeout) .axisFault (occur .motionEnd
      (let u := setupEnd ax ((s.mapAxis ax (endedAxis m st (s.reading ax))).lens.get ax).cal m.job st
        (s.mapAxis ax (endedAxis m st (s.reading ax)))
       if ax = .focus then focusEnd m.job st u else u))) := by
    unfold endMotion; rw [h]
  rw [key, (settleFastMode_lens_mq).1, (settleFastMode_lens_mq).2, (occurIf_lens_mq _ _).1, (occurIf_lens_mq _ _).2]
  dsimp only
  have k := setupOnly_setupEnd (s := s.mapAxis ax (endedAxis m st (s.reading ax))) ax
    ((s.mapAxis ax (endedAxis m st (s.reading ax))).lens.get ax).cal m.job st
  split
  · exact ⟨(focusEnd_lens_mq _ _).1.trans k.lens, (focusEnd_lens_mq _ _).2.trans k.mq⟩
  · exact ⟨k.lens, k.mq⟩

/-- The end of a motion leaves every other axis alone. -/
theorem endMotion_get (ax b : Axis) (st : EndStatus) (h : b ≠ ax) :
    (endMotion ax st s).lens.get b = s.lens.get b := by
  cases hm : (s.lens.get ax).motion with
  | none => unfold endMotion; rw [hm]
  | some m => rw [(endMotion_lens_mq st hm).1]; simp [h]

/-- The end of a motion leaves the queue alone. -/
@[simp] theorem endMotion_mq (ax : Axis) (st : EndStatus) : (endMotion ax st s).mq = s.mq := by
  cases hm : (s.lens.get ax).motion with
  | none => unfold endMotion; rw [hm]
  | some m => exact (endMotion_lens_mq st hm).2

/-- After the end of a motion its axis has none. -/
theorem endMotion_motion (ax : Axis) (st : EndStatus) : ((endMotion ax st s).lens.get ax).motion = none := by
  cases hm : (s.lens.get ax).motion with
  | none => unfold endMotion; rw [hm]; exact hm
  | some m => rw [(endMotion_lens_mq st hm).1]; simp [endedAxis]

/-- A fate leaves the queue alone. -/
@[simp] theorem applyFate_mq (ax : Axis) (f : Fate) : (applyFate ax f s).mq = s.mq := by
  cases f
  · rfl
  · exact endMotion_mq _ _

/-- A fate leaves every other axis alone. -/
theorem applyFate_get (ax b : Axis) (f : Fate) (h : b ≠ ax) : (applyFate ax f s).lens.get b = s.lens.get b := by
  cases f
  · simp [applyFate, h]
  · exact endMotion_get _ _ _ h

/-- An end request leaves the queue alone. -/
@[simp] theorem requestEnd_mq (ax : Axis) (st : Motion → EndStatus) : (requestEnd ax st s).mq = s.mq := by
  unfold requestEnd; split <;> simp

/-- An end request leaves every other axis alone. -/
theorem requestEnd_get (ax b : Axis) (st : Motion → EndStatus) (h : b ≠ ax) :
    (requestEnd ax st s).lens.get b = s.lens.get b := by
  unfold requestEnd; split
  · rfl
  · exact applyFate_get _ _ _ h

/-- After an end request a motion is gone or in BRAKE (R71). -/
theorem requestEnd_motion (ax : Axis) (st : Motion → EndStatus) (m : Motion)
    (h : ((requestEnd ax st s).lens.get ax).motion = some m) : m.phase = .brake := by
  unfold requestEnd at h
  split at h
  · simp_all
  · rename_i m' hm
    cases hf : endRequest s.now (st m') m' with
    | ends e => rw [hf] at h; simp [applyFate, endMotion_motion] at h
    | goes m'' =>
      rw [hf] at h
      simp [applyFate] at h
      subst h
      unfold endRequest at hf
      split at hf <;> simp_all [enterBrake] <;> (subst hf; simp_all)

/-- Starting an entry leaves the queue alone (R98: the entry has left it). -/
@[simp] theorem startEntry_mq (e : Entry) : (startEntry e s).mq = s.mq := by
  unfold startEntry
  simp only [applyFate_mq]
  cases jobTag e.job with
  | none => rfl
  | some tag => exact (setupOnly_markRunning _ _).mq

/-- Starting an entry leaves every other axis alone (R98). -/
theorem startEntry_get (e : Entry) (b : Axis) (h : b ≠ e.axis) : (startEntry e s).lens.get b = s.lens.get b := by
  unfold startEntry
  simp only [applyFate_get _ _ _ h]
  cases jobTag e.job with
  | none => simp [h]
  | some tag => simp [(setupOnly_markRunning (s := s.mapAxis e.axis _) e.axis tag).lens, h]

@[simp] theorem takeHead_fields (e : Entry) (rest : List Entry) (q : MotionQueue) :
    (takeHead e rest q).entries = rest ∧ (takeHead e rest q).budget = q.budget
      ∧ (takeHead e rest q).awaited = q.awaited.map (Awaited.start e.axis) := ⟨rfl, rfl, rfl⟩

@[simp] theorem dropEntries_fields (gone : Axis → Bool) (q : MotionQueue) :
    (dropEntries gone q).entries = q.entries.filter (!gone ·.axis) ∧ (dropEntries gone q).budget = q.budget
      ∧ (dropEntries gone q).awaited = q.awaited.bind (Awaited.drop gone) := ⟨rfl, rfl, rfl⟩

/-- What every dispatch of a head entry keeps, dispatch keeps (R97). -/
theorem dispatch_keeps (P : State → Prop)
    (h : ∀ s e rest, P s → s.mq.entries = e :: rest → canDispatch s e = true →
      P (startEntry e (s.mapMq (takeHead e rest)))) (hs : P s) : P (dispatch s) := by
  suffices ∀ n s, P s → P (dispatchUpTo n s) from this _ _ hs
  intro n
  induction n with
  | zero => exact fun _ hp => hp
  | succ n ih =>
    intro s hp
    unfold dispatchUpTo
    split
    · exact hp
    · split
      · exact ih _ (h _ _ _ hp ‹_› ‹_›)
      · exact hp

/-- Dispatch removes entries from the head of the queue and does nothing else to it (R97). -/
theorem dispatch_entries : ∃ n, (dispatch s).mq.entries = s.mq.entries.drop n ∧ (dispatch s).mq.budget = s.mq.budget :=
  dispatch_keeps (P := fun t => ∃ n, t.mq.entries = s.mq.entries.drop n ∧ t.mq.budget = s.mq.budget)
    (fun t e rest ⟨n, hn, hb⟩ he _ => ⟨n + 1, by
      have : (s.mq.entries.drop n).tail = rest := by rw [← hn, he]; rfl
      simp [← this], by simp [hb]⟩) ⟨0, by simp⟩

end Sys2Proof.Machine
end

