-- ==== Sys2Proof/Tests/Slice0.lean ====
section
/-! SUPPORT. Tests of one command each on small states, with values taken from the manual's worked examples and tables, and
for every statement with hypotheses a witness: a concrete state and operands that meet them. -/

open Sys2Proof Sys2Proof.Machine

namespace Sys2Proof.Tests

/-! ## Small states -/

/-- The state after one command. -/
def after (i : Instr) (s : State) : State :=
  match exec i s with
  | .next t => t
  | .fault _ | .refused _ => s

/-- The status and payload of the pending response. -/
def reply (s : State) : Option (Status × List Byte) :=
  match s.cl.slot with
  | .pending r => some (r.status, r.payload)
  | .empty | .full _ => none

/-- The state after reset, but for an empty LIVE table. -/
def bare : State :=
  State.reset.mapGe fun g => { g with live := ⟨Vector.replicate 64 emptyBand, ⟨0, 0, 0, 0, 0, 0, false, false⟩⟩ }

/-- The state at a time. -/
def at' (t : Time) (s : State) : State := { s with now := t }

/-- A mode with its lines and its fast list. -/
def inMode (m : Mode) (s : State) : State :=
  (s.mapMc fun c => { c with mode := m, lightPermit := m = .run, thermTrip := m = .trip }).mapScan fun c =>
    { c with fastMode := if m = .standby then .off else .periodic }

/-- RUN, with every axis IDLE and calibrated (24, 4072), so that a position is its raw reading less 48 (R59), and read at
2048. -/
def inRun : State :=
  { inMode .run bare with lens := .make fun _ => ⟨.idle, some ⟨24, 4072⟩, none, none⟩ }.mapScan fun c =>
    { c with pots := .make fun _ => ⟨some 2048, 1⟩ }

/-- A motion in a phase, dispatched at 0 on an IDLE axis. -/
def motion (job : Job) (phase : Phase) : Motion := { newMotion 0 .idle job with phase := phase }

/-- An axis with a running motion. -/
def running (ax : Axis) (m : Motion) (s : State) : State :=
  (s.mapAxis ax fun r => { r with state := .moving, motion := some m }).mapScan fun c => { c with fastMode := .triggered }

/-- A slot with a record. -/
def withSlot (i : Fin 24) (r : Placement) (s : State) : State :=
  s.mapPt fun t => { t with slots := t.slots.set i (some r) }

/-- The record "Scope" of the table example (01). -/
def scope : Placement :=
  ⟨[83, 99, 111, 112, 101], ⟨some 2100, none, some 3100, some 1800⟩, some ⟨0, 0, 0, 0, 240, 240⟩, 1, true⟩

/-- A record with a label of spaces and nothing else. -/
def blank (n : Nat) : Placement := ⟨List.replicate n 32, ⟨none, none, none, none⟩, none, 0, true⟩

/-- The frame payload of "Scope" for a slot number (R186). -/
def scopeFrame (n : Nat) : Payload :=
  [byte n, 0b11101, 1, 1, 5, 83, 99, 111, 112, 101, 0x34, 8, 0x1C, 12, 8, 7, 0, 0, 0, 0, 0, 0, 0, 0, 240, 0, 240, 0]

/-- A sensor VALID at a temperature. -/
def warm (sn : Sensor) (t : Int) (s : State) : State :=
  s.mapScan fun c => { c with therms := c.therms.set sn ⟨.valid, [2300, 2300, 2300, 2300], false, some t, some 2300, 4⟩ }

/-- A conversion that ends now. -/
def converting (ch : Channel) (s : State) : State := (at' 10 s).mapScan fun c => { c with converting := some ⟨ch, 0⟩ }

/-! ## Which commands are well formed (R173, R187) -/

theorem test_wf_longest_payload : (Instr.plRead (List.replicate 255 0)).WellFormed = true := by decide +kernel
theorem test_wf_refuses_payload_of_256 : (Instr.plRead (List.replicate 256 0)).WellFormed = false := by decide +kernel
theorem test_wf_unknown_code : (Instr.unknownRequest 0x99 [1]).WellFormed = true := by decide
theorem test_wf_refuses_code_zero : (Instr.unknownRequest 0 []).WellFormed = false := by decide
theorem test_wf_refuses_known_code : (Instr.unknownRequest 0x28 []).WellFormed = false := by decide
theorem test_wf_refuses_long_unknown : (Instr.unknownRequest 0x99 (List.replicate 256 0)).WellFormed = false := by
  decide +kernel

/-! ## The bytes of a transaction (R172, R173, R187) -/

theorem test_bytes_move : decodeTransaction [0x28, 3, 1, 0xD0, 7] = some (.lnMove [1, 0xD0, 7]) := by decide
theorem test_bytes_after_frame_ignored : decodeTransaction [0x50, 0, 9, 9] = some (.alRead []) := by decide
theorem test_bytes_fetch : decodeTransaction [0, 1, 2] = some .fetch := by decide
theorem test_bytes_cut_short : decodeTransaction [0x28, 3, 1] = some .frameDiscarded := by decide
theorem test_bytes_nothing : decodeTransaction [] = none := by decide
theorem test_bytes_unknown : decodeTransaction [0x99, 1, 5] = some (.unknownRequest 0x99 [5]) := by decide
theorem test_bytes_long_known : (decodeTransaction [0x28, 49]).map (fun i => reply (after i bare))
    = some (some (.badLength, [])) := by
  decide
theorem test_no_word_spells_a_command : decodeTableWord 32 0x28 = none := rfl

/-! ## Computations of the worked examples -/

/-- 04, normalising two potentiometers. -/
theorem test_normalise : normalise ⟨380, 3620⟩ 1000 = 747 ∧ normalise ⟨380, 3620⟩ 300 = 0
    ∧ normalise ⟨3700, 300⟩ 3000 = 807 := by
  decide
/-- 03, the motor supply around its limits. -/
theorem test_supply : [2680, 2681, 2779, 2780, 4095].map supplyMillivolts = [10799, 10803, 11197, 11201,
    16500] := by decide
/-- 03, one filtered temperature. -/
theorem test_filtered : filteredOf [2391, 2396, 2402, 2399] = 416 ∧ filteredOf [2396, 2402, 2399, 2410] = 415 := by decide
/-- 07, an evening in the ceiling enclosure. -/
theorem test_curves : curveValue resetCurves.f0 620 = 74 ∧ curveValue resetCurves.f2 880 = 85
    ∧ curveValue resetCurves.f2 1005 = 98 ∧ curveValue resetCurves.f2 960 = 96 := by decide
/-- 06, a warm barrel: the coefficient at 2500 and the roundings of -44.1, -50.4, -59.15. -/
theorem test_drift : driftCoefficient resetDrift 2500 = -35 ∧ driftCoefficient resetDrift 4000 = -50
    ∧ roundHalfAway (-4410) 100 = -44 ∧ roundHalfAway (-5040) 100 = -50 ∧ roundHalfAway (-5915) 100 = -59 := by decide
/-- 08, one geometry in each orientation. -/
theorem test_panel_terms : panelTerms .floorRear ⟨10, 30, 1, 2, 3, 4⟩ = ⟨10, 30, 2, 1, 4, 3⟩
    ∧ panelTerms .ceilingFront ⟨10, 30, 1, 2, 3, 4⟩ = ⟨30, 10, 4, 3, 2, 1⟩
    ∧ panelTerms .ceilingRear ⟨10, 30, 1, 2, 3, 4⟩ = ⟨30, 10, 3, 4, 1, 2⟩ := by decide
/-- 08, keystone for a ceiling mount. -/
theorem test_keystone_bands : bandOf ⟨⟨0, 0, 0, 0, 240, 240⟩, ⟨3840, 2160⟩, .ceilingFront⟩ 32
      = ⟨.inside, 1088, 1905, 59519, 296938, 69870, 65176⟩
    ∧ bandOf ⟨⟨0, 0, 0, 0, 240, 240⟩, ⟨3840, 2160⟩, .ceilingFront⟩ 63
      = ⟨.inside, 2142, 30, 61394, 548884, 65600, 57457⟩ := by decide +kernel
/-- 08, insets at top and bottom, and empty bands. -/
theorem test_inset_bands : bandOf ⟨⟨40, 20, 0, 0, 0, 0⟩, ⟨1280, 720⟩, .floorFront⟩ 4 = ⟨.inside, 48, 0, 20464, 2233,
    65536, 71503⟩
    ∧ (bandOf ⟨⟨40, 20, 0, 0, 0, 0⟩, ⟨1280, 720⟩, .floorFront⟩ 3).kind = .above
    ∧ bandOf ⟨⟨40, 20, 0, 0, 0, 0⟩, ⟨1280, 720⟩, .floorFront⟩ 59 = ⟨.below, 708, 0, 20464, 184064, 65536, 71503⟩
    ∧ bandOf ⟨⟨40, 20, 0, 0, 0, 0⟩, ⟨1280, 720⟩, .floorFront⟩ 60 = emptyBand := by decide +kernel
/-- 08, the identity table of power-on (R155): bands 1 and 63. -/
theorem test_identity_bands : (bandOf resetInputs 1).srcRow256 = 8703 ∧ (bandOf resetInputs 63).srcRow256 = 548344
    ∧ (bandOf resetInputs 63).rowStep = 65536 := by decide
/-- 09 and R189: the bytes of the frame record after reset. -/
theorem test_frame_record : recordAt State.reset.ge 64 = [0, 3, 0, 15, 0x70, 8, 0, 0, 0x6F, 8, 34, 0, 64] := by decide

/-! ## Placements -/

theorem test_plCreate_lowest : reply (after (.plCreate (scopeFrame 0)) bare) = some (.ok, [1])
    ∧ slotAt (after (.plCreate (scopeFrame 0)) bare).pt 0 = some scope := by decide
/-- 01, step 2 of building the table: FOCUS 4200 and quiet level 5 are clamped. -/
theorem test_plCreate_clamps :
    let t := after (.plCreate [0, 15, 5, 0, 4, 70, 108, 97, 116, 0xD0, 7, 0xD0, 7, 0xDC, 5, 0x68,
        16]) (withSlot 0 scope bare)
    reply t = some (.clamped, [2])
      ∧ slotAt t.pt 1 = some ⟨[70, 108, 97, 116], ⟨some 2000, some 2000, some 1500, some 4000⟩, none, 3, false⟩ := by
  decide
theorem test_plWrite_modifies_source :
    let t := after (.plWrite (scopeFrame 1)) ((withSlot 0 (blank 3) bare).mapSetup fun a => { a with source := some 0 })
    slotAt t.pt 0 = some scope ∧ t.setup.modified = true := by decide
theorem test_plRead_returns : reply (after (.plRead [1]) (withSlot 0 scope bare))
    = some (.ok, 1 :: 0 :: (scopeFrame 1).drop 1) := by
  decide
/-- 01, steps 8 and 9. -/
theorem test_plRetire_marks :
    reply (after (.plRetire [2]) ((withSlot 1 scope bare).mapPt fun t => { t with park := some 1 })) = some (.ok, [2, 1])
    ∧ reply (after (.plRetire [1]) ((withSlot 0 scope bare).mapSetup fun a => { a with source := some 0 }))
        = some (.ok, [1, 2]) := by
  decide
theorem test_plSetPark : reply (after (.plSetPark [2]) (withSlot 1 scope bare)) = some (.ok, [0, 2])
    ∧ reply (after (.plSetPark [3]) bare) = some (.slotFree, []) := by decide

/-- The table of 01's list example, by label lengths. -/
def eight : State :=
  withSlot 0 (blank 5) (withSlot 2 (blank 9) (withSlot 3 (blank 0) (withSlot 4 (blank 12) (withSlot 8 (blank 11)
    (withSlot 11 (blank 9) (withSlot 19 (blank 5) (withSlot 23 (blank 9) bare)))))))

/-- 01, walking the table: the payload's length, its entry count and its remaining count. -/
def listed (start n : Byte) : Option (Nat × Option Byte × Option Byte) :=
  (reply (after (.plList [start, n]) eight)).map fun r => (r.2.length, r.2.head?, r.2.getLast?)

theorem test_plList_walk : listed 1 24 = some (36, some 4, some 4) ∧ listed 6 24 = some (44, some 4, some 0) := by
  decide
theorem test_plList_maximum : (listed 1 2).map (·.2) = some (some 2, some 6)
    ∧ (listed 13 1).map (·.2) = some (some 1, some 1)
    ∧ reply (after (.plList [25, 1]) eight) = some (.badValue, []) := by decide
/-- 02, a recall with a keystone, step 1. -/
theorem test_plRecall_keystone :
    let t := after (.plRecall [1]) ((withSlot 0 scope inRun).mapSetup fun a => { a with tag := 6 })
    reply t = some (.ok, [7, 1, 0b1101, 1]) ∧ t.mq.entries = [⟨.zoom, .ofRecall 3100 7⟩, ⟨.focus, .ofRecall 1800 7⟩]
      ∧ (t.lens.vshift.motion.map (·.job)) = some (.ofRecall 2100 7)
      ∧ t.setup.pendingGeometry = some ⟨0, 0, 0, 0, 240, 240⟩ := by decide +kernel
/-- 06, the base near the end of travel: a capture at FOCUS 0 with an applied compensation of -30 stores 30. -/
theorem test_plCapture_focus :
    let s := (inRun.mapFc fun f => { f with applied := -30 }).mapScan fun c => { c with pots := c.pots.set .focus ⟨some 48, 1⟩ }
    let t := after (.plCapture [5]) s
    reply t = some (.ok, [5, 1]) ∧ ((slotAt t.pt 4).bind (·.targets.focus)) = some 30 ∧ t.setup.source = some 4 := by
  decide
theorem test_rcQuery_reset : (reply (after (.rcQuery []) bare)).map (·.2.take 3) = some [0, 2, 0] := by decide

/-! ## Lens requests -/

/-- HSHIFT running a MOVE, as in 05's blocked head. -/
def hshiftRuns : State := running .hshift (motion (.move 3000) .drive) inRun

/-- 05, a blocked head, step 1. -/
theorem test_lnMove_waits :
    let t := after (.lnMove [0, 0x08, 7]) hshiftRuns
    t.mq.entries = [⟨.vshift, .move 1800⟩] ∧ t.unitsHeld = 2 ∧ t.setup.base.vshift = some 1800
      ∧ reply t = some (.ok, [0x08, 7, 0, 0xFF, 0]) := by decide
/-- 04: VSHIFT at 1500 with target 2100 under the ceiling begins with an overshoot leg to 2160. -/
theorem test_lnMove_overshoots :
    let s := inRun.mapScan fun c => { c with pots := c.pots.set .vshift ⟨some 1548, 1⟩ }
    let t := after (.lnMove [0, 0x34, 8]) s
    s.position .vshift = some 1500
      ∧ (t.lens.vshift.motion.map fun m => (m.phase, m.duty, m.legEnd, m.sense))
          = some (.overshoot, .full, some 2160, .positive) := by
  decide
/-- 05, jogging with a reversal, time 0. -/
theorem test_lnJog_starts :
    let t := after (.lnJog [1, 1]) inRun
    reply t = some (.ok, [1, 0, 0xFF, 1, 250, 0])
      ∧ (t.lens.hshift.motion.map fun m => (m.phase, m.job)) = some (.jogCreep, .jog true 250000) := by decide
/-- 05, jogging with a reversal, 500 ms. -/
theorem test_lnJog_reverses :
    let t := after (.lnJog [1, 0]) (at' 500000 (running .hshift (motion (.jog true 700000) .jogCreep) inRun))
    t.mq.entries = [⟨.hshift, .jog false 750000⟩]
      ∧ (t.lens.hshift.motion.bind (·.brake)) = some ⟨.retargeted, 500000⟩
      ∧ reply t = some (.ok, [1, 2, 4, 0, 250, 0]) := by decide
/-- 05, a blocked head: an LN_STOP of VSHIFT after step 2 lets FOCUS dispatch. -/
theorem test_lnStop_unblocks :
    let t := after (.lnStop [0]) (hshiftRuns.mapMq fun q => { q with entries := [⟨.vshift, .move 1800⟩, ⟨.focus,
        .move 2200⟩] })
    t.mq.entries = [] ∧ t.unitsHeld = 3 ∧ t.moving .focus = true ∧ reply t = some (.ok, [1, 0]) := by decide
theorem test_lnLearn_starts :
    let t := after (.lnLearn [3]) inRun
    reply t = some (.ok, [1]) ∧ (t.lens.focus.motion.map (·.phase)) = some .learnNeg ∧ t.lens.focus.state = .moving := by
  decide
theorem test_lnSetRange_span : reply (after (.lnSetRange [2, 0xE8, 3, 0xCF, 7]) bare) = some (.badValue, [])
    ∧ (after (.lnSetRange [2, 0xE8, 3, 0xD0, 7]) bare).lens.zoom = ⟨.idle, some ⟨1000, 2000⟩, none, none⟩ := by decide
theorem test_lnQuery_axis : (reply (after (.lnQuery [2]) inRun)).map (·.2.take 11)
    = some [2, 1, 7, 24, 0, 0xE8, 15, 0, 8, 0xD0, 7] := by
  decide

/-! ## Geometry requests -/

theorem test_gmSet_clamps :
    let t := after (.gmSet [0, 0, 0x1D, 2, 0, 0, 0, 0, 0xC1, 3, 5, 0]) bare
    t.ge.active = ⟨0, 540, 0, 0, 960, 5⟩ ∧ (reply t).map (·.1) = some .clamped ∧ t.setup.modified = true
      ∧ stagedCode t.ge.staged = 1 := by decide
/-- 08, clamps across a raster change, step 1. -/
theorem test_gmNudge_example :
    let s := bare.mapGe fun g => { g with raster := ⟨1920, 1080⟩, active := ⟨0, 0, 0, 0, 100, 100⟩ }
    let t := after (.gmNudge [0, 0, 0, 0, 0, 0, 0, 0, 0x90, 1, 0x6A, 0xFF]) s
    t.ge.active = ⟨0, 0, 0, 0, 480, 0⟩ ∧ (reply t).map (·.1) = some .clamped := by decide
/-- 08, clamps across a raster change, step 2. -/
theorem test_gmRaster_example :
    let s := bare.mapGe fun g => { g with raster := ⟨1920, 1080⟩, active := ⟨0, 0, 0, 0, 480, 0⟩ }
    let t := after (.gmRaster [0x14, 5, 0xBC, 2]) s
    t.ge.raster = ⟨1296, 720⟩ ∧ t.ge.active = ⟨0, 0, 0, 0, 324, 0⟩ ∧ t.setup.modified = false
      ∧ reply t = some (.clamped, [0x10, 5, 0xD0, 2, 0, 0, 0, 0, 0, 0, 0, 0, 0x44, 1, 0, 0, 1]) := by decide +kernel
theorem test_gmOrient_checks : reply (after (.gmOrient [1]) bare) = some (.ok, [2, 1])
    ∧ reply (after (.gmOrient [1]) hshiftRuns) = some (.inMotion, [])
    ∧ reply (after (.gmOrient [4]) bare) = some (.badValue, []) := by
  decide
theorem test_gmQuery_reset : (reply (after (.gmQuery []) bare)).map (fun r => (r.2.drop 12).take 10)
    = some [0, 15, 0x70, 8, 0x1C, 2, 0xC0, 3, 2, 3] := by decide

/-! ## Cooling, focus and scanner requests -/

theorem test_thQuiet_cuts :
    let s := inRun.mapCc fun c => { c with fans := .make fun _ => { resetFan with duty := 75, target := 80 } }
    let t := after (.thQuiet [4]) s
    reply t = some (.clamped, [1, 3, 45, 50, 55]) ∧ (t.cc.fans.f0.duty, t.cc.fans.f2.target) = (45, 55) := by decide
theorem test_thCurve_rises :
    reply (after (.thCurve [0, 1, 0, 5, 2, 0, 6, 3, 0, 7, 4, 0, 8, 5, 0, 9, 6, 0, 200]) bare) = some (.clamped, [])
    ∧ reply (after (.thCurve [0, 1, 0, 5, 2, 0, 6, 3, 0, 7, 4, 0, 8, 4, 0, 9, 6, 0, 20]) bare)
        = some (.badValue, []) := by
  decide
/-- R115, R116, R137: before the next evaluation no new curve, mask or orientation moves the targets of an entry to
COOLDOWN (log 39). -/
theorem test_inputs_wait :
    let s := inRun.mapCc fun c => { c with seen := c.seen.set .s0 (some 500) }
    let target (s : State) := (after (.mdDown []) (after .responseFormed s)).cc.fans.f1.target
    let steep : Payload := [1, 1, 0, 95, 2, 0, 96, 3, 0, 97, 4, 0, 98, 5, 0, 99, 6, 0, 100]
    target s = 70 ∧ target (after (.thCurve steep) s) = 70 ∧ target (after (.thMask [1, 1, 0]) s) = 70
      ∧ (after (.thCurve steep) s).cc.curves.f1.p0.duty = 95 := by decide
theorem test_thMask_class : (after (.thMask [1, 1, 0x0F]) bare).cc.masks.f1 = ⟨0b01000011, 0x0F⟩
    ∧ reply (after (.thMask [1, 2, 0x0F]) bare) = some (.badValue, []) := by decide
theorem test_thLimits_clamped : reply (after (.thLimits [7, 0xFF, 0xFF, 10, 0, 0x40, 6]) bare)
    = some (.clamped, [0, 0, 10, 0, 0xDC, 5]) := by decide
theorem test_thQuery_summary : (reply (after (.thQuery [3]) bare)).map (·.2.take 12)
    = some [1, 80, 85, 85, 100, 1, 0x8A, 2, 0xD0, 2, 0x20, 3] := by decide
theorem test_fcTable_clamps : (after (.fcTable [0x37, 0xFF, 0xC9, 0, 0, 0, 1, 0, 2, 0]) bare).fc.table = ⟨-200, 200, 0,
    1, 2⟩ := by
  decide
theorem test_fcEnable_off : (after (.fcEnable [0]) (bare.mapFc fun f => { f with comp := -44 })).fc.comp = 0
    ∧ (after (.fcEnable [0]) bare).setup.modified = true
    ∧ (after (.fcEnable [1]) bare).setup.modified = false := by decide
theorem test_fcReference_valid :
    let t := after (.fcReference []) ((warm .s3 412 bare).mapFc fun f => { f with comp := -44, applied := -44 })
    t.setup.tref = some 412 ∧ t.fc.comp = 0 ∧ t.fc.applied = -44 := by decide
theorem test_fcReference_invalid :
    let t := after (.fcReference []) (bare.mapFc fun f => { f with comp := -44, applied := -44 })
    t.setup.tref = none ∧ t.fc.comp = 0 ∧ t.fc.applied = 0 := by decide
theorem test_snQuery_scan : (reply (after (.snQuery [9]) bare)).map (·.2.drop 20)
    = some [0, 0, 0, 0, 1, 0, 0] := by decide

/-! ## Modes and alerts -/

theorem test_mdWake_starts : reply (after (.mdWake []) bare) = some (.ok, [1])
    ∧ (after (.mdWake []) bare).mc.fanCheck = some 5000000
    ∧ reply (after (.mdWake []) inRun) = some (.wrongMode, []) := by
  decide
/-- 10, power-down with a park, time 0. -/
theorem test_mdDown_parks :
    let flat : Placement := ⟨[], ⟨some 2000, some 2000, some 1500, some 4000⟩, none, 1, true⟩
    let s := (withSlot 2 flat (running .zoom (motion (.move 3000) .drive) inRun)).mapPt fun t => { t with park := some 2 }
    let t := after (.mdDown []) s
    t.mc.mode = .cooldown ∧ t.mc.lightPermit = false ∧ t.mq.entries.map (·.axis) = [.vshift, .hshift, .zoom, .focus]
      ∧ (t.lens.zoom.motion.map (·.phase)) = some .brake ∧ t.unitsHeld = 2 ∧ reply t = some (.ok, [3, 0b1111]) := by
  decide
/-- 10, trip and clear. -/
theorem test_mdClearTrip_temperature : reply (after (.mdClearTrip []) (warm .s0 720 (inMode .trip bare)))
    = some (.wrongMode, [])
    ∧ reply (after (.mdClearTrip []) (warm .s0 699 (inMode .trip bare))) = some (.ok, [3]) := by decide
theorem test_mdSoftReset_trip :
    let t := after (.mdSoftReset []) (inMode .trip bare)
    t.mc.mode = .trip ∧ t.au = ⟨0x100, 0x100, 0x100, 0⟩ := by decide
theorem test_mdQuery_reset : reply (after (.mdQuery []) bare)
    = some (.ok, [0, 0xFF, 0, 0, 0, 0, 0, 0, 0, 0, 100, 0, 0, 0, 0, 0]) := by decide
theorem test_alRead_marks : (after (.alRead []) (bare.mapAu fun a => { a with set := 0x209 })).au.read =
    0x209 := by decide
/-- 11, read and acknowledge, step 6: MOTION_END is kept, GEOMETRY_LIVE and DERATE are cleared. -/
theorem test_alAck_example :
    let t := after (.alAck [0x49, 0]) (bare.mapAu fun _ => ⟨0x49, 0x109, 0x09, 0x48⟩)
    t.au = ⟨0x01, 0x109, 0x01, 0⟩ ∧ reply t = some (.ok, [0x48, 0, 1, 0]) := by decide
theorem test_alEnable_disarms :
    let t := after (.alEnable [2, 0]) (bare.mapAu fun _ => ⟨0x03, 0x101, 0x01, 0⟩)
    t.au = ⟨0x03, 0x102, 0, 0⟩ ∧ reply (after (.alEnable [0, 8]) bare) = some (.badValue, []) := by decide

/-! ## The command link (11, a request while another executes) -/

/-- A GM_SET executes. -/
def executes : State := bare.mapCl fun _ => executing ⟨.ok, [7]⟩

theorem test_unknownRequest : reply (after (.unknownRequest 0x99 []) bare) = some (.badRequest, []) := by decide
theorem test_frame_lost : (after (.gmQuery []) executes).cl.slot = .pending ⟨true, .ok, [7]⟩ := by decide
theorem test_frameOverrun : (after .frameOverrun executes).cl.slot = .pending ⟨true, .ok, [7]⟩ := by decide
theorem test_frameDiscarded : (after .frameDiscarded executes).cl = executes.cl := by decide
theorem test_responseFormed : (after .responseFormed executes).cl = ⟨.idle, .full ⟨false, .ok, [7]⟩, none⟩ := by decide
/-- What CMD_DO does during the first byte and the five after it, in a transaction with this first byte. -/
def onCmdDo (first : Byte) (s : State) : List DataOut :=
  s.commandOut .firstByte :: [1, 2, 3, 4, 5].map fun n => s.commandOut (.later first n)

/-- 11, a request while another executes: the answers of steps 2, 5 and 7, each followed by hex 00 (R172, R176). -/
theorem test_fetch_answers : onCmdDo 0 (after .fetch executes) = [0, 0x7F, 0, 0, 0, 0].map .sends
    ∧ onCmdDo 0 (after .fetch bare) = [0, 0x7E, 0, 0, 0, 0].map .sends
    ∧ onCmdDo 0 (after .fetch (bare.mapCl fun c => { c with slot := .full ⟨true, .ok, [7]⟩ }))
      = [0, 0x80, 1, 7, 0, 0].map .sends := by decide
/-- R172: hex 00 on every byte of a request frame; high impedance outside a transaction and in power-on reset. -/
theorem test_cmdDo : onCmdDo 0x50 (after .fetch bare) = [0, 0, 0, 0, 0, 0].map .sends
    ∧ bare.commandOut .released = .highImpedance
    ∧ (after .powerOnReset bare).commandOut (.later 0 1) = .highImpedance := by decide
/-- R85: HSHIFT's brake ends between the request and its response, and the response says that the entry was
dispatched. -/
theorem test_dispatched_when_formed :
    let s := at' 50000 (running .hshift { motion (.move 9) .brake with brake := some ⟨.retargeted, 0⟩ } inRun)
    let t := after (.lnMove [1, 0x08, 7]) s
    reply t = some (.ok, [0x08, 7, 0, 0xFF, 0])
      ∧ (after .responseFormed t).cl.slot = .full ⟨false, .ok, [0x08, 7, 0, 0xFF, 0]⟩
      ∧ (after .responseFormed (after (.brakeEnd .hshift) t)).cl.slot = .full ⟨false, .ok, [0x08, 7, 0, 0xFF, 1]⟩ := by
  decide
theorem test_responseFetched :
    (after .responseFetched (bare.mapCl fun c => { c with
        slot := .full ⟨true, .ok, [7]⟩, fetch := some (.response ⟨true, .ok, [7]⟩) })).cl.slot
      = .empty := by decide

/-! ## Reset, lookup port and band table -/

theorem test_powerOnReset : (after .powerOnReset inRun).held = true
    ∧ (after .powerOnReset inRun).mc.mode = .standby := by decide
theorem test_powerOnResetEnd : (after .powerOnResetEnd (at' 7 { bare with held := true })).scan.nextSlow
    = some 1000007 := by
  decide

/-- The lookup port in a state at a cursor. -/
def lookup (st : LookupState) (c : Fin 65) : State := bare.mapLp fun _ => ⟨st, c, none, 0⟩

theorem test_lookup_start : (after .lookupTransactionStart bare).lp.state = .index := by decide
theorem test_lookup_index : (after (.lookupIndex 62) (lookup .index 0)).lp.cursor = 62
    ∧ (after (.lookupIndex 65) (lookup .index 3)).lp = ⟨.void, 3, none, 0⟩ := by decide
/-- 09, a read that spans a swap: band 63 is followed by the frame record, and that by band 0. -/
theorem test_lookup_advances : (after .recordComplete (lookup .record 63)).lp.cursor = 64
    ∧ (after .recordComplete (lookup .record 64)).lp.cursor = 0 := by decide
/-- R158 and 09, a read that spans a swap: LK_DO in each state. -/
theorem test_lkDo : bare.lookupOut 0 = .highImpedance ∧ (lookup .index 0).lookupOut 0 = .sends 0
    ∧ (lookup .void 0).lookupOut 9 = .sends 0
    ∧ [0, 1, 3].map (bare.mapLp fun _ => ⟨.record, 64, some [0, 3, 0, 15], 0⟩).lookupOut = [0, 3, 15].map .sends := by
  decide
theorem test_lookup_end : (after .lookupTransactionEnd (lookup .record 5)).lp = ⟨.idle, 5, none, 0⟩ := by decide

/-- A READY table waits at generation 41 with timing PRESENT. -/
def ready : State := bare.mapGe fun g => { g with generation := 41, staged := .ready g.live, timing := .present 100000 }

theorem test_frameStart_swaps : (after .frameStart ready).ge.generation = 42
    ∧ (after .frameStart ready).ge.staged = .empty
    ∧ (after .frameStart ready).au.set = 8 := by decide
theorem test_timing_lost : (after .timingTimerExpiry (at' 100000 ready)).au.set = 0x408
    ∧ (after .timingTimerExpiry (at' 100000 ready)).ge.generation = 42
    ∧ (after .timingTimerExpiry (at' 99999 ready)).ge.timing = .present 100000 := by
  decide
theorem test_computeComplete_waits :
    stagedCode (after .computeComplete (ready.mapGe fun g => { g with staged := .computing resetInputs })).ge.staged =
        2 := by decide

/-! ## The scanner -/

theorem test_slowConversionDue : (after .slowConversionDue (at' 1000000 bare)).scan.converting = some ⟨.slow .s0, 1000000⟩
    ∧ (after .slowConversionDue (at' 1000000 bare)).scan.nextSlow = some 2000000 := by decide
/-- 03, a loose intake connector: conversions 2 and 9. -/
theorem test_slowConversionEnd_faults :
    let s := converting (.slow .s5) (bare.mapScan fun c => { c with therms := c.therms.set .s5 ⟨.valid, [3136, 3136,
        3136, 3136], true, some 220, some 4095, 9⟩ })
    (after (.slowConversionEnd 4095) s).scan.therms.s5 = ⟨.faulted, [], false, none, some 4095, 0⟩
      ∧ (after (.slowConversionEnd 4095) s).au.set = 0x20 := by decide
theorem test_slowConversionEnd_recovers :
    let s := converting (.slow .s5) (bare.mapScan fun c => { c with therms := c.therms.set .s5 ⟨.faulted, [3136, 3137,
        3136], false, none, some 3136, 3⟩ })
    (after (.slowConversionEnd 3139) s).scan.therms.s5 = ⟨.valid, [3136, 3137, 3136, 3139], false, some 219, some 3139,
        4⟩ := by
  decide
theorem test_fastBurstDue : (after .fastBurstDue (inRun.mapScan fun c => { c with nextBurst := some 0 })).scan.burstLeft = 4 := by
  decide
theorem test_fastTrigger : (after .fastTrigger hshiftRuns).scan.converting = some ⟨.fast (.pot .vshift), 0⟩ := by decide
/-- 04, a sag in the motor supply. -/
theorem test_fastConversionEnd_pauses :
    let s := converting (.fast .supply) hshiftRuns
    ((after (.fastConversionEnd 2680) s).lens.hshift.motion.map fun m => (m.phase, m.pause))
        = some (.paused, some ⟨.drive, 10, none⟩)
      ∧ ((after (.fastConversionEnd 2681) s).lens.hshift.motion.map (·.phase)) = some .drive := by decide

/-! ## The timers of the lens -/

/-- HSHIFT runs a motion at a time. -/
def hshift (t : Time) (m : Motion) : State := at' t (running .hshift m inRun)

theorem test_settleWaitExpiry :
    let m := { motion (.move 3000) .settle with settle := some ⟨0, true, 0⟩ }
    ((after (.settleWaitExpiry .hshift) (hshift 30000 m)).lens.hshift.motion.bind (·.settle)) = some ⟨0, false, 0⟩
      ∧ ((after (.settleWaitExpiry .hshift) (hshift 29999 m)).lens.hshift.motion.bind (·.settle))
          = some ⟨0, true, 0⟩ := by
  decide
theorem test_moveTimeout : (after (.moveTimeout .hshift) (hshift 15000000 (motion (.move 3000) .drive))).lens.hshift.state = .fault := by
  decide
/-- 05, jogging with a reversal, 950 ms: the base target becomes the position at the end. -/
theorem test_brakeEnd_jog :
    let t := after (.brakeEnd .hshift) (hshift 950000 { motion (.jog false 900000) .brake with brake := some ⟨.jogEnd,
        900000⟩ })
    t.lens.hshift.state = .idle ∧ t.setup.base.hshift = some 2000 ∧ t.unitsHeld = 0 := by decide
theorem test_resumeTimerExpiry :
    let m := { motion (.move 3000) .paused with legEnd := some 3000, sense := .positive, pause := some ⟨.drive, 0,
        some 5⟩ }
    ((after (.resumeTimerExpiry .hshift) (hshift 100005 m)).lens.hshift.motion.map fun m => (m.phase,
        m.driveStart)) = some (.drive, 100005) := by
  decide
theorem test_pauseExpiry :
    let m := { motion (.move 3000) .paused with pause := some ⟨.drive, 0, none⟩ }
    ((after (.pauseExpiry .hshift) (hshift 2000000 m)).lens.hshift.lastEnd.map (·.status)) = some .supplyLow := by decide
theorem test_jogStageChange :
    ((after (.jogStageChange .hshift) (hshift 600000 (motion (.jog true 900000) .jogCreep))).lens.hshift.motion.map fun m => (m.phase, m.duty))
      = some (.jogSlow, .slow) := by decide
theorem test_jogDeadline :
    ((after (.jogDeadline .hshift) (hshift 900000 (motion (.jog true 900000) .jogCreep))).lens.hshift.motion.bind (·.brake))
      = some ⟨.jogEnd, 900000⟩ := by decide
theorem test_pendingJogExpiry :
    (after (.pendingJogExpiry .hshift) (at' 5 (inRun.mapMq fun q => { q with entries := [⟨.hshift,
        .jog true 5⟩] }))).mq.entries = [] := by
  decide
theorem test_learnLegTimeout :
    let t := after (.learnLegTimeout .hshift) (hshift 20000000 (motion .learn .learnPos))
    t.lens.hshift.state = .uncalibrated ∧ t.lens.hshift.cal = none := by decide

/-! ## Fans and the timers of the modes -/

theorem test_fanUpdate_slews :
    let s := at' 500000 (inRun.mapCc fun c => { c with fans := .make fun _ => { resetFan with
        duty := 98, target := 96 } })
    (after .fanUpdate s).cc.fans.f2.duty = 97 := by decide
theorem test_tachPulse_stops : (after (.tachPulse .f1) (bare.mapCc fun c => { c with fans := .make fun _ => { resetFan with pulses := 255 } })).cc.fans.f1.pulses
    = 255 := by decide
/-- 07, a seized intake fan: window 3. -/
theorem test_tachWindowClose_faults :
    let fan (d p l : Nat) : FanRecord := { resetFan with duty := d, target := d, pulses := p, low := l, dipped := false }
    let s := at' 1000000 (inRun.mapCc fun c => { c with fans := ⟨fan 50 4 2, fan 55 30 0, fan 60 30 0⟩ })
    let t := after .tachWindowClose s
    t.cc.fans.f0.faulted = true ∧ t.cc.fans.f0.target = 50 ∧ t.cc.fans.f1.duty = 100 ∧ t.cc.light = 60
        ∧ t.au.set = 0x50 := by
  decide
theorem test_fanCheckExpiry_runs :
    let s := (at' 5000000 (inMode .starting bare)).mapCc fun c => { c with fans := .make fun _ => { resetFan with duty := 60, target := 60, pulses := 20 } }
    let t := after .fanCheckExpiry (s.mapMc fun c => { c with fanCheck := some 5000000 })
    t.mc.mode = .run ∧ t.mc.lightPermit = true ∧ t.mc.fanCheck = none := by decide
theorem test_cooldownTimerExpiry_ends :
    let s := (at' 240000000 (inMode .cooldown bare)).mapMc fun c => { c with cooldown := some 240000000 }
    (after .cooldownTimerExpiry s).mc.mode = .standby := by decide

/-! ## Witnesses: the hypotheses of every statement are met -/

/-- A lens in motion, with an entry waiting, a placement stored, and a command in front. -/
def busy : State :=
  ((withSlot 0 scope hshiftRuns).mapMq fun q => { q with entries := [⟨.vshift, .move 1800⟩] }).withPending [.lnMove [3,
      8, 7]]

theorem witness_StepRunsFrontCommand : bare.pending = [] := rfl
theorem witness_ExecKeepsQueueAndClock : exec .fetch busy = .next (after .fetch busy) := rfl
theorem witness_FramesRoundTrip :
    (∃ bytes, (Instr.lnMove [0, 1, 2]).WellFormed = true ∧ frameOf (.lnMove [0, 1, 2]) = some (0x28, [0, 1, 2])
      ∧ [0, 1, 2].length ≤ 48 ∧ encodeFrame (.lnMove [0, 1, 2]) = some bytes)
    ∧ ∃ bytes, (Instr.unknownRequest 0xFF (List.replicate 48 0)).WellFormed = true
      ∧ (List.replicate 48 (0 : Byte)).length ≤ 48
      ∧ encodeFrame (.unknownRequest 0xFF (List.replicate 48 0)) = some bytes :=
  ⟨⟨_, rfl, rfl, by decide, rfl⟩, ⟨_, by decide, by decide, rfl⟩⟩
theorem witness_PowerOnResetAndItsEnd : ({ bare with held := true } : State).held = true := rfl
theorem witness_HeldPartIgnoresCommands : ({ bare with held := true } : State).held = true
    ∧ Instr.fetch ≠ .powerOnReset ∧ Instr.fetch ≠ .powerOnResetEnd := by decide

theorem witness_Kept_step : step busy = .next (after (.lnMove [3, 8, 7]) (busy.withPending [])) := rfl
theorem witness_LinesKept : busy.LineLaw := ⟨rfl, rfl, by decide, by decide⟩
theorem witness_BudgetKept : busy.BudgetLaw := ⟨by decide, by decide⟩
theorem witness_QueueKept : busy.QueueLaw := by unfold State.QueueLaw; decide
theorem witness_RestKept : busy.RestLaw := .inl rfl
theorem witness_RestKept_outside : bare.RestLaw := .inr (.inr rfl)
theorem witness_AxesKept : busy.AxisLaw := fun ax => by
  cases ax <;> exact ⟨by decide, fun m h => by cases h <;> decide⟩
theorem witness_ScannerKept : busy.FastLaw ∧ busy.ConverterLaw := ⟨⟨by decide, by decide⟩, fun _ => rfl⟩
theorem witness_AlertsKept : (after .frameStart ready).AlertLaw := ⟨by decide, by decide, by decide⟩
theorem witness_AlertsKept_occurs : ready.AlertLaw ∧ exec .frameStart ready = .next (after .frameStart ready)
    ∧ ready.au.set.getLsbD (flagNumber .geometryLive) = false
    ∧ (after .frameStart ready).au.set.getLsbD (flagNumber .geometryLive) = true
    ∧ flagNumber .timingLost < 11 := ⟨⟨by decide, by decide, by decide⟩, rfl, by decide, by decide, by decide⟩
theorem witness_LinkKept : executes.LinkLaw := ⟨fun _ => ⟨_, rfl⟩, fun _ => rfl⟩
theorem witness_RecallKept : (busy.mapSetup fun a =>
    { a with recallState := .moving, pendingGeometry := some ⟨0, 0, 0, 0, 0, 0⟩
             current := some ⟨0, 1, .make fun _ => .waiting, false, none⟩ }).RecallLaw := ⟨fun _ => rfl, by decide⟩
theorem witness_PlacementsKept : (busy.mapSetup fun a => { a with source := some 0 }).PlacementLaw := by
  have h : ∀ i : Fin 24, slotAt busy.pt i = none ∨ slotAt busy.pt i = some scope := by decide
  refine ⟨fun i r hr => ?_, by decide, fun i hi => (nomatch hi), fun i hi => by cases hi; rfl⟩
  rcases h i with hn | hs
  · exact nomatch hn.symm.trans hr
  · cases hs.symm.trans hr
    exact ⟨by decide, by decide, fun ax t ht => by cases ax <;> cases ht <;> decide⟩
theorem witness_BanksKept : busy.GeometryLaw ∧ busy.BankLaw := by
  have h : ∀ i : Fin 64, (busy.ge.live.bands[i]).kind = .empty := by decide
  exact ⟨⟨⟨⟨by decide, by decide, by decide, by decide, by decide⟩,
    ⟨by decide, by decide, by decide, by decide, by decide, by decide⟩⟩, fun _ hi => (nomatch hi)⟩, fun i => .inl (h i),
    fun _ ht => (nomatch ht)⟩
theorem witness_ScannerKept_rings : (warm .s0 416 bare).RingLaw := fun sn => by cases sn <;> decide
theorem witness_PlacementsKept_focus : (busy.mapSetup fun a => { a with base := ⟨some 4000, none, none, some 0⟩ }).FocusLaw :=
  ⟨by decide, by decide, by decide, by decide, by decide, fun _ h => (nomatch h),
    fun ax n h => by cases ax <;> cases h <;> decide⟩
theorem witness_CapsKept_tables : busy.TableLaw :=
  ⟨fun sn => by cases sn <;> decide, fun fan => by cases fan <;> exact ⟨⟨by decide, by decide⟩, ⟨by decide, by decide⟩⟩⟩
theorem witness_CapsKept : busy.CapLaw := fun _ fan => .inr (by cases fan <;> decide)
theorem witness_RecordsWithinLimits :
    (⟨⟨180, 180, 320, 320, 320, 320⟩, ⟨1280, 720⟩, .floorFront⟩ : Inputs).Sound
    ∧ (⟨⟨600, 600, 1024, 1024, 1024, 1024⟩, ⟨4096, 2400⟩, .ceilingRear⟩ : Inputs).Sound ∧ 0 < 64 ∧ 63 < 64 :=
  ⟨⟨⟨by decide, by decide, by decide, by decide, by decide⟩, ⟨by decide, by decide, by decide, by decide, by decide,
      by decide⟩⟩,
    ⟨⟨by decide, by decide, by decide, by decide, by decide⟩, ⟨by decide, by decide, by decide, by decide, by decide,
        by decide⟩⟩,
    by decide, by decide⟩
theorem witness_TemperatureOfReadings : 15 < 16 ∧ (0 ≤ 4095 ∧ 4095 < 4096) ∧ (41 ≤ 41 ∧ 41 ≤ 4054) ∧ 41 ≤ 4054
    ∧ 4054 ≤ 4054 := by
  decide

/-! ### Requests -/

/-- The conditions on a record frame that R7 checks first. -/
abbrev Fits (p : Payload) : Prop := p.length ≤ 48 ∧ 5 ≤ p.length ∧ p.length = recordLength p ∧ recordOk p = true

/-- Every slot READY but the last. -/
def nearlyFull : State := bare.mapPt fun t => { t with slots := (Vector.replicate 24 (some (blank 0))).set 23 none }

/-- Every slot READY. -/
def full : State := bare.mapPt fun t => { t with slots := Vector.replicate 24 (some (blank 0)) }

theorem witness_CreateStores :
    (bare.Ready ∧ Fits (scopeFrame 1) ∧ bare.pt.slots[(0 : Fin 24)] = none ∧ u8 (scopeFrame 1) 0 = (0 : Fin 24).val + 1)
    ∧ (nearlyFull.Ready ∧ Fits (scopeFrame 0) ∧ nearlyFull.pt.slots[(23 : Fin 24)] = none ∧ u8 (scopeFrame 0) 0 = 0
      ∧ ∀ j < (23 : Fin 24), nearlyFull.pt.slots[j] ≠ none)
    ∧ (full.Ready ∧ Fits (scopeFrame 24) ∧ full.pt.slots[(23 : Fin 24)] ≠ none
    ∧ u8 (scopeFrame 24) 0 = (23 : Fin 24).val + 1)
    ∧ ((∀ j : Fin 24, full.pt.slots[j] ≠ none) ∧ u8 (scopeFrame 0) 0 = 0) :=
  ⟨⟨⟨rfl, rfl⟩, by decide, by decide, by decide⟩, ⟨⟨rfl, rfl⟩, by decide, by decide, by decide, by decide⟩,
    ⟨⟨rfl, rfl⟩, by decide, by decide, by decide⟩, by decide, by decide⟩
theorem witness_WriteReplaces :
    (full.Ready ∧ Fits (scopeFrame 24) ∧ full.pt.slots[(23 : Fin 24)] ≠ none
        ∧ u8 (scopeFrame 24) 0 = (23 : Fin 24).val + 1)
    ∧ (bare.Ready ∧ Fits (scopeFrame 1) ∧ bare.pt.slots[(0 : Fin 24)] = none ∧ u8 (scopeFrame 1) 0 = (0 : Fin 24).val + 1)
    ∧ (Fits (scopeFrame 0) ∧ u8 (scopeFrame 0) 0 = 0) ∧ (Fits (scopeFrame 25) ∧ 24 < u8 (scopeFrame 25) 0) :=
  ⟨⟨⟨rfl, rfl⟩, by decide, by decide, by decide⟩, ⟨⟨rfl, rfl⟩, by decide, by decide, by decide⟩, by decide, by decide⟩
theorem witness_ReadReturnsRecord :
    (full.Ready ∧ full.pt.slots[(23 : Fin 24)] = some (blank 0)) ∧ (bare.Ready ∧ bare.pt.slots[(0 : Fin 24)] = none)
    ∧ (5 ≤ (scopeFrame 1).length ∧ (scopeFrame 1).length = recordLength (scopeFrame 1) ∧ recordOk (scopeFrame 1) = true
      ∧ recordClamped ⟨3840, 2160⟩ (scopeFrame 1) = false) :=
  ⟨⟨⟨rfl, rfl⟩, by decide⟩, ⟨⟨rfl, rfl⟩, by decide⟩, by decide⟩
theorem witness_ListReturnsWhatFits : eight.Ready ∧ (1 ≤ 1 ∧ 1 ≤ 24) ∧ 1 ≤ 24 ∧ 24 ≤ 24 := ⟨⟨rfl, rfl⟩, by decide⟩
theorem witness_RetireAndPark : (full.Ready ∧ full.pt.slots[(23 : Fin 24)] ≠ none)
    ∧ (bare.Ready ∧ bare.pt.slots[(0 : Fin 24)] = none) ∧ (25 ≤ 25 ∧ 25 < 256) ∧ 25 ≤ 255 ∧ 255 < 256 :=
  ⟨⟨⟨rfl, rfl⟩, by decide⟩, ⟨⟨rfl, rfl⟩, by decide⟩, by decide⟩
theorem witness_RecallTakesPlacement : let s := withSlot 0 scope inRun
    s.Ready ∧ s.mc.mode = .run ∧ s.pt.slots[(0 : Fin 24)] = some scope
      ∧ ∀ ax, scope.targets.get ax ≠ none → s.countsUncalibrated ax = false ∧ s.countsFaulted ax = false :=
  ⟨⟨rfl, rfl⟩, rfl, by decide, fun ax _ => by cases ax <;> decide⟩
theorem witness_RecallTakesPlacement_kinds : scope.targets.get .vshift = some 2100 ∧ scope.targets.get .hshift = none
    ∧ inRun.entryOf .hshift = none ∧ inRun.mq.entries = [] ∧ inRun.setup.recallState = .none
    ∧ (∀ m, (inRun.lens.get .vshift).motion ≠ some m)
    ∧ (∀ ax, ¬(blank 0).targets.get ax ≠ none) ∧ (blank 0).geometry = none
    ∧ ({ blank 0 with geometry := some ⟨0, 0, 0, 0, 0, 0⟩ } : Placement).geometry = some ⟨0, 0, 0, 0, 0, 0⟩ :=
  ⟨rfl, rfl, rfl, rfl, rfl, fun _ h => (nomatch h), fun ax h => by cases ax <;> exact h rfl, rfl, rfl⟩
theorem witness_RecallTakesPlacement_runs :
    let s (p : Phase) := withSlot 0 scope (running .vshift (motion (.move 9) p) inRun)
    (s .drive).Ready ∧ (s .drive).mc.mode = .run ∧ (s .drive).pt.slots[(0 : Fin 24)] = some scope
    ∧ (∀ ax, (s .drive).countsUncalibrated ax = false ∧ (s .drive).countsFaulted ax = false)
    ∧ ((s .drive).lens.get .vshift).motion = some (motion (.move 9) .drive) ∧ driveOn .drive = true
    ∧ ((s .brake).lens.get .vshift).motion = some (motion (.move 9) .brake)
    ∧ ((s .settle).lens.get .vshift).motion = some (motion (.move 9) .settle) :=
  ⟨⟨rfl, rfl⟩, rfl, by decide, fun ax => by cases ax <;> decide, by decide⟩
theorem witness_RecallTakesPlacement_ended :
    let s := withSlot 0 scope (running .vshift (motion (.move 9) .settle) inRun)
    let t := after (.plRecall [1]) s
    s.entryOf .vshift = none ∧ t.moving .vshift = true ∧ (s.mapMq fun q => { q with budget := 0 }).entryOf .vshift = none
    ∧ (after (.plRecall [1]) (s.mapMq fun q => { q with budget := 0 })).entryOf .vshift ≠ none := by decide +kernel
theorem witness_CaptureStoresSetup :
    inRun.Ready ∧ inRun.mc.mode = .run ∧ inRun.lensAtRest = true
      ∧ (∀ l, (none : Option (List Byte)) = some l → labelOk l = true) ∧ [1] = byte ((0 : Fin 24).val + 1) :: []
      ∧ (∀ l, some (List.replicate 12 (126 : Byte)) = some l → labelOk l = true)
      ∧ 24 :: 12 :: List.replicate 12 126
        = byte ((23 : Fin 24).val + 1) :: (some (List.replicate 12 (126 : Byte))).elim [] (fun l => byte l.length :: l) :=
  ⟨⟨rfl, rfl⟩, rfl, by decide, fun _ h => (nomatch h), by decide, fun l h => by cases h; decide, by decide⟩
theorem witness_CaptureStoresSetup_targets :
    (inRun.lens.get .zoom).cal = some ⟨24, 4072⟩ ∧ inRun.reading .zoom = some 2048
        ∧ inRun.lens.focus.cal = some ⟨24, 4072⟩
      ∧ inRun.reading .focus = some 2048 ∧ ((inMode .run bare).lens.get .zoom).cal = none := by decide
/-- A FOCUS position whose stored value the clamp leaves alone, and one that it changes. -/
theorem witness_CaptureStoresSetup_status :
    let s := inRun.mapFc fun f => { f with applied := 150 }
    let u := s.mapScan fun c => { c with pots := c.pots.set .focus ⟨some 197, 1⟩ }
    s.Ready ∧ s.lens.focus.cal = some ⟨24, 4072⟩ ∧ (normalise ⟨24, 4072⟩ (s.rawNow .focus) : Int) - s.fc.applied = 1850
    ∧ (normalise ⟨24, 4072⟩ (u.rawNow .focus) : Int) - u.fc.applied = -1
    ∧ (reply (after (.plCapture [1]) u)).map (·.1) = some .clamped := ⟨⟨rfl, rfl⟩, by decide +kernel⟩
theorem witness_QueriesReadOnly : busy.Ready ∧ (Instr.rcQuery [], setupBytes busy.setup busy.ge.active, 52) ∈ busy.queries
    ∧ (Instr.lnQuery [4], axes.flatMap (axisRecordBytes busy) ++ queueBytes busy, 136) ∈ busy.queries
    ∧ (Instr.snQuery [7], sensorBytes .s7 busy.scan.therms.s7, 18) ∈ busy.queries :=
  ⟨⟨rfl, rfl⟩, .head _, .tail _ (.tail _ (.tail _ (.head _))),
    List.mem_append_right _ (List.mem_map.2 ⟨.s7, mem_sensors _, rfl⟩)⟩
theorem witness_QueriesReadOnly_fields : (Instr.mdQuery [], modeFields busy) ∈ busy.fields ∧ (10, [100]) ∈ modeFields busy
    ∧ (Instr.lnQuery [4], lensFields busy) ∈ busy.fields ∧ (128, [0]) ∈ lensFields busy
    ∧ (Instr.snQuery [7], sensorFields busy .s7) ∈ busy.fields :=
  ⟨.tail _ (.tail _ (.head _)), by decide, .tail _ (.tail _ (.tail _ (.head _))), by decide,
    List.mem_append_right _ (List.mem_map.2 ⟨.s7, mem_sensors _, rfl⟩)⟩
theorem witness_MoveQueuesTarget : inRun.Ready ∧ 0 < 65536 ∧ 65535 < 65536 ∧ inRun.mc.mode = .run
    ∧ inRun.countsUncalibrated .vshift = false ∧ inRun.countsFaulted .vshift = false
    ∧ Axis.focus ≠ .vshift ∧ inRun.entryOf .focus = none
    ∧ (hshiftRuns.lens.get .hshift).motion = some (motion (.move 3000) .drive) ∧ driveOn .drive = true :=
  ⟨⟨rfl, rfl⟩, by decide⟩

theorem witness_MoveQueuesTarget_displaced :
    let s (p : Phase) := running .hshift (motion (.move 3000) p) inRun
    (∀ p ∈ [Phase.brake, .settle, .paused], (s p).Ready ∧ (s p).mc.mode = .run
      ∧ (s p).countsUncalibrated .hshift = false ∧ (s p).countsFaulted .hshift = false
      ∧ ((s p).lens.get .hshift).motion = some (motion (.move 3000) p) ∧ (s p).entryOf .hshift = none)
    ∧ (after (.lnMove [1, 8, 7]) (s .settle)).moving .hshift = true
    ∧ (after (.lnMove [1, 8, 7]) ((s .settle).mapMq fun q => { q with budget := 0 })).entryOf .hshift ≠ none := by
  refine ⟨fun p h => ⟨⟨rfl, rfl⟩, ?_⟩, by decide⟩
  simp only [List.mem_cons, List.not_mem_nil, or_false] at h
  rcases h with rfl | rfl | rfl <;> decide
/-- HSHIFT runs a jog up, and a jog waits for ZOOM. -/
def jogging : State :=
  (running .hshift (motion (.jog true 100) .jogCreep) inRun).mapMq fun q => { q with entries := [⟨.zoom, .jog true 100⟩] }

theorem witness_JogRefreshesOrStarts_refresh : jogging.Ready ∧ jogging.mc.mode = .run
    ∧ (jogging.lens.get .hshift).motion = some (motion (.jog true 100) .jogCreep)
    ∧ (motion (.jog true 100) .jogCreep).job = .jog true 100 ∧ (motion (.jog true 100) .jogCreep).phase ≠ .brake :=
  ⟨⟨rfl, rfl⟩, by decide⟩
theorem witness_JogRefreshesOrStarts_entry :
    (∀ m, (jogging.lens.get .zoom).motion = some m → m.phase = .brake ∨ ∀ d', m.job ≠ .jog true d')
    ∧ jogging.entryOf .zoom = some ⟨.zoom, .jog true 100⟩ := ⟨fun _ h => (nomatch h), by decide⟩
theorem witness_JogRefreshesOrStarts_new :
    (∀ m, (jogging.lens.get .focus).motion = some m → m.phase = .brake ∨ ∀ d, m.job ≠ .jog true d)
    ∧ ∀ e, jogging.entryOf .focus = some e → ∀ d, e.job ≠ .jog true d := ⟨fun _ h => (nomatch h), fun _ h => (nomatch h)⟩
/-- A jog down displaces HSHIFT's jog up, and a jog displaces a MOVE in each phase. -/
theorem witness_JogRefreshesOrStarts_displaced :
    let s (p : Phase) := running .hshift (motion (.move 3000) p) inRun
    ((∀ m, (jogging.lens.get .hshift).motion = some m → m.phase = .brake ∨ ∀ d, m.job ≠ .jog false d)
      ∧ jogging.entryOf .hshift = none ∧ jogging.entryOf .focus = none ∧ isJog (motion (.jog true 100) .jogCreep) = true)
    ∧ (∀ p ∈ [Phase.drive, .brake, .settle, .paused],
      ((s p).lens.get .hshift).motion = some (motion (.move 3000) p) ∧ (∀ d, (motion (.move 3000) p).job ≠ .jog true d)
      ∧ (s p).entryOf .hshift = none)
    ∧ (after (.lnJog [1, 1]) (s .settle)).moving .hshift = true
    ∧ (after (.lnJog [1, 1]) ((s .settle).mapMq fun q => { q with budget := 0 })).entryOf .hshift ≠ none := by
  refine ⟨⟨fun m h => ?_, by decide⟩, fun p h => ?_, by decide⟩
  · cases h
    exact .inr fun d h => by cases h
  · simp only [List.mem_cons, List.not_mem_nil, or_false] at h
    rcases h with rfl | rfl | rfl | rfl <;> exact ⟨by decide, fun d h => (nomatch h), by decide⟩
/-- A recall in MOVING that names VSHIFT, where an entry of its tag waits. -/
def recalling : State :=
  (busy.mapMq fun q => { q with entries := [⟨.vshift, .ofRecall 1800 7⟩] }).mapSetup fun a =>
    { a with recallState := .moving, tag := 7, current := some ⟨0, 7, ⟨.waiting, .notNamed, .notNamed, .notNamed⟩, false,
        none⟩ }

theorem witness_StopStopsAxes : busy.Ready ∧ 0 ≤ 4 ∧ 4 ≤ 4 ∧ axisNumber .vshift = 0
    ∧ (busy.lens.get .hshift).motion = some (motion (.move 3000) .drive) ∧ driveOn .drive = true
    ∧ recalling.setup.recallState = .moving ∧ recalling.setup.current.isSome = true := ⟨⟨rfl, rfl⟩, by decide⟩
theorem witness_StopStopsAxes_phases :
    ((running .zoom (motion (.move 9) .brake) inRun).lens.get .zoom).motion = some (motion (.move 9) .brake)
    ∧ ((running .zoom (motion (.move 9) .settle) inRun).lens.get .zoom).motion = some (motion (.move 9) .settle)
    ∧ (motion (.move 9) .brake).phase = .brake ∧ (motion (.move 9) .settle).phase = .settle := by decide
/-- COOLDOWN with thermal done yes. -/
def cooled (s : State) : State := (inMode .cooldown s).mapMc fun c => { c with thermalDone := true }

/-- A stop in COOLDOWN that brings the lens to rest, and two that do not. -/
theorem witness_StopStopsAxes_cooled :
    let s (p : Phase) := cooled (running .zoom (motion (.park 9) p) inRun)
    ((s .settle).Ready ∧ (s .settle).mc.mode = .cooldown ∧ (s .settle).mc.thermalDone = true
      ∧ (∀ ax m, ((s .settle).lens.get ax).motion = some m → (2 = 4 ∨ axisNumber ax = 2) ∧ m.phase = .settle)
      ∧ (s .settle).mq.entries = [])
    ∧ ((s .brake).lens.get .zoom).motion = some (motion (.park 9) .brake) ∧ axisNumber .zoom ≠ 1
    ∧ ∃ e ∈ ((s .settle).mapMq fun q => { q with entries := [⟨.focus, .park 9⟩] }).mq.entries,
        ¬(2 = 4 ∨ axisNumber e.axis = 2) ∧ ∀ up d, e.job ≠ .jog up d := by
  refine ⟨⟨⟨rfl, rfl⟩, rfl, rfl, fun ax m h => ?_, rfl⟩, rfl, by decide, _, List.mem_cons_self, by decide,
    fun _ _ h => (nomatch h)⟩
  cases ax <;> cases h
  exact ⟨.inr rfl, rfl⟩
theorem witness_LearnAndSetRange : (inRun.Ready ∧ inRun.moving .focus = false ∧ inRun.entryOf .focus = none
    ∧ inRun.mc.mode = .run)
    ∧ (busy.Ready ∧ busy.moving .hshift = true ∧ busy.entryOf .vshift ≠ none ∧ busy.mc.mode = .run)
    ∧ ([] : Payload).length ≠ 5 ∧ (0 < 256 ∧ 0 < 65536) ∧ 255 < 256
    ∧ 65535 < 65536 := ⟨⟨⟨rfl, rfl⟩, by decide⟩, ⟨⟨rfl, rfl⟩, by decide⟩, by decide⟩
theorem witness_LensRequestsOutsideRun : bare.Ready ∧ bare.mc.mode ≠ .run
    ∧ Instr.lnLearn [0] ∈ [Instr.lnMove (byte (axisNumber .vshift) :: le16 65535), .lnJog [byte (axisNumber .vshift), 1],
      .lnLearn [byte (axisNumber .vshift)], .plRecall [byte ((23 : Fin 24).val + 1)],
          .plCapture [byte ((0 : Fin 24).val + 1)]] :=
  ⟨⟨rfl, rfl⟩, by decide⟩
theorem witness_GeometrySetAndNudge : bare.Ready ∧ (∀ _ : Fin 6, (0 : Int) ≤ 65535 ∧ (65535 : Int) < 65536)
    ∧ (∀ _ : Fin 6, (-32768 : Int) ≤ -32768 ∧ (-32768 : Int) ≤ 32767)
    ∧ ([] : Payload).length ≠ 12 := ⟨⟨rfl, rfl⟩, by decide⟩
theorem witness_RasterAndOrient : bare.Ready ∧ (0 < 65536 ∧ 65535 < 65536) ∧ bare.lensAtRest = true
    ∧ busy.lensAtRest = false
    ∧ (4 ≤ 4 ∧ 4 < 256) ∧ (4 ≤ 255 ∧ 255 < 256) ∧ ([] : Payload).length ≠ 4 ∧ ([] : Payload).length ≠ 1 :=
  ⟨⟨rfl, rfl⟩, by decide⟩
theorem witness_QuietLevelActs : bare.Ready ∧ 0 < 256 ∧ 255 < 256 := ⟨⟨rfl, rfl⟩, by decide⟩
theorem witness_CoolingTablesStored : bare.Ready ∧ (0 < 256 ∧ 255 < 256)
    ∧ (∀ k : Fin 6, (-32768 : Int) ≤ -32768 + k ∧ (-32768 + k : Int) ≤ 32767) ∧ (∀ _ : Fin 6, 255 < 256)
    ∧ ((-32768 : Int) ≤ -32768 ∧ (-32768 : Int) ≤ 32767) ∧ ((-32768 : Int) ≤ 32767 ∧ (32767 : Int) ≤ 32767)
    ∧ ([] : Payload).length ≠ 19 ∧ ([] : Payload).length ≠ 3 ∧ ([] : Payload).length ≠ 7 := ⟨⟨rfl, rfl⟩, by decide⟩
theorem witness_FocusRequests : bare.Ready ∧ (∀ _ : Fin 5, (-32768 : Int) ≤ 32767 ∧ (32767 : Int) ≤ 32767)
    ∧ (2 ≤ 2 ∧ 2 < 256) ∧ (2 ≤ 255 ∧ 255 < 256) ∧ ([] : Payload).length ≠ 10 ∧ ([] : Payload).length ≠ 1
    ∧ ([0] : Payload).length ≠ 0 := ⟨⟨rfl, rfl⟩, by decide⟩
/-- Fields at both ends of the view. -/
theorem witness_FocusRequests_view : (0, le16s (-20)) ∈ viewFields bare ∧ (24, [6]) ∈ viewFields bare := by decide
theorem witness_WakeStarts : bare.Ready ∧ bare.mc.mode = .standby ∧ (inRun.Ready ∧ inRun.mc.mode ≠ .standby)
    ∧ ([0] : Payload).length ≠ 0 := ⟨⟨rfl, rfl⟩, rfl, ⟨⟨rfl, rfl⟩, by decide⟩, by decide⟩
theorem witness_DownAndClearTripCool :
    (inRun.Ready ∧ (inRun.mc.mode = .run ∨ inRun.mc.mode = .starting))
    ∧ ((inMode .starting bare).Ready ∧ (inMode .starting bare).mc.mode = .starting)
    ∧ ((warm .s0 699 (inMode .trip bare)).Ready ∧ (inMode .trip bare).mc.mode = .trip
    ∧ faultedFans (inMode .trip bare).cc < 2
      ∧ ∀ sn t, (warm .s0 699 (inMode .trip bare)).validTemp sn = some t → t < (bare.cc.limits.get sn).trip - 100) :=
  ⟨⟨⟨rfl, rfl⟩, by decide⟩, ⟨⟨rfl, rfl⟩, rfl⟩, ⟨rfl, rfl⟩, rfl, by decide, fun sn t h => by cases sn <;> cases h; decide⟩
/-- The park slot names VSHIFT, ZOOM and FOCUS, and ZOOM counts as uncalibrated. -/
def parkable : State :=
  ((withSlot 0 scope recalling).mapPt fun t => { t with park := some 0 }).mapAxis .zoom fun r =>
    { r with state := .uncalibrated, cal := none }

theorem witness_DownAndClearTripCool_parks :
    let parks (ax : Axis) : Bool := ((parkTargets parkable.pt).get ax).isSome && (leaveForCooldown true parkable).healthy ax
    parkable.Ready ∧ parks .vshift = true ∧ (parkTargets parkable.pt).get .vshift = some 2100 ∧ parks .hshift = false
      ∧ parks .zoom = false ∧ parks .focus = true ∧ parkable.setup.current.isSome = true := ⟨⟨rfl, rfl⟩, by decide⟩
theorem witness_DownAndClearTripCool_aims :
    let s := inRun.mapCc fun c => { c with seen := c.seen.set .s0 (some 500) }
    inSet (s.cc.used.get .f1).mask .s0 = true ∧ s.cc.seen.get .s0 = some 500 ∧ bare.cc.seen.get .s0 = none := by decide
theorem witness_DownAndClearTripCool_refused :
    (bare.Ready ∧ ¬(bare.mc.mode = .run ∨ bare.mc.mode = .starting) ∧ bare.mc.mode ≠ .trip)
    ∧ (warm .s0 700 (inMode .trip bare)).validTemp .s0 = some 700 ∧ ¬700 < (bare.cc.limits.get .s0).trip - 100 :=
  ⟨⟨⟨rfl, rfl⟩, by decide⟩, by decide⟩
theorem witness_SoftResetLeaves : busy.Ready ∧ (busy.lens.get .hshift).motion = some (motion (.move 3000) .drive)
    ∧ busy.setup.current = none ∧ (recalling.Ready ∧ recalling.setup.current.isSome = true) :=
  ⟨⟨rfl, rfl⟩, by decide, rfl, ⟨rfl, rfl⟩, rfl⟩
theorem witness_SoftResetLeaves_jogs : jogging.Ready
    ∧ (jogging.lens.get .hshift).motion = some (motion (.jog true 100) .jogCreep)
    ∧ (motion (.jog true 100) .jogCreep).job = .jog true 100
    ∧ ((after (.mdSoftReset []) jogging).lens.get .hshift).cal = some ⟨24, 4072⟩
    ∧ (jogging.lens.get .zoom).motion = none ∧ jogging.lens.focus.motion = none := ⟨⟨rfl, rfl⟩, by decide⟩
theorem witness_AlertReadMarks : bare.Ready ∧ ([0] : Payload) ≠ [] := ⟨⟨rfl, rfl⟩, by decide⟩
theorem witness_AlertAckClears : bare.Ready ∧ (0 < 2048 ∧ 2047 < 2048) ∧ 10 < 11 ∧ (2048 ≤ 2048 ∧ 2048 < 65536)
    ∧ (2048 ≤ 65535 ∧ 65535 < 65536) ∧ ([] : Payload).length ≠ 2 := ⟨⟨rfl, rfl⟩, by decide⟩
theorem witness_AlertEnableSets : bare.Ready ∧ bare.au.enable.getLsbD 8 = true := ⟨⟨rfl, rfl⟩, by decide⟩

/-! ### Events -/

theorem witness_FramesTaken : (Instr.fcReference []).WellFormed = true ∧ frameOf (.fcReference []) = some (0x42, [])
    ∧ bare.held = false ∧ bare.cl.exec = .idle
    ∧ ((Instr.unknownRequest 0xFF []).WellFormed = true ∧ frameOf (.unknownRequest 0xFF []) = some (0xFF, [])
    ∧ unknownCode 0xFF = true)
    ∧ executes.cl.exec = .executing ∧ executes.cl.slot = .pending ⟨false, .ok, [7]⟩ := by decide
theorem witness_FetchAnswersSlot : executes.held = false ∧ executes.cl.exec = .executing
    ∧ executes.cl.slot = .pending ⟨false, .ok, [7]⟩ ∧ (0x50 : Byte) ≠ 0 := by decide
theorem witness_FetchAnswersSlot_fetched :
    let s := bare.mapCl fun c => { c with slot := .full ⟨false, .ok, [7]⟩, fetch := some (.response ⟨false, .ok, [7]⟩) }
    s.cl.slot = .full ⟨false, .ok, [7]⟩ ∧ s.cl.fetch = some (.response ⟨false, .ok, [7]⟩) := by decide
theorem witness_LookupTransactions : bare.held = false ∧ bare.lp.state = .idle ∧ (lookup .index 64).lp.state = .index
    ∧ (65 ≤ 65 ∧ 65 < 256) ∧ (65 ≤ 255 ∧ 255 < 256) ∧ (lookup .record 64).lp.state = .record
    ∧ (lookup .void 3).lp.state = .void := by decide
theorem witness_LookupTransactions_output :
    let s := bare.mapLp fun _ => ⟨.record, 64, some (recordAt bare.ge 64), 0⟩
    s.lp = ⟨.record, 64, some (recordAt s.ge 64), 0⟩ ∧ exec .powerOnReset s = .next (after .powerOnReset s) := ⟨rfl, rfl⟩
/-- Fields at both ends of the records of cursors 0, 63 and 64, and a band that is EMPTY. -/
theorem witness_LookupTransactions_records :
    ((0 : Fin 65).val < 64 ∧ (63 : Fin 65).val < 64)
    ∧ (0, [0]) ∈ bandFields bare.ge.generation bare.ge.live.bands[0]
    ∧ (14, le24 0) ∈ bandFields bare.ge.generation bare.ge.live.bands[63]
    ∧ (0, [0]) ∈ frameFields bare.ge ∧ (12, [0]) ∈ frameFields bare.ge
    ∧ (bandOf ⟨⟨40, 20, 0, 0, 0, 0⟩, ⟨1280, 720⟩, .floorFront⟩ 60).kind = .empty := by decide
theorem witness_BandTableEvents : ready.held = false ∧ ready.ge.staged = .ready bare.ge.live ∧ ready.ge.timing ≠ .absent
    ∧ (at' 100000 ready).ge.timing = .present 100000 ∧ 100000 ≤ (at' 100000 ready).now := by decide
theorem witness_BandTableEvents_compute :
    (bare.mapGe fun g => { g with staged := .computing resetInputs }).ge.staged = .computing resetInputs
        ∧ bare.ge.timing = .absent := by
  decide
theorem witness_BandTableEvents_empty : ∀ tb, bare.ge.staged ≠ .ready tb := fun _ h => (nomatch h)
theorem witness_ScannerSchedules : (at' 1000000 bare).scan.nextSlow = some 1000000 ∧ 1000000 ≤ (at' 1000000 bare).now
    ∧ bare.scan.converting = none ∧ bare.scan.burstLeft = 0 ∧ bare.scan.fastMode ≠ .triggered ∧ bare.scan.slowHeld = false
    ∧ hshiftRuns.scan.burstWaiting = false ∧ hshiftRuns.scan.burstLeft = 0
    ∧ hshiftRuns.scan.fastMode = .triggered := by decide
theorem witness_ScannerSchedules_fast : let s := inRun.mapScan fun c => { c with nextBurst := some 0 }
    s.scan.fastMode = .periodic ∧ s.scan.nextBurst = some 0 ∧ 0 ≤ s.now
        ∧ (converting (.fast .supply) s).scan.converting ≠ none := by
  decide
theorem witness_ScannerSchedules_trigger : let s := (at' 200 hshiftRuns).mapScan fun c => { c with lastTrigger := some 0 }
    s.scan.fastMode = .triggered
        ∧ ∀ x, s.scan.lastTrigger = some x → x + 200 ≤ s.now := ⟨rfl, fun _ h => by cases h; decide⟩

/-- S0's conversion ends, its ring holding three readings and its bad mark as given. -/
def s0Ends (st : SensorState) (ring : List Raw) (bad : Bool) : State :=
  converting (.slow .s0) (bare.mapScan fun c => { c with therms := c.therms.set .s0 ⟨st, ring, bad, none, none, 3⟩ })

theorem witness_SlowConversionEnds : (s0Ends .filling [9, 9, 9] false).held = false
    ∧ (s0Ends .filling [9, 9, 9] false).scan.converting = some ⟨.slow .s0, 0⟩
    ∧ 0 + 10 ≤ (s0Ends .filling [9, 9, 9] false).now
    ∧ ((s0Ends .filling [9, 9, 9] false).scan.therms.get .s0).ring.length = 3
    ∧ ((s0Ends .valid [9, 9, 9, 9] true).scan.therms.get .s0).bad = true
    ∧ ((s0Ends .faulted [] false).scan.therms.get .s0).state = .faulted
    ∧ (41 ≤ (41 : Raw).toNat ∧ (41 : Raw).toNat ≤ 4054) ∧ ¬(41 ≤ (40 : Raw).toNat)
    ∧ ¬((4055 : Raw).toNat ≤ 4054) := by decide

/-- The scan state with what waits for the converter: the rest of a burst, a slow conversion, a burst. -/
def waiting (left : Nat) (slow burst : Bool) (s : State) : State :=
  s.mapScan fun c => { c with burstLeft := left, slowHeld := slow, burstWaiting := burst }

theorem witness_SlowConversionEnds_grants :
    (∀ x ∈ [(3, true, false), (0, true, false), (0, false, true), (0, false, false)],
      (waiting x.1 x.2.1 x.2.2 (s0Ends .filling [] false)).held = false
      ∧ (waiting x.1 x.2.1 x.2.2 (s0Ends .filling [] false)).scan.converting = some ⟨.slow .s0, 0⟩)
    ∧ Sensor.s0 ≠ .s7 ∧ (s0Ends .filling [] false).scan.fastMode ≠ .triggered
    ∧ hshiftRuns.scan.fastMode = .triggered := by decide

/-- HSHIFT has settled at 2000 for four samples, and its fifth ends now. -/
def settles : State :=
  converting (.fast (.pot .hshift)) (running .hshift { motion (.move 2000) .settle with settle := some ⟨0, false,
      4⟩ } inRun)

theorem witness_FastConversionEnds : settles.held = false ∧ settles.scan.converting = some ⟨.fast (.pot .hshift), 0⟩
    ∧ 0 + 10 ≤ settles.now ∧ (settles.lens.get .hshift).cal = some ⟨24, 4072⟩ ∧ jobTarget (.move 2000) = some 2000
    ∧ distance (normalise ⟨24, 4072⟩ 2051) 2000 ≤ 3
    ∧ ((settles.lens.get .hshift).motion.map fun m => (m.phase, m.settle)) = some (.settle, some ⟨0, false, 4⟩)
    ∧ inRun.moving .hshift = false := by decide
theorem witness_FastConversionEnds_fates :
    let r (raw : Raw) (m : Motion) := (sampleMotion (some ⟨24, 4072⟩) 10 raw (Config.stallFirst 1 10) m).fate
    let m := { motion (.move 2000) .settle with settle := some ⟨0, false, 4⟩ }
    (settles.lens.get .hshift).motion = some m ∧ r 2051 m = .ends .arrived
      ∧ ∃ m', r 3000 m = .goes m' := ⟨rfl, rfl, ⟨_, rfl⟩⟩
theorem witness_FastConversionEnds_unjudged : (motion (.jog true 9) .paused).phase = .paused
    ∧ (motion (.jog true 9) .brake).phase = .brake := by decide
theorem witness_FastConversionEnds_supply : (converting (.fast .supply) hshiftRuns).scan.converting
    = some ⟨.fast .supply, 0⟩
    ∧ supplyMillivolts 2680 < 10800 ∧ 10800 ≤ supplyMillivolts 2681
    ∧ ((hshiftRuns.lens.get .hshift).motion.map (·.phase)) = some .drive
    ∧ (hshiftRuns.lens.get .zoom).motion = none
    ∧ (∃ m, ((hshift 10 { motion (.move 9) .paused with pause := some ⟨.drive, 0, none⟩ }).lens.get .hshift).motion = some m
      ∧ m.phase = .paused ∧ m.pause = some ⟨.drive, 0, none⟩)
    ∧ 11200 ≤ supplyMillivolts 2780 ∧ ¬11200 ≤ supplyMillivolts 2779 :=
  ⟨by decide, by decide, by decide, by decide, rfl, ⟨_, rfl, by decide⟩, by decide⟩

/-- The calibration in which a position is its raw reading less 48. -/
def straight : Calibration := ⟨24, 4072⟩

/-- A window in which nothing has moved for 150 ms. -/
def still (raw : Raw) : List (Time × Raw) := [(130000, raw), (100000, raw)]

theorem witness_SettleSamples :
    let m (k n : Nat) : Motion :=
      { motion (.move 2000) .settle with settle := some ⟨0, false, k⟩, corrections := n }
    ((m 4 3).phase = .settle ∧ (m 4 3).settle = some ⟨0, false, 4⟩ ∧ jobTarget (m 4 3).job = some 2000)
    ∧ (distance (normalise straight 2051) 2000 ≤ 3 ∧ 0 ≠ 4) ∧ 3 < distance (normalise straight 2052) 2000
    ∧ (m 0 2).corrections < 3 ∧ 3 ≤ (m 0 3).corrections := by decide

/-- A leg toward 3000, driving since 0. -/
def leg (phase : Phase) (window : List (Time × Raw)) : Motion :=
  { motion (.move 3000) phase with legEnd := some 3000, sense := .positive, window := window }

theorem witness_LegSamples :
    ((leg .drive []).phase ∈ [.drive, .slow, .creep, .overshoot, .correct, .learnReturn] ∧ (leg .drive []).between = false
      ∧ (leg .drive []).legEnd = some 3000)
    ∧ (distance (normalise straight 3045) 3000 ≤ 3 ∧ ¬distance (normalise straight 3044) 3000 ≤ 3)
    ∧ StallsAt (normalise straight) 250000 2000 (leg .drive (still 2002))
    ∧ StallsAt (normalise straight) 250000 3048 (leg .creep (still 3050))
    ∧ ¬StallsAt (normalise straight) 249999 2000 (leg .drive (still 2000))
    ∧ ¬StallsAt (normalise straight) 250000 2000 (leg .drive (still 2003)) :=
  ⟨by decide, by decide, ⟨by decide, _, rfl, by decide⟩, ⟨by decide, _, rfl, by decide⟩,
    fun h => absurd h.1 (by decide), fun h => by obtain ⟨-, x, hx, hd⟩ := h; cases hx; exact absurd hd (by decide)⟩
theorem witness_LegSamples_between :
    let m := { leg .overshoot [] with between := true }
    m.phase = .overshoot ∧ m.between = true ∧ jobTarget m.job = some 3000
      ∧ 3 < distance (normalise straight 3052) 3000 := by decide
theorem witness_JogSamples :
    let m := { motion (.jog true 900000) .jogCreep with window := still 2000 }
    (m.phase ∈ [.jogCreep, .jogSlow, .jogFull] ∧ m.job = .jog true 900000)
    ∧ normalise straight 4048 = 4000 ∧ normalise straight 4047 ≠ 4000
    ∧ StallsAt (fun x => (some straight).elim x.toNat fun c => normalise c x) 250000 2000 m
    ∧ StallsAt (fun x => (none : Option Calibration).elim x.toNat fun c => normalise c x) 250000 1998 m :=
  ⟨by decide, by decide, by decide, ⟨by decide, _, rfl, by decide⟩, ⟨by decide, _, rfl, by decide⟩⟩
theorem witness_LearnSamples :
    let m (p : Phase) (l : LearnReadings) (b : Bool) := { motion .learn p with
      learn := some l, window := still 3900, between := b }
    ((m .learnNeg ⟨2000, none, none⟩ true).phase ∈ [.learnNeg, .learnPos]
      ∧ (m .learnNeg ⟨2000, none, none⟩ true).learn = some ⟨2000, none, none⟩)
    ∧ StallsAt (·.toNat) 250000 3902 (m .learnPos ⟨2000, some 2903, none⟩ false)
    ∧ ((3902 : Raw).toNat - (2903 : Raw).toNat : Int).natAbs < 1000
    ∧ 1000 ≤ ((3902 : Raw).toNat - (2902 : Raw).toNat : Int).natAbs
    ∧ distance (normalise ⟨2902, 3902⟩ 3902) (normalise ⟨2902, 3902⟩ 3902) ≤ 3
    ∧ 3 < distance (normalise ⟨2902, 3902⟩ 2000) (normalise ⟨2902, 3902⟩ 3902) :=
  ⟨by decide, ⟨by decide, _, rfl, by decide⟩, by decide, by decide, by decide, by decide⟩

theorem witness_TimersThatEndMotions :
    (∃ m, ((hshift 50000 { motion (.move 9) .brake with brake := some ⟨.stopped, 0⟩ }).lens.get .hshift).motion = some m
      ∧ m.phase = .brake ∧ m.brake = some ⟨.stopped, 0⟩ ∧ 0 + 50000 ≤ (hshift 50000 m).now)
    ∧ (∃ m, ((hshift 15000000 (motion (.move 9) .drive)).lens.get .hshift).motion = some m
      ∧ jobTarget m.job ≠ none ∧ m.phase ≠ .brake ∧ m.dispatched + 15000000 ≤ (hshift 15000000 m).now)
    ∧ (∃ m, ((hshift 2000000 { motion (.move 9) .paused with pause := some ⟨.drive, 0,
        none⟩ }).lens.get .hshift).motion = some m
      ∧ m.phase = .paused ∧ m.pause = some ⟨.drive, 0, none⟩ ∧ 0 + 2000000 ≤ (hshift 2000000 m).now)
    ∧ ∃ m, ((hshift 20000000 (motion .learn .learnNeg)).lens.get .hshift).motion = some m
      ∧ m.job = .learn ∧ m.phase ≠ .brake ∧ m.between = false ∧ m.legStart + 20000000 ≤ (hshift 20000000 m).now :=
  ⟨⟨_, rfl, by decide⟩, ⟨_, rfl, by decide⟩, ⟨_, rfl, by decide⟩, ⟨_, rfl, by decide⟩⟩
/-- The fast list follows: the last MOVING axis, with a slow conversion held; and another axis still MOVING. -/
theorem witness_TimersThatEndMotions_fastList :
    let s := waiting 0 true false (hshift 15000000 (motion (.move 9) .drive))
    s.mq.entries = [] ∧ s.mc.mode ≠ .cooldown ∧ (∀ b, b ≠ .hshift → s.moving b = false) ∧ s.scan.fastMode = .triggered
    ∧ s.scan.slowHeld = true ∧ s.scan.burstLeft = 0 ∧ s.scan.converting = none
    ∧ (running .zoom (motion (.move 9) .drive) s).moving .zoom = true :=
  ⟨rfl, by decide, fun b h => by cases b <;> first | exact absurd rfl h | rfl, by decide⟩
/-- The last end of a cooldown, and an end beside another axis that moves or a PARK that waits. -/
theorem witness_TimersThatEndMotions_cooled :
    let s := cooled (hshift 50000 { motion (.park 9) .brake with brake := some ⟨.stopped, 0⟩ })
    s.held = false ∧ s.mc.mode = .cooldown ∧ s.mc.thermalDone = true ∧ s.mq.entries = []
    ∧ (∀ b, b ≠ .hshift → s.moving b = false) ∧ (running .zoom (motion (.park 9) .drive) s).moving .zoom = true
    ∧ ∃ e ∈ (s.mapMq fun q => { q with entries := [⟨.focus, .park 9⟩] }).mq.entries, ∀ up d, e.job ≠ .jog up d :=
  ⟨rfl, rfl, rfl, rfl, fun b h => by cases b <;> first | exact absurd rfl h | rfl, rfl, _, List.mem_cons_self,
    fun _ _ h => (nomatch h)⟩
theorem witness_TimersThatMotionsOutlive :
    (∃ m, ((hshift 30000 { motion (.move 9) .settle with settle := some ⟨0, true, 0⟩ }).lens.get .hshift).motion = some m
      ∧ m.phase = .settle ∧ m.settle = some ⟨0, true, 0⟩ ∧ 0 + 30000 ≤ (hshift 30000 m).now)
    ∧ (∃ m, ((hshift 600000 (motion (.jog true 600000) .jogCreep)).lens.get .hshift).motion = some m
      ∧ m.job = .jog true 600000 ∧ m.phase = .jogCreep ∧ driveOn m.phase = true
      ∧ m.dispatched + 600000 ≤ (hshift 600000 m).now
      ∧ (hshift 600000 m).now < m.dispatched + 1800000 ∧ 600000 ≤ (hshift 600000 m).now)
    ∧ (∃ m, ((hshift 1800000 (motion (.jog true 1800000) .jogSlow)).lens.get .hshift).motion = some m
      ∧ m.job = .jog true 1800000 ∧ m.phase = .jogSlow ∧ m.dispatched + 1800000 ≤ (hshift 1800000 m).now)
    ∧ (∃ m, ((hshift 250000 { motion (.jog true 250000) .paused with pause := some ⟨.jogCreep, 0,
        none⟩ }).lens.get .hshift).motion = some m
      ∧ m.job = .jog true 250000 ∧ m.phase = .paused ∧ 250000 ≤ (hshift 250000 m).now)
    ∧ (∃ m, ((hshift 100000 { motion .learn .paused with pause := some ⟨.learnNeg, 0,
        some 0⟩ }).lens.get .hshift).motion = some m
      ∧ m.phase = .paused ∧ m.pause = some ⟨.learnNeg, 0, some 0⟩ ∧ 0 + 100000 ≤ (hshift 100000 m).now)
    ∧ ∃ m, ((hshift 100000 { motion (.move 9) .paused with pause := some ⟨.settle, 0,
        some 0⟩ }).lens.get .hshift).motion = some m
      ∧ m.phase = .paused ∧ m.pause = some ⟨.settle, 0, some 0⟩ ∧ 0 + 100000 ≤ (hshift 100000 m).now :=
  ⟨⟨_, rfl, by decide⟩, ⟨_, rfl, by decide⟩, ⟨_, rfl, by decide⟩, ⟨_, rfl, by decide⟩, ⟨_, rfl, by decide⟩, ⟨_, rfl,
      by decide⟩⟩

/-- HSHIFT at 2000 is paused in a phase, its resume timer running since 0. -/
def pausedIn (p : Phase) (job : Job) (point : Nat) : Motion :=
  { motion job .paused with pause := some ⟨p, 0, some 0⟩, legEnd := some point, sense := .positive }

theorem witness_TimersThatMotionsOutlive_resumes :
    (∃ m, ((hshift 100000 (pausedIn .jogFull (.jog true 200000) 0)).lens.get .hshift).motion = some m
      ∧ m.phase = .paused ∧ m.pause = some ⟨.jogFull, 0, some 0⟩ ∧ .jogFull ∈ [Phase.jogCreep, .jogSlow, .jogFull]
      ∧ m.job = .jog true 200000 ∧ 0 + 100000 ≤ (hshift 100000 m).now)
    ∧ ∃ m, ((hshift 100000 (pausedIn .correct (.move 2004) 2004)).lens.get .hshift).motion = some m
      ∧ m.phase = .paused ∧ m.pause = some ⟨.correct, 0, some 0⟩ ∧ m.legEnd = some 2004
      ∧ .correct ∈ [Phase.drive, .slow, .creep, .overshoot, .correct, .learnReturn]
      ∧ ((hshift 100000 m).lens.get .hshift).cal = some straight
      ∧ normalise straight ((hshift 100000 m).rawNow .hshift) = 2000
      ∧ ¬(distance 2000 2004 ≤ 3 ∨ m.sense = .positive ∧ 2004 ≤ 2000 ∨ m.sense = .negative ∧ 2000 ≤ 2004)
      ∧ distance 2000 2003 ≤ 3 := ⟨⟨_, rfl, by decide⟩, ⟨_, rfl, by decide⟩⟩
theorem witness_PendingJogLeaves : let s := at' 5 (inRun.mapMq fun q => { q with entries := [⟨.hshift, .jog true 5⟩] })
    s.held = false ∧ s.entryOf .hshift = some ⟨.hshift, .jog true 5⟩ ∧ 5 ≤ s.now
        ∧ s.mq.entries = [⟨.hshift, .jog true 5⟩] := by decide
theorem witness_PendingJogLeaves_head :
    busy.mq.entries = ⟨.vshift, .move 1800⟩ :: [] ∧ busy.mq.budget < busy.unitsHeld + driveUnits .vshift
    ∧ (running .vshift (motion (.move 9) .brake) busy).moving .vshift = true ∧ bare.mc.mode = .standby
    ∧ (busy.mapMq fun q => { q with entries := [⟨.focus, .move 2200⟩] }).unitsHeld + driveUnits .focus ≤ busy.mq.budget
    ∧ busy.mc.mode ≠ .standby ∧ busy.moving .focus = false := by decide
theorem witness_PendingJogLeaves_starts :
    let fate (raw : Raw) := dispatchMotion .focus .floorFront (some straight) 10 raw false .idle (.jog true 20)
    (∃ m, fate 4047 = .goes m) ∧ fate 4048 = .ends .jogEnd ∧ recalling.moving .vshift = false
    ∧ jobTag (.ofRecall 1800 7) = some 7 ∧ recalling.scan.fastMode = .triggered ∧ inRun.scan.fastMode = .periodic :=
  ⟨⟨_, rfl⟩, by decide⟩
theorem witness_DispatchSteps :
    (jobTarget (.move 4000) = some 4000 ∧ jobTarget (.park 0) = some 0) ∧ distance (normalise straight 51) 0 ≤ 3
    ∧ 3 < distance (normalise straight 52) 0 ∧ 10 < 20 ∧ 10 ≤ 10 ∧ normalise straight 4048 = 4000
    ∧ normalise straight 4047 ≠ 4000 ∧ isCeiling .ceilingRear = true := by decide
theorem witness_FanUpdateAndPulses : (at' 500000 bare).held = false ∧ (at' 500000 bare).cc.nextFanUpdate = some 500000
    ∧ 500000 ≤ (at' 500000 bare).now := by decide

/-- A tach window closes in a mode, every fan at a pulse count with these marks. -/
def closes (m : Mode) (f : FanRecord) : State :=
  at' 1000000 ((inMode m bare).mapCc fun c => { c with fans := .make fun _ => f })

theorem witness_WindowsAndModeTimers_window :
    (closes .run { resetFan with pulses := 9, low := 2, dipped := false }).cc.windowStart = some 0
    ∧ 0 + 1000000 ≤ (closes .run resetFan).now ∧ (closes .run resetFan).mc.fanCheck = none
    ∧ (closes .run resetFan).mc.mode = .run
    ∧ ((closes .trip { resetFan with
        faulted := true, pulses := 20, good := 2, dipped := false }).cc.fans.get .f0).faulted = true
    ∧ (closes .standby resetFan).mc.mode = .standby := by decide
/-- The first and the fourth window of STARTING close, with the fan check's expiry at 5 s. -/
theorem witness_WindowsAndModeTimers_starting :
    let s := (closes .starting resetFan).mapMc fun c => { c with fanCheck := some 5000000 }
    let u := at' 4000000 (s.mapCc fun c => { c with windowStart := some 3000000 })
    (s.held = false ∧ s.mc.mode = .starting ∧ s.cc.windowStart = some 0 ∧ 0 + 1000000 ≤ s.now
      ∧ ∀ e, s.mc.fanCheck = some e → 0 + 1000000 < e)
    ∧ u.mc.mode = .starting ∧ u.cc.windowStart = some 3000000 ∧ 3000000 + 1000000 ≤ u.now
    ∧ ∀ e, u.mc.fanCheck = some e → 3000000 + 1000000 < e :=
  ⟨⟨rfl, rfl, rfl, by decide, fun e h => by cases h; decide⟩, rfl, rfl, by decide, fun e h => by cases h; decide⟩
/-- A tach window closes in RUN, fan 0 at a pulse count with these marks and the others turning well. -/
def intake (f : FanRecord) : State :=
  (closes .run resetFan).mapCc fun c =>
    { c with fans := ⟨{ f with dipped := false }, { resetFan with pulses := 30, dipped := false }, { resetFan with
        pulses := 30, dipped := false, failsafe := true }⟩ }

theorem witness_WindowsAndModeTimers_counts :
    let s := intake { resetFan with pulses := 9, low := 1 }
    let u := intake { resetFan with pulses := 20, faulted := true, good := 1 }
    ((s.cc.fans.get .f0).faulted = false ∧ ((after .tachWindowClose s).cc.fans.get .f0).low = 2)
    ∧ (u.cc.fans.get .f0).faulted = true ∧ ((after .tachWindowClose u).cc.fans.get .f0).good = 2 := by decide
theorem witness_WindowsAndModeTimers_faults :
    let t := after .tachWindowClose (intake { resetFan with pulses := 9, low := 2 })
    (t.cc.fans.get .f0).faulted = true ∧ (∀ other, other ≠ .f0 → (t.cc.fans.get other).faulted = false)
    ∧ (t.cc.fans.get .f1).failsafe = false ∧ (t.cc.fans.get .f2).failsafe = true :=
  ⟨by decide, fun other h => by cases other <;> first | exact absurd rfl h | decide, by decide, by decide⟩
theorem witness_WindowsAndModeTimers_faultsElsewhere :
    ∀ m ∈ [Mode.cooldown, .trip],
      let s := inMode m (intake { resetFan with pulses := 9, low := 2, target := 100 })
      let t := after .tachWindowClose s
      (s.cc.fans.get .f0).faulted = false ∧ (t.cc.fans.get .f0).faulted = true ∧ faultedFans t.cc < 2
        ∧ t.mc.mode = m := by decide
theorem witness_WindowsAndModeTimers_recovers :
    let s (m : Mode) := inMode m (intake { resetFan with pulses := 20, faulted := true, good := 2, failsafe := false })
    ∀ m ∈ [Mode.run, .cooldown, .trip], ((s m).cc.fans.get .f0).faulted = true
      ∧ ∀ fan ∈ fans, ((after .tachWindowClose (s m)).cc.fans.get fan).faulted = false := by decide

/-- A window closes in a mode in which fan 0 recovers or faults while fan 1 is faulted already. -/
def beside (m : Mode) (f : FanRecord) : State :=
  inMode m ((intake f).mapCc fun c => { c with fans := { c.fans with f1 := { resetFan with faulted := true } } })

theorem witness_WindowsAndModeTimers_trips :
    ∀ m ∈ [Mode.run, .cooldown, .trip],
      let s := beside m { resetFan with pulses := 9, low := 2 }
      let t := after .tachWindowClose s
      s.held = false ∧ (s.cc.fans.get .f0).faulted = false ∧ (t.cc.fans.get .f0).faulted = true
        ∧ 2 ≤ faultedFans t.cc := by decide
theorem witness_WindowsAndModeTimers_beside :
    ∀ m ∈ [Mode.run, .cooldown, .trip],
      let s := beside m { resetFan with pulses := 20, good := 2, faulted := true }
      let t := after .tachWindowClose s
      (s.cc.fans.get .f0).faulted = true ∧ (t.cc.fans.get .f0).faulted = false ∧ (t.cc.fans.get .f1).faulted = true
        ∧ t.mc.mode = m := by decide
theorem witness_WindowsAndModeTimers_check :
    let s := (closes .starting { resetFan with pulses := 20 }).mapMc fun c => { c with fanCheck := some 1000000 }
    s.held = false ∧ s.mc.mode = .starting ∧ s.mc.fanCheck = some 1000000 ∧ 1000000 ≤ s.now := by decide
theorem witness_WindowsAndModeTimers_checkTrips :
    2 ≤ ((closes .starting { resetFan with pulses := 19 }).cc.fans.toList.filter fun f => f.pulses * 30 < 600).length := by
  decide
theorem witness_WindowsAndModeTimers_cooldown :
    let s := (closes .cooldown resetFan).mapMc fun c => { c with cooldown := some 1000000 }
    s.mc.mode = .cooldown ∧ s.mc.cooldown = some 1000000 ∧ 1000000 ≤ s.now ∧ s.lensAtRest = true := by decide
theorem witness_EvaluationSetsBudget : (converting (.slow .s7) inRun).held = false
    ∧ (converting (.slow .s7) inRun).scan.converting = some ⟨.slow .s7, 0⟩
    ∧ 0 + 10 ≤ (converting (.slow .s7) inRun).now := by decide

/-- The end of an S7 conversion whose sample is 2300, with the receivers of the evaluation in one of their orders. -/
def evaluatedIn (k : Fin 24) (s : State) : State :=
  let s := (takeThermistor .s7 2300 s).mapScan fun c => { c with rounds := c.rounds + 1 }
  let s := s.mapCc fun c => { c with seen := temperatures s, used := .make (inputsInForce s) }
  let s := (evaluationOrders.getD k.val [.cooling, .focus, .queue, .mode]).foldl (fun s r => receive r s) s
  s.mapScan (grant s.now false)

/-- What every order of the receivers gives, the evaluation gives. -/
theorem of_every_order {P : State → Prop} {s : State} (h : ∀ k, P (evaluatedIn k (converting (.slow .s7) s)))
    (held : s.held = false) : P (after (.slowConversionEnd 2300) (converting (.slow .s7) s)) := by
  have e : after (.slowConversionEnd 2300) (converting (.slow .s7) s)
      = evaluatedIn (Config.evaluationOrder 10) (converting (.slow .s7) s) := by
    simp [after, exec, execSlowConversionEnd, event, converting, at', State.mapScan, held]
    rfl
  exact e ▸ h _

/-- The valid temperatures, S0 first. -/
def temps (s : State) : List (Option Int) := sensors.map s.validTemp

/-- RUN with S0 VALID at a temperature and every fan driven above its cap. -/
def hot (t : Int) : State :=
  (warm .s0 t inRun).mapCc fun c => { c with fans := .make fun _ => { resetFan with duty := 90, target := 90 } }

theorem witness_EvaluationSetsBudget_noTrip :
    temps (after (.slowConversionEnd 2300) (converting (.slow .s7) (hot 660)))
      = [some 660, none, none, none, none, none, none, none]
    ∧ 660 < ((hot 660).cc.limits.get .s0).trip ∧ (hot 660).mc.mode = .run ∧ (hot 660).entryOf .focus = none :=
  ⟨of_every_order (P := fun t => temps t = [some 660, none, none, none, none, none, none, none]) (by decide) rfl,
    by decide⟩
theorem witness_EvaluationSetsBudget_fans :
    inSet (maskInForce (hot 660) .f1) .s0 = true ∧ temps (after (.slowConversionEnd 2300) (converting (.slow .s7) inRun))
      = List.replicate 8 none :=
  ⟨by decide, of_every_order (P := fun t => temps t = List.replicate 8 none) (by decide) rfl⟩
theorem witness_EvaluationSetsBudget_lower :
    (∀ fan, inSet (maskInForce (hot 660) fan) .s0 = true →
      let g := (after (.slowConversionEnd 2300) (converting (.slow .s7) (hot 660))).cc.fans.get fan
      g.duty = capInForce (hot 660) fan ∧ g.override = false) ∧ ((hot 660).cc.limits.get .s0).hold ≤ 660 :=
  ⟨fun fan h => by
    cases fan
    · exact absurd h (by decide)
    all_goals exact of_every_order (P := fun t => (t.cc.fans.get _).duty = capInForce (hot 660) _
      ∧ (t.cc.fans.get _).override = false) (by decide) rfl, by decide⟩
theorem witness_EvaluationSetsBudget_raise :
    temps (after (.slowConversionEnd 2300) (converting (.slow .s7) (hot 620)))
      = [some 620, none, none, none, none, none, none, none]
    ∧ 620 ≤ ((hot 620).cc.limits.get .s0).hold - 30 ∧ ¬621 ≤ ((hot 621).cc.limits.get .s0).hold - 30
    ∧ ¬((hot 621).cc.limits.get .s0).hold ≤ 621 :=
  ⟨of_every_order (P := fun t => temps t = [some 620, none, none, none, none, none, none, none]) (by decide) rfl, by decide⟩

/-- RUN with Tref 412, S3 VALID at a temperature and FOCUS at its base target. -/
def drifting (t : Int) : State :=
  (warm .s3 t inRun).mapSetup fun a => { a with tref := some 412, base := ⟨none, none, none, some 2000⟩ }

theorem witness_EvaluationSetsBudget_trim :
    let trims (coef : Int) (t3 : Int) : Bool := 6 ≤
      ((clampNat (2000 + max (-150) (min (roundHalfAway (coef * (t3 - 412)) 100) 150)) 4000 : Int) - (2000 + 0)).natAbs
    ((drifting 500).lens.get .focus).cal ≠ none ∧ ((drifting 500).lens.get .focus).state = .idle
    ∧ (drifting 500).mc.mode = .run ∧ (drifting 500).setup.base.get .focus = some 2000 ∧ (drifting 500).fc.applied = 0
    ∧ (drifting 500).setup.focusOn = true ∧ (drifting 500).setup.quiet ≠ 3 ∧ (drifting 500).fc.table.c2 = -30
    ∧ trims (-30) 500 = true ∧ trims (-30) 420 = false ∧ bare.mc.mode ≠ .run := by decide
/-- COOLDOWN, with S0 and S1 VALID at two temperatures. -/
def cooling (t0 t1 : Int) : State := inMode .cooldown (warm .s1 t1 (warm .s0 t0 inRun))

/-- The criterion of a cooldown is met below 450 and 500, and no trip limit is reached. -/
theorem witness_EvaluationSetsBudget_cools :
    temps (after (.slowConversionEnd 2300) (converting (.slow .s7) (cooling 449 499)))
      = [some 449, some 499, none, none, none, none, none, none]
    ∧ temps (after (.slowConversionEnd 2300) (converting (.slow .s7) (cooling 450 499)))
      = [some 450, some 499, none, none, none, none, none, none]
    ∧ (cooling 449 499).lensAtRest = true ∧ (running .zoom (motion (.park 9) .drive) (cooling 449 499)).moving .zoom = true
    ∧ (cooling 449 499).mc.mode = .cooldown ∧ inSet (maskInForce (cooling 449 499) .f1) .s0 = true
    ∧ 449 < ((cooling 449 499).cc.limits.get .s0).trip ∧ 499 < ((cooling 449 499).cc.limits.get .s1).trip :=
  ⟨of_every_order (P := fun t => temps t = [some 449, some 499, none, none, none, none, none, none]) (by decide) rfl,
    of_every_order (P := fun t => temps t = [some 450, some 499, none, none, none, none, none, none]) (by decide) rfl,
    by decide⟩
/-- STANDBY and STARTING, with no sensor at its limit, and TRIP with S0 at it. -/
theorem witness_EvaluationSetsBudget_modes :
    ∀ s ∈ [inMode .standby (hot 660), inMode .starting (hot 660)], s.held = false
      ∧ temps (after (.slowConversionEnd 2300) (converting (.slow .s7) s))
        = [some 660, none, none, none, none, none, none, none] ∧ 660 < (s.cc.limits.get .s0).trip := fun s h => by
  simp only [List.mem_cons, List.not_mem_nil, or_false] at h
  rcases h with rfl | rfl
  all_goals exact ⟨rfl, of_every_order (P := fun t => temps t = [some 660, none, none, none, none, none, none, none])
    (by decide) rfl, by decide⟩
/-- In COOLDOWN S2 is at its trip limit while S0 and S1 meet the criterion. -/
theorem witness_TripFromTemperature_cools :
    let s := warm .s2 1300 (cooling 449 499)
    temps (after (.slowConversionEnd 2300) (converting (.slow .s7) s))
      = [some 449, some 499, some 1300, none, none, none, none, none] ∧ s.mc.mode = .cooldown
    ∧ (s.cc.limits.get .s2).trip ≤ 1300 :=
  ⟨of_every_order (P := fun t => temps t = [some 449, some 499, some 1300, none, none, none, none, none]) (by decide) rfl,
    by decide⟩
theorem witness_TripFromTemperature :
    (∀ s ∈ [hot 800, inMode .starting (hot 800), inMode .cooldown (hot 800)],
      temps (after (.slowConversionEnd 2300) (converting (.slow .s7) s)) = [some 800, none, none, none, none, none, none, none])
    ∧ ((hot 800).cc.limits.get .s0).trip ≤ 800 ∧ ¬800 < 450 :=
  ⟨fun s h => of_every_order (P := fun t => temps t = [some 800, none, none, none, none, none, none, none])
    (by
      simp only [List.mem_cons, List.not_mem_nil, or_false] at h
      rcases h with rfl | rfl | rfl <;> decide)
    (by
      simp only [List.mem_cons, List.not_mem_nil, or_false] at h
      rcases h with rfl | rfl | rfl <;> rfl), by decide⟩
theorem witness_RefusalsChangeNothing : (Instr.mdWake []).WellFormed = true ∧ frameOf (.mdWake []) = some (0x48, [])
    ∧ inRun.Ready :=
  ⟨rfl, rfl, ⟨rfl, rfl⟩⟩

end Sys2Proof.Tests
end

section
/-! The placement requests of 01_the_placement_table: what a request's reply leaves behind, the slot and record checks
one lemma per outcome, and from these PL_CREATE, PL_WRITE, PL_RETIRE and PL_SET_PARK. -/

namespace Sys2Proof.Machine

variable {s t : State} {p : Payload} {i : Fin 24}

/-! ## Requests taken in IDLE -/

theorem takeFrame_of_ready (hs : s.Ready) (handler : State → Reply × State) :
    takeFrame handler s = .next ((handler s).2.answered (handler s).1.status (handler s).1.payload) := by
  obtain ⟨hheld, hidle⟩ := hs
  rw [takeFrame_eq, hheld, hidle]
  rfl

/-- What the owning block replies to a frame of at most 48 payload bytes is what the request leaves behind (R173,
R175). -/
theorem request_of_reply {handler : Payload → State → Reply × State} {status : Status} {payload : List Byte}
    (hs : s.Ready) (hp : p.length ≤ 48) (h : handler p s = (⟨status, payload⟩, t)) :
    request handler p s = .next (t.answered status payload) := by
  rw [request, if_neg (show ¬maxPayload < p.length from Nat.not_lt.mpr hp), takeFrame_of_ready hs, h]

theorem ofLength_of_length {n : Nat} (h : p.length = n) (body : State → Reply × State) :
    ofLength n p body s = body s := if_pos h

/-! ## Slots (R1) and slot numbers (R8) -/

theorem slotAt_eq (pt : PlacementTable) (i : Fin 24) : slotAt pt i = pt.slots[i] := rfl

theorem slotOf_eq_some {n : Nat} (h : n = i.val + 1) : slotOf n = some i := by
  subst h
  exact dif_pos ⟨by omega, by omega⟩

theorem slotOf_eq_none {n : Nat} (h : n = 0 ∨ 24 < n) : slotOf n = none := dif_neg (by omega)

theorem u8_byte {n : Nat} (h : n < 256) : u8 [byte n] 0 = n := Nat.mod_eq_of_lt h

theorem u8_byte_slot (i : Fin 24) : u8 [byte (i.val + 1)] 0 = i.val + 1 := u8_byte (by omega)

theorem withSlot_bad (hn : u8 p 0 = 0 ∨ 24 < u8 p 0) (body : Fin 24 → State → Reply × State) :
    withSlot p body s = refuse .badValue s := by
  rw [withSlot, slotOf_eq_none hn]

theorem withSlot_slot (hn : u8 p 0 = i.val + 1) (body : Fin 24 → State → Reply × State) :
    withSlot p body s = body i s := by
  rw [withSlot, slotOf_eq_some hn]

theorem withReady_bad (hn : u8 p 0 = 0 ∨ 24 < u8 p 0) (body : Fin 24 → Placement → State → Reply × State) :
    withReady p body s = refuse .badValue s := withSlot_bad hn _

theorem withReady_free (hn : u8 p 0 = i.val + 1) (hi : s.pt.slots[i] = none)
    (body : Fin 24 → Placement → State → Reply × State) : withReady p body s = refuse .slotFree s := by
  rw [withReady, withSlot_slot hn, slotAt_eq, hi]

theorem withReady_ready {r : Placement} (hn : u8 p 0 = i.val + 1) (hi : s.pt.slots[i] = some r)
    (body : Fin 24 → Placement → State → Reply × State) : withReady p body s = body i r s := by
  rw [withReady, withSlot_slot hn, slotAt_eq, hi]

/-! ## The lowest-numbered FREE slot (R9) -/

theorem lowestFree_eq_some {pt : PlacementTable} (hi : pt.slots[i] = none) (hlow : ∀ j < i, pt.slots[j] ≠ none) :
    lowestFree pt = some i := by
  refine List.find?_eq_some_iff_getElem.mpr ⟨by simpa [slotAt_eq] using hi, i.val, by simp [slotIndices], ?_, ?_⟩
  · simp [slotIndices]
  · intro k hk
    simpa [slotIndices, slotAt_eq, Option.isSome_iff_ne_none] using hlow ⟨k, by omega⟩ hk

theorem lowestFree_eq_none {pt : PlacementTable} (hfull : ∀ j : Fin 24, pt.slots[j] ≠ none) :
    lowestFree pt = none :=
  List.find?_eq_none.mpr fun j _ => by simpa [slotAt_eq] using hfull j

/-! ## Record frames (R7) -/

/-- A record frame that passes every check of R7 but the one on its slot number. -/
structure GoodRecord (p : Payload) : Prop where
  header : 5 ≤ p.length
  length : p.length = recordLength p
  fields : recordOk p = true

/-- For such a frame the check on the slot number decides alone. -/
theorem recordChecked_eq (hp : GoodRecord p) (slotValid : Nat → Bool) (body : State → Reply × State) :
    recordChecked slotValid p body s = if slotValid (u8 p 0) then body s else refuse .badValue s := by
  have hlength : ¬(p.length < 5 || p.length ≠ recordLength p) = true := by
    simpa [← hp.length] using hp.header
  rw [recordChecked, if_neg hlength, hp.fields]
  cases slotValid (u8 p 0) <;> rfl

/-! ## PL_CREATE (R9) -/

theorem plCreate_named (hp : GoodRecord p) (hn : u8 p 0 = i.val + 1) :
    plCreate p s = if s.pt.slots[i].isSome then refuse .slotTaken s else storeFrame i p s := by
  rw [plCreate, recordChecked_eq hp, if_pos (decide_eq_true (by omega)), slotOf_eq_some hn]
  rfl

theorem plCreate_named_free (hp : GoodRecord p) (hn : u8 p 0 = i.val + 1) (hi : s.pt.slots[i] = none) :
    plCreate p s = storeFrame i p s := by
  rw [plCreate_named hp hn, if_neg (Option.not_isSome_iff_eq_none.mpr hi)]

theorem plCreate_named_ready (hp : GoodRecord p) (hn : u8 p 0 = i.val + 1) (hi : s.pt.slots[i] ≠ none) :
    plCreate p s = refuse .slotTaken s := by
  rw [plCreate_named hp hn, if_pos (Option.isSome_iff_ne_none.mpr hi)]

theorem plCreate_zero (hp : GoodRecord p) (hn : u8 p 0 = 0) :
    plCreate p s = (lowestFree s.pt).elim (refuse .tableFull s) fun i => storeFrame i p s := by
  rw [plCreate, recordChecked_eq hp, if_pos (decide_eq_true (by omega)), slotOf_eq_none (.inl hn)]
  cases lowestFree s.pt <;> rfl

theorem plCreate_lowest_free (hp : GoodRecord p) (hn : u8 p 0 = 0) (hi : s.pt.slots[i] = none)
    (hlow : ∀ j < i, s.pt.slots[j] ≠ none) : plCreate p s = storeFrame i p s := by
  rw [plCreate_zero hp hn, lowestFree_eq_some hi hlow, Option.elim_some]

theorem plCreate_full (hp : GoodRecord p) (hn : u8 p 0 = 0) (hfull : ∀ j : Fin 24, s.pt.slots[j] ≠ none) :
    plCreate p s = refuse .tableFull s := by
  rw [plCreate_zero hp hn, lowestFree_eq_none hfull, Option.elim_none]

/-- Settles O22: each case of the slot number and the slot is one case of `plCreate`. -/
theorem createStores : Obligations.CreateStores := by
  intro s p i hs hfits hheader hlength hfields
  have hp : GoodRecord p := ⟨hheader, hlength, hfields⟩
  refine ⟨fun hi hn => request_of_reply hs hfits ?_, fun hi hn => ?_, fun hfull hn => ?_⟩
  · obtain hn | ⟨hn, hlow⟩ := hn
    · exact plCreate_named_free hp hn hi
    · exact plCreate_lowest_free hp hn hi hlow
  · exact request_of_reply hs hfits (plCreate_named_ready hp hn hi)
  · exact request_of_reply hs hfits (plCreate_full hp hn hfull)

/-! ## PL_WRITE (R10) -/

theorem plWrite_named (hp : GoodRecord p) (hn : u8 p 0 = i.val + 1) :
    plWrite p s = if s.pt.slots[i].isNone then refuse .slotFree s else storeFrame i p (modifyIfSource i s) := by
  have hslot : (1 ≤ u8 p 0 && u8 p 0 ≤ 24) = true := by
    rw [Bool.and_eq_true, decide_eq_true_iff, decide_eq_true_iff]
    omega
  rw [plWrite, recordChecked_eq hp, if_pos hslot, slotOf_eq_some hn]
  rfl

theorem plWrite_ready (hp : GoodRecord p) (hn : u8 p 0 = i.val + 1) (hi : s.pt.slots[i] ≠ none) :
    plWrite p s = storeFrame i p (modifyIfSource i s) := by
  rw [plWrite_named hp hn, if_neg (Option.isNone_iff_eq_none.not.mpr hi)]

theorem plWrite_free (hp : GoodRecord p) (hn : u8 p 0 = i.val + 1) (hi : s.pt.slots[i] = none) :
    plWrite p s = refuse .slotFree s := by
  rw [plWrite_named hp hn, if_pos (Option.isNone_iff_eq_none.mpr hi)]

theorem plWrite_bad (hp : GoodRecord p) (hn : u8 p 0 = 0 ∨ 24 < u8 p 0) : plWrite p s = refuse .badValue s := by
  have hslot : ¬(1 ≤ u8 p 0 && u8 p 0 ≤ 24) = true := by
    rw [Bool.and_eq_true, decide_eq_true_iff, decide_eq_true_iff]
    omega
  rw [plWrite, recordChecked_eq hp, if_neg hslot]

/-- Settles O23: each case of the slot number and the slot is one case of `plWrite`. -/
theorem writeReplaces : Obligations.WriteReplaces := by
  intro s p i hs hfits hheader hlength hfields
  have hp : GoodRecord p := ⟨hheader, hlength, hfields⟩
  refine ⟨fun hi hn => ?_, fun hi hn => ?_, fun hn => ?_⟩
  · exact request_of_reply hs hfits (plWrite_ready hp hn hi)
  · exact request_of_reply hs hfits (plWrite_free hp hn hi)
  · exact request_of_reply hs hfits (plWrite_bad hp hn)

/-! ## PL_RETIRE (R13) and PL_SET_PARK (R15) -/

theorem retire_eq (i : Fin 24) (s : State) :
    retire i s = { s with
      pt := ⟨s.pt.slots.set i none, if s.pt.park = some i then none else s.pt.park⟩
      setup := if s.setup.source = some i then { s.setup with source := none, modified := true } else s.setup } := by
  by_cases hpark : s.pt.park = some i <;> simp [retire, putSlot, State.mapPt, State.mapSetup, hpark]

theorem plRetire_ready (hn : u8 p 0 = i.val + 1) (hp : p.length = 1) (hi : s.pt.slots[i] ≠ none) :
    plRetire p s = accept .ok [byte (i.val + 1), marks [s.pt.park = some i, s.setup.source = some i]] (retire i s) := by
  obtain ⟨r, hr⟩ := Option.ne_none_iff_exists'.mp hi
  rw [plRetire, ofLength_of_length hp, withReady_ready hn hr]
  rfl

theorem plRetire_free (hn : u8 p 0 = i.val + 1) (hp : p.length = 1) (hi : s.pt.slots[i] = none) :
    plRetire p s = refuse .slotFree s := by
  rw [plRetire, ofLength_of_length hp, withReady_free hn hi]

theorem plRetire_bad (hn : u8 p 0 = 0 ∨ 24 < u8 p 0) (hp : p.length = 1) : plRetire p s = refuse .badValue s := by
  rw [plRetire, ofLength_of_length hp, withReady_bad hn]

theorem plSetPark_none (hn : u8 p 0 = 0) (hp : p.length = 1) : plSetPark p s = setPark none s := by
  rw [plSetPark, ofLength_of_length hp, if_pos hn]

theorem plSetPark_ready (hn : u8 p 0 = i.val + 1) (hp : p.length = 1) (hi : s.pt.slots[i] ≠ none) :
    plSetPark p s = setPark (some i) s := by
  obtain ⟨r, hr⟩ := Option.ne_none_iff_exists'.mp hi
  rw [plSetPark, ofLength_of_length hp, if_neg (by omega), withReady_ready hn hr]

theorem plSetPark_free (hn : u8 p 0 = i.val + 1) (hp : p.length = 1) (hi : s.pt.slots[i] = none) :
    plSetPark p s = refuse .slotFree s := by
  rw [plSetPark, ofLength_of_length hp, if_neg (by omega), withReady_free hn hi]

theorem plSetPark_bad (hn : 24 < u8 p 0) (hp : p.length = 1) : plSetPark p s = refuse .badValue s := by
  rw [plSetPark, ofLength_of_length hp, if_neg (by omega), withReady_bad (.inr hn)]

/-- Settles O26: each case of the slot number and the slot is one case of `plRetire` and one of `plSetPark`. -/
theorem retireAndPark : Obligations.RetireAndPark := by
  intro s hs
  have one_fits (b : Byte) : [b].length ≤ 48 := by simp
  refine ⟨fun i hi => ⟨?_, ?_⟩, fun i hi => ⟨?_, ?_⟩, ?_, fun n hlow hhigh => ?_⟩
  · rw [← retire_eq i s]
    exact request_of_reply hs (one_fits _) (plRetire_ready (u8_byte_slot i) rfl hi)
  · exact request_of_reply hs (one_fits _) (plSetPark_ready (u8_byte_slot i) rfl hi)
  · exact request_of_reply hs (one_fits _) (plRetire_free (u8_byte_slot i) rfl hi)
  · exact request_of_reply hs (one_fits _) (plSetPark_free (u8_byte_slot i) rfl hi)
  · exact request_of_reply hs (one_fits _) (plSetPark_none rfl rfl)
  · have hn : 24 < u8 [byte n] 0 := by rw [u8_byte hhigh]; exact hlow
    exact ⟨request_of_reply hs (one_fits _) (plRetire_bad (.inr hn) rfl),
      request_of_reply hs (one_fits _) (plSetPark_bad hn rfl)⟩

end Sys2Proof.Machine
end

section
/-! The cooling tables of 07_cooling: the fields of a payload read back as the values encoded in it, what a frame of a
wrong length leaves behind, and from these TH_CURVE, TH_MASK and TH_LIMITS. -/

namespace Sys2Proof.Machine

variable {s : State} {p : Payload} {fan : Fan} {sn : Sensor}

/-! ## Fields of a payload (R185) -/

theorem u8_field {n i : Nat} (hn : n < 256) (h : p.getD i 0 = byte n) : u8 p i = n := by
  rw [u8, h]
  exact Nat.mod_eq_of_lt hn

theorem le16_value {n : Nat} (hn : n < 65536) : (byte n).toNat + 256 * (byte (n / 256)).toNat = n := by
  rw [byte, byte, BitVec.toNat_ofNat, BitVec.toNat_ofNat]
  omega

theorem s16_field {x : Int} {i : Nat} (hx : -32768 ≤ x ∧ x ≤ 32767) (h : [p.getD i 0, p.getD (i + 1) 0] = le16s x) :
    s16 p i = x := by
  rw [le16s, le16, List.cons_eq_cons, List.cons_eq_cons] at h
  obtain ⟨hlow, hhigh, -⟩ := h
  rw [s16, u16, u8, u8, hlow, hhigh, le16_value (BitVec.isLt _), BitVec.ofNat_toNat, BitVec.setWidth_eq,
    BitVec.toInt_ofInt_eq_self (by omega) hx.1 (by omega)]

theorem clampInt_eq_max_min {x lo hi : Int} (h : lo ≤ hi) : clampInt x lo hi = max lo (min x hi) := by
  unfold clampInt
  omega

/-! ## Statuses and lengths (R175, R177) -/

theorem clampedIf_eq {b : Bool} {kept : Prop} [Decidable kept] (h : b = false ↔ kept) :
    clampedIf b = if kept then .ok else .clamped := by
  cases b
  · exact (if_pos (h.mp rfl)).symm
  · exact (if_neg (h.not.mp (by decide))).symm

theorem ofLength_of_length_ne {n : Nat} (h : p.length ≠ n) (body : State → Reply × State) :
    ofLength n p body s = refuse .badLength s := if_neg h

/-- A frame of a wrong length changes nothing but the link, above 48 payload bytes as well (R173, R175). -/
theorem request_of_badLength {handler : Payload → State → Reply × State} (hs : s.Ready)
    (h : handler p s = refuse .badLength s) : request handler p s = .next (s.answered .badLength []) := by
  rw [request, takeFrame_of_ready hs, ite_apply, h, ite_self]
  rfl

/-! ## The fan a request names -/

theorem withFan_none (hn : fanOf (u8 p 0) = none) (body : Fan → State → Reply × State) :
    withFan p body s = refuse .badValue s := by
  rw [withFan, hn]

theorem withFan_some (hn : fanOf (u8 p 0) = some fan) (body : Fan → State → Reply × State) :
    withFan p body s = body fan s := by
  rw [withFan, hn]

/-! ## TH_CURVE (R115) -/

/-- The frame of TH_CURVE (R187): the fan number and the six points. -/
def curveFrame (n : Nat) (temp : Fin 6 → Int) (duty : Fin 6 → Nat) : Payload :=
  let field (k : Fin 6) : List Byte := le16s (temp k) ++ [byte (duty k)]
  byte n :: (field 0 ++ field 1 ++ field 2 ++ field 3 ++ field 4 ++ field 5)

section
variable {n : Nat} {temp : Fin 6 → Int} {duty : Fin 6 → Nat}

theorem s16_curveFrame (htemp : ∀ k, -32768 ≤ temp k ∧ temp k ≤ 32767) (k : Fin 6) :
    s16 (curveFrame n temp duty) (1 + 3 * k) = temp k :=
  s16_field (htemp k) (by fin_cases k <;> rfl)

theorem u8_curveFrame (hduty : ∀ k, duty k < 256) (k : Fin 6) : u8 (curveFrame n temp duty) (3 + 3 * k) = duty k :=
  u8_field (hduty k) (by fin_cases k <;> rfl)

/-- The curve that the six points give, each duty clamped to 100 (R115). -/
def storedCurve (temp : Fin 6 → Int) (duty : Fin 6 → Nat) : Curve :=
  let point (k : Fin 6) : CurvePoint := ⟨temp k, min (duty k) 100⟩
  ⟨point 0, point 1, point 2, point 3, point 4, point 5⟩

theorem frameCurve_curveFrame (htemp : ∀ k, -32768 ≤ temp k ∧ temp k ≤ 32767) (hduty : ∀ k, duty k < 256) :
    frameCurve (curveFrame n temp duty) = storedCurve temp duty := by
  have hpoint (k : Fin 6) : framePoint (curveFrame n temp duty) k = ⟨temp k, min (duty k) 100⟩ := by
    rw [framePoint, s16_curveFrame htemp, u8_curveFrame hduty]
  exact (Curve.mk.injEq ..).mpr ⟨hpoint 0, hpoint 1, hpoint 2, hpoint 3, hpoint 4, hpoint 5⟩

/-- The clamp of the duties changes none exactly if none is above 100 (R115). -/
theorem dutyAbove_curveFrame_eq_false (hduty : ∀ k, duty k < 256) :
    ((List.range 6).any fun i => 100 < u8 (curveFrame n temp duty) (3 + 3 * i)) = false ↔ ∀ k, duty k ≤ 100 := by
  simp only [List.any_eq_false, List.mem_range, decide_eq_true_eq, Nat.not_lt]
  calc (∀ i < 6, u8 (curveFrame n temp duty) (3 + 3 * i) ≤ 100)
    _ ↔ ∀ k : Fin 6, u8 (curveFrame n temp duty) (3 + 3 * k) ≤ 100 := ⟨fun h k => h k k.isLt, fun h i hi => h ⟨i, hi⟩⟩
    _ ↔ ∀ k, duty k ≤ 100 := forall_congr' fun k => by rw [u8_curveFrame hduty]

theorem rising_iff (c : Curve) : rising c = true ↔ c.p0.temp < c.p1.temp ∧ c.p1.temp < c.p2.temp ∧
    c.p2.temp < c.p3.temp ∧ c.p3.temp < c.p4.temp ∧ c.p4.temp < c.p5.temp := by
  simp [rising, and_assoc]

theorem thCurve_badFan (hp : p.length = 19) (hn : fanOf (u8 p 0) = none) : thCurve p s = refuse .badValue s := by
  rw [thCurve, ofLength_of_length hp, withFan_none hn]

theorem thCurve_rising (hp : p.length = 19) (hn : fanOf (u8 p 0) = some fan) (hr : rising (frameCurve p) = true) :
    thCurve p s = accept (clampedIf ((List.range 6).any fun i => 100 < u8 p (3 + 3 * i))) []
      (s.mapCc fun c => { c with curves := c.curves.set fan (frameCurve p) }) := by
  rw [thCurve, ofLength_of_length hp, withFan_some hn, hr]
  rfl

theorem thCurve_notRising (hp : p.length = 19) (hn : fanOf (u8 p 0) = some fan) (hr : ¬rising (frameCurve p) = true) :
    thCurve p s = refuse .badValue s := by
  rw [thCurve, ofLength_of_length hp, withFan_some hn, Bool.eq_false_of_not_eq_true hr]
  rfl

theorem thCurve_curveFrame_rising (hn : fanOf (u8 (curveFrame n temp duty) 0) = some fan)
    (htemp : ∀ k, -32768 ≤ temp k ∧ temp k ≤ 32767) (hduty : ∀ k, duty k < 256)
    (hr : rising (storedCurve temp duty) = true) :
    thCurve (curveFrame n temp duty) s = accept (if ∀ k, duty k ≤ 100 then .ok else .clamped) []
      (s.mapCc fun c => { c with curves := c.curves.set fan (storedCurve temp duty) }) := by
  have hcurve : frameCurve (curveFrame n temp duty) = storedCurve temp duty := frameCurve_curveFrame htemp hduty
  rw [thCurve_rising rfl hn (hcurve ▸ hr), hcurve, clampedIf_eq (dutyAbove_curveFrame_eq_false hduty)]

theorem thCurve_curveFrame_notRising (hn : fanOf (u8 (curveFrame n temp duty) 0) = some fan)
    (htemp : ∀ k, -32768 ≤ temp k ∧ temp k ≤ 32767) (hduty : ∀ k, duty k < 256)
    (hr : ¬rising (storedCurve temp duty) = true) : thCurve (curveFrame n temp duty) s = refuse .badValue s :=
  thCurve_notRising rfl hn (frameCurve_curveFrame htemp hduty ▸ hr)

end

/-! ## TH_MASK (R116) -/

theorem thMask_badFan (hp : p.length = 3) (hn : fanOf (u8 p 0) = none) : thMask p s = refuse .badValue s := by
  rw [thMask, ofLength_of_length hp, withFan_none hn]

theorem thMask_floor (hp : p.length = 3) (hn : fanOf (u8 p 0) = some fan) (hc : u8 p 1 = 0) :
    thMask p s = accept .ok []
      (s.mapCc fun c => { c with masks := c.masks.set fan { c.masks.get fan with floor := p.getD 2 0 } }) := by
  rw [thMask, ofLength_of_length hp, withFan_some hn, if_pos hc]

theorem thMask_ceiling (hp : p.length = 3) (hn : fanOf (u8 p 0) = some fan) (hc : u8 p 1 = 1) :
    thMask p s = accept .ok []
      (s.mapCc fun c => { c with masks := c.masks.set fan { c.masks.get fan with ceiling := p.getD 2 0 } }) := by
  rw [thMask, ofLength_of_length hp, withFan_some hn, if_neg (by omega), if_pos hc]

theorem thMask_badClass (hp : p.length = 3) (hn : fanOf (u8 p 0) = some fan) (hc : 2 ≤ u8 p 1) :
    thMask p s = refuse .badValue s := by
  rw [thMask, ofLength_of_length hp, withFan_some hn, if_neg (by omega), if_neg (by omega)]

/-! ## TH_LIMITS (R114) -/

/-- The frame of TH_LIMITS (R187): the sensor number and the three values. -/
def limitsFrame (n : Nat) (hold override trip : Int) : Payload :=
  byte n :: le16s hold ++ le16s override ++ le16s trip

theorem thLimits_badSensor (hp : p.length = 7) (hn : sensorOf (u8 p 0) = none) :
    thLimits p s = refuse .badValue s := by
  rw [thLimits, ofLength_of_length hp, hn]

/-- The values are in the order that the limits of a sensor keep (R110). -/
def Limits.Ordered (l : Limits) : Prop := l.hold < l.override ∧ l.override < l.trip

theorem thLimits_ordered (hp : p.length = 7) (hn : sensorOf (u8 p 0) = some sn) (hl : (frameLimits p).Ordered) :
    thLimits p s = accept (clampedIf (frameLimits p ≠ ⟨s16 p 1, s16 p 3, s16 p 5⟩)) (limitBytes (frameLimits p))
      (s.mapCc fun c => { c with limits := c.limits.set sn (frameLimits p) }) := by
  rw [thLimits, ofLength_of_length hp, hn]
  exact if_pos (by simpa [Limits.Ordered] using hl)

theorem thLimits_notOrdered (hp : p.length = 7) (hn : sensorOf (u8 p 0) = some sn) (hl : ¬(frameLimits p).Ordered) :
    thLimits p s = refuse .badValue s := by
  rw [thLimits, ofLength_of_length hp, hn]
  exact if_neg (by simpa [Limits.Ordered] using hl)

section
variable {n : Nat} {hold override trip : Int}

/-- The limits that the three values give, each clamped to 0 to 1500 (R114). -/
def storedLimits (hold override trip : Int) : Limits :=
  ⟨max 0 (min hold 1500), max 0 (min override 1500), max 0 (min trip 1500)⟩

theorem s16_limitsFrame (hhold : -32768 ≤ hold ∧ hold ≤ 32767) (hoverride : -32768 ≤ override ∧ override ≤ 32767)
    (htrip : -32768 ≤ trip ∧ trip ≤ 32767) : s16 (limitsFrame n hold override trip) 1 = hold
      ∧ s16 (limitsFrame n hold override trip) 3 = override ∧ s16 (limitsFrame n hold override trip) 5 = trip :=
  ⟨s16_field hhold rfl, s16_field hoverride rfl, s16_field htrip rfl⟩

theorem frameLimits_of_fields (hhold : s16 p 1 = hold) (hoverride : s16 p 3 = override) (htrip : s16 p 5 = trip) :
    frameLimits p = storedLimits hold override trip := by
  have hclamp (x : Int) : clampInt x 0 1500 = max 0 (min x 1500) := clampInt_eq_max_min (by decide)
  rw [frameLimits, hhold, hoverride, htrip, hclamp, hclamp, hclamp, storedLimits]

theorem thLimits_stored (hp : p.length = 7) (hn : sensorOf (u8 p 0) = some sn) (hhold : s16 p 1 = hold)
    (hoverride : s16 p 3 = override) (htrip : s16 p 5 = trip) (hl : (storedLimits hold override trip).Ordered) :
    thLimits p s = accept (if storedLimits hold override trip = ⟨hold, override, trip⟩ then .ok else .clamped)
      (limitBytes (storedLimits hold override trip))
      (s.mapCc fun c => { c with limits := c.limits.set sn (storedLimits hold override trip) }) := by
  have hlimits := frameLimits_of_fields hhold hoverride htrip
  rw [thLimits_ordered hp hn (hlimits ▸ hl), hlimits, hhold, hoverride, htrip,
    clampedIf_eq (kept := storedLimits hold override trip = ⟨hold, override, trip⟩) (by simp)]

end

/-- Settles O38: the fields of each frame are the values it encodes, and each case of the fan, the sensor, the class and
the order of the values is one case of the request. -/
theorem coolingTablesStored : Obligations.CoolingTablesStored := by
  intro s hs
  refine ⟨fun n temp duty hn htemp hduty => ?curve, fun n c m hn hc => ?mask,
    fun n hold override trip hn hholdLow hholdHigh hoverrideLow hoverrideHigh htripLow htripHigh => ?limits,
    fun p hp => request_of_badLength hs (ofLength_of_length_ne hp _),
    fun p hp => request_of_badLength hs (ofLength_of_length_ne hp _),
    fun p hp => request_of_badLength hs (ofLength_of_length_ne hp _)⟩
  case curve =>
    change request thCurve (curveFrame n temp duty) s = _
    have hfits : (curveFrame n temp duty).length ≤ 48 := Nat.le_of_ble_eq_true rfl
    have hnumber : u8 (curveFrame n temp duty) 0 = n := u8_field hn rfl
    have hrising := rising_iff (storedCurve temp duty)
    cases hfan : fanOf n with
    | none => exact request_of_reply hs hfits (thCurve_badFan rfl (hnumber.symm ▸ hfan))
    | some fan =>
      rw [← hnumber] at hfan
      dsimp only
      split
      next hr =>
        exact request_of_reply hs hfits (thCurve_curveFrame_rising hfan htemp hduty (hrising.mpr hr))
      next hr =>
        exact request_of_reply hs hfits (thCurve_curveFrame_notRising hfan htemp hduty (hrising.not.mpr hr))
  case mask =>
    change request thMask [byte n, byte c, m] s = _
    have hfits : [byte n, byte c, m].length ≤ 48 := Nat.le_of_ble_eq_true rfl
    have hnumber : u8 [byte n, byte c, m] 0 = n := u8_field hn rfl
    have hclass : u8 [byte n, byte c, m] 1 = c := u8_field hc rfl
    cases hfan : fanOf n with
    | none => exact request_of_reply hs hfits (thMask_badFan rfl (hnumber.symm ▸ hfan))
    | some fan =>
      rw [← hnumber] at hfan
      match c with
      | 0 => exact request_of_reply hs hfits (thMask_floor rfl hfan hclass)
      | 1 => exact request_of_reply hs hfits (thMask_ceiling rfl hfan hclass)
      | c + 2 => exact request_of_reply hs hfits (thMask_badClass rfl hfan (by omega))
  case limits =>
    change request thLimits (limitsFrame n hold override trip) s = _
    have hfits : (limitsFrame n hold override trip).length ≤ 48 := Nat.le_of_ble_eq_true rfl
    have hnumber : u8 (limitsFrame n hold override trip) 0 = n := u8_field hn rfl
    obtain ⟨hhold, hoverride, htrip⟩ := s16_limitsFrame (n := n) ⟨hholdLow, hholdHigh⟩ ⟨hoverrideLow, hoverrideHigh⟩
      ⟨htripLow, htripHigh⟩
    cases hsensor : sensorOf n with
    | none => exact request_of_reply hs hfits (thLimits_badSensor rfl (hnumber.symm ▸ hsensor))
    | some sn =>
      rw [← hnumber] at hsensor
      dsimp only
      split
      next hl =>
        exact request_of_reply hs hfits (thLimits_stored rfl hsensor hhold hoverride htrip hl)
      next hl =>
        exact request_of_reply hs hfits
          (thLimits_notOrdered rfl hsensor (frameLimits_of_fields hhold hoverride htrip ▸ hl))

end Sys2Proof.Machine
end

section
/-! The alert requests of 11_command_link_and_alerts: the mask a payload encodes, what each change of the alert fields
does to one flag, and from these AL_READ, AL_ACK and AL_ENABLE. -/

namespace Sys2Proof.Machine

variable {s : State} {p : Payload} {mask : FlagSet} {n k : Nat}

/-! ## The mask of a payload (R180, R182, R185) -/

/-- A two-byte payload is within the link's longest (R173). -/
theorem le16_fits (n : Nat) : (le16 n).length ≤ 48 := Nat.le_of_ble_eq_true rfl

theorem u16_le16 (hn : n < 65536) : u16 (le16 n) 0 = n := le16_value hn

theorem maskOf_le16 (hn : n < 2048) : maskOf (le16 n) = some (BitVec.ofNat 11 n) := by
  rw [maskOf, u16_le16 (by omega), if_pos hn]

theorem maskOf_le16_eq_none (hlow : 2048 ≤ n) (hhigh : n < 65536) : maskOf (le16 n) = none := by
  rw [maskOf, u16_le16 hhigh, if_neg (Nat.not_lt.mpr hlow)]

theorem getLsbD_ofNat_mask (n : Nat) (hk : k < 11) : (BitVec.ofNat 11 n).getLsbD k = n.testBit k := by
  rw [BitVec.getLsbD_ofNat, decide_eq_true hk, Bool.true_and]

theorem getLsbD_flagBit_trip (k : Nat) : (flagBit .trip).getLsbD k = (k == 8) := by
  rw [show flagBit .trip = BitVec.twoPow 11 8 from rfl, BitVec.getLsbD_twoPow, Bool.eq_iff_iff]
  simp only [Bool.and_eq_true, decide_eq_true_eq, beq_iff_eq]
  omega

/-! ## Acknowledged flags (R182) -/

theorem getLsbD_ackCleared (mask : FlagSet) (a : Alerts) (k : Nat) :
    (ackCleared mask a).getLsbD k = (mask.getLsbD k && a.set.getLsbD k && a.read.getLsbD k) := by
  rw [ackCleared, BitVec.getLsbD_and, BitVec.getLsbD_and]

theorem getLsbD_and_not (x y : FlagSet) (hk : k < 11) :
    (x &&& ~~~y).getLsbD k = (x.getLsbD k && !y.getLsbD k) := by
  rw [BitVec.getLsbD_and, BitVec.getLsbD_not, decide_eq_true hk, Bool.true_and]

/-- The flags that an acknowledgement reports as cleared are those that were set and no longer are. -/
theorem set_and_not_ackIn_set (mask : FlagSet) (a : Alerts) : a.set &&& ~~~(ackIn mask a).set = ackCleared mask a := by
  refine BitVec.eq_of_getLsbD_eq fun k hk => ?_
  have hset : (ackIn mask a).set = a.set &&& ~~~ackCleared mask a := rfl
  rw [hset, getLsbD_and_not _ _ hk, getLsbD_and_not _ _ hk, getLsbD_ackCleared]
  cases a.set.getLsbD k <;> simp

/-! ## Enables (R180) -/

theorem getLsbD_enableIn_enable (mask : FlagSet) (a : Alerts) (k : Nat) :
    (enableIn mask a).enable.getLsbD k = (mask.getLsbD k || k == 8) := by
  rw [enableIn, BitVec.getLsbD_or, getLsbD_flagBit_trip]

theorem getLsbD_enableIn_armed (mask : FlagSet) (a : Alerts) (hk : k < 11) :
    (enableIn mask a).armed.getLsbD k
      = (a.armed.getLsbD k && !(a.enable.getLsbD k && !(enableIn mask a).enable.getLsbD k)) := by
  have harmed : (enableIn mask a).armed = a.armed &&& ~~~(a.enable &&& ~~~(enableIn mask a).enable) := rfl
  rw [harmed, getLsbD_and_not _ _ hk, getLsbD_and_not _ _ hk]

/-! ## AL_READ (R181) -/

theorem alRead_nil (s : State) : alRead [] s =
    accept .ok (maskBytes s.au.set ++ maskBytes s.au.armed ++ maskBytes s.au.enable) (s.mapAu readIn) := by
  rw [alRead, ofLength_of_length List.length_nil]

/-- Settles O43: the empty payload is the only one of the length that `alRead` takes. -/
theorem alertReadMarks : Obligations.AlertReadMarks := by
  intro s p hs
  refine ⟨fun hp => ?_, fun hp => ?_⟩
  · subst hp
    exact request_of_reply hs (Nat.zero_le _) (alRead_nil s)
  · exact request_of_badLength hs (ofLength_of_length_ne (List.length_eq_zero_iff.not.mpr hp) _)

/-! ## AL_ACK (R182) -/

theorem alAck_mask (hp : p.length = 2) (hm : maskOf p = some mask) : alAck p s =
    accept .ok (maskBytes (ackCleared mask s.au) ++ maskBytes (ackIn mask s.au).set) (s.mapAu (ackIn mask)) := by
  rw [alAck, ofLength_of_length hp, hm]

theorem alAck_badMask (hp : p.length = 2) (hm : maskOf p = none) : alAck p s = refuse .badValue s := by
  rw [alAck, ofLength_of_length hp, hm]

/-- Settles O44: the mask of the payload decides between `ackIn`, which clears flag by flag, and the refusal. -/
theorem alertAckClears : Obligations.AlertAckClears := by
  intro s hs
  refine ⟨fun n hn => ?_, fun n hlow hhigh => ?_, fun p hp => ?_⟩
  · refine ⟨ackIn (BitVec.ofNat 11 n) s.au, fun k hk => ?_, rfl, ?_⟩
    · dsimp only
      rw [← getLsbD_ofNat_mask n hk, ← getLsbD_ackCleared]
      exact ⟨getLsbD_and_not _ _ hk, getLsbD_and_not _ _ hk, getLsbD_and_not _ _ hk⟩
    · rw [set_and_not_ackIn_set]
      exact request_of_reply hs (le16_fits n) (alAck_mask rfl (maskOf_le16 hn))
  · exact request_of_reply hs (le16_fits n) (alAck_badMask rfl (maskOf_le16_eq_none hlow hhigh))
  · exact request_of_badLength hs (ofLength_of_length_ne hp _)

/-! ## AL_ENABLE (R180) -/

theorem alEnable_mask (hp : p.length = 2) (hm : maskOf p = some mask) : alEnable p s =
    accept .ok (maskBytes s.au.enable ++ maskBytes (enableIn mask s.au).enable ++ maskBytes (enableIn mask s.au).armed)
      (s.mapAu (enableIn mask)) := by
  rw [alEnable, ofLength_of_length hp, hm]

theorem alEnable_badMask (hp : p.length = 2) (hm : maskOf p = none) : alEnable p s = refuse .badValue s := by
  rw [alEnable, ofLength_of_length hp, hm]

/-- Settles O45: the mask of the payload decides between `enableIn`, which acts flag by flag, and the refusal. TRIP's
enable stays yes by `enableIn` alone, whatever it was. -/
theorem alertEnableSets : Obligations.AlertEnableSets := by
  intro s hs _
  refine ⟨fun n hn => ?_, fun n hlow hhigh => ?_, fun p hp => ?_⟩
  · refine ⟨enableIn (BitVec.ofNat 11 n) s.au, fun k hk => ⟨?_, getLsbD_enableIn_armed _ _ hk⟩, rfl, rfl, ?_⟩
    · rw [getLsbD_enableIn_enable, getLsbD_ofNat_mask n hk]
    · exact request_of_reply hs (le16_fits n) (alEnable_mask rfl (maskOf_le16 hn))
  · exact request_of_reply hs (le16_fits n) (alEnable_badMask rfl (maskOf_le16_eq_none hlow hhigh))
  · exact request_of_badLength hs (ofLength_of_length_ne hp _)

end Sys2Proof.Machine
end

section
/-! The commands of the table: each is a request of the link, an event that acts when it is due, or one of the two ends
of the power-on reset. From this the form of a step, the totality of the commands, the frames and the reset. -/

namespace Sys2Proof.Machine

variable {s t : State} {i : Instr} {p : Payload} {code : Byte}

/-! ## The reply of a request and the three kinds of command -/

/-- The reply of a known request: a length above 48 is BAD_LENGTH, and otherwise the owning block acts (R173, R175). -/
def checked (handler : Payload → State → Reply × State) (p : Payload) : State → Reply × State :=
  if maxPayload < p.length then refuse .badLength else handler p

theorem request_eq (handler : Payload → State → Reply × State) (p : Payload) (s : State) :
    request handler p s = takeFrame (checked handler p) s := rfl

/-- What a request command answers once its frame is taken (R175); none for a command that is no frame. -/
def replyTo : Instr → Option (State → Reply × State)
  | .plCreate p => some (checked plCreate p)
  | .plWrite p => some (checked plWrite p)
  | .plRead p => some (checked plRead p)
  | .plRetire p => some (checked plRetire p)
  | .plList p => some (checked plList p)
  | .plCapture p => some (checked plCapture p)
  | .plRecall p => some (checked plRecall p)
  | .plSetPark p => some (checked plSetPark p)
  | .rcQuery p => some (checked rcQuery p)
  | .lnMove p => some (checked lnMove p)
  | .lnJog p => some (checked lnJog p)
  | .lnStop p => some (checked lnStop p)
  | .lnLearn p => some (checked lnLearn p)
  | .lnSetRange p => some (checked lnSetRange p)
  | .lnQuery p => some (checked lnQuery p)
  | .gmSet p => some (checked gmSet p)
  | .gmNudge p => some (checked gmNudge p)
  | .gmQuery p => some (checked gmQuery p)
  | .gmRaster p => some (checked gmRaster p)
  | .gmOrient p => some (checked gmOrient p)
  | .thQuiet p => some (checked thQuiet p)
  | .thCurve p => some (checked thCurve p)
  | .thMask p => some (checked thMask p)
  | .thLimits p => some (checked thLimits p)
  | .thQuery p => some (checked thQuery p)
  | .fcTable p => some (checked fcTable p)
  | .fcEnable p => some (checked fcEnable p)
  | .fcReference p => some (checked fcReference p)
  | .snQuery p => some (checked snQuery p)
  | .mdWake p => some (checked mdWake p)
  | .mdDown p => some (checked mdDown p)
  | .mdClearTrip p => some (checked mdClearTrip p)
  | .mdSoftReset p => some (checked mdSoftReset p)
  | .mdQuery p => some (checked mdQuery p)
  | .alRead p => some (checked alRead p)
  | .alAck p => some (checked alAck p)
  | .alEnable p => some (checked alEnable p)
  | .unknownRequest code _ => if unknownCode code then some (refuse .badRequest) else none
  | _ => none

theorem exec_unknownRequest (hcode : unknownCode code = true) (p : Payload) (s : State) :
    exec (.unknownRequest code p) s = takeFrame (refuse .badRequest) s := if_pos hcode

theorem exec_of_replyTo {f : State → Reply × State} (h : replyTo i = some f) (s : State) :
    exec i s = takeFrame f s := by
  cases i
  case unknownRequest code p =>
    by_cases hcode : unknownCode code = true
    · rw [replyTo, if_pos hcode, Option.some_inj] at h
      rw [exec_unknownRequest hcode, h]
    · rw [replyTo, if_neg hcode] at h
      cases h
  all_goals
    cases h
  all_goals
    rfl

/-- The three kinds of command; an UNKNOWN_REQUEST that is none is of no kind (log 32). -/
inductive Command (i : Instr) : Prop where
  | request (f : State → Reply × State) (reply : replyTo i = some f)
  | event (due : State → Bool) (effect : State → State) (acts : ∀ s, exec i s = event (due s) effect s)
  | reset (is : i = .powerOnReset)
  | resetEnd (is : i = .powerOnResetEnd)
  | ignored (acts : ∀ s, exec i s = .next s)

theorem command (i : Instr) : Command i := by
  cases i
  case unknownRequest code p =>
    by_cases hcode : unknownCode code = true
    · exact .request _ (if_pos hcode)
    · exact .ignored fun _ => if_neg hcode
  case powerOnReset => exact .reset rfl
  case powerOnResetEnd => exact .resetEnd rfl
  all_goals
    first
    | exact .request _ rfl
    | exact .event _ _ fun _ => rfl

/-- An event that is due acts (log 2). -/
theorem event_of_due {due : Bool} (hheld : s.held = false) (hdue : due = true) (effect : State → State) :
    event due effect s = .next (effect s) := by
  rw [event_eq, hheld, hdue]
  rfl

/-! ## One step -/

/-- Settles O1: both are `step` at the two forms of the queue. -/
theorem stepRunsFrontCommand : Obligations.StepRunsFrontCommand := by
  intro i q s
  refine ⟨rfl, fun hempty => ?_⟩
  unfold step
  split
  · rfl
  · next h => exact nomatch hempty.symm.trans h

/-- Settles O3: a request, an event and the two ends of the reset each answer a next state. -/
theorem everyCommandAnswers : Obligations.EveryCommandAnswers := by
  have answers (i : Instr) (s : State) : ∃ t, exec i s = .next t := by
    cases command i with
    | request f hf => exact ⟨_, (exec_of_replyTo hf s).trans (takeFrame_eq f s)⟩
    | event due effect h => exact ⟨_, (h s).trans (event_eq _ _ s)⟩
    | reset h => subst h; exact ⟨_, rfl⟩
    | resetEnd h => subst h; exact ⟨_, rfl⟩
    | ignored h => exact ⟨_, h s⟩
  refine ⟨answers, fun s => ?_⟩
  rw [step]
  cases s.pending with
  | nil => exact ⟨_, rfl⟩
  | cons i rest => exact answers i _

/-! ## The reset -/

/-- Settles O6: the two ends of the reset, written out. -/
theorem powerOnResetAndItsEnd : Obligations.PowerOnResetAndItsEnd := by
  intro s
  refine ⟨rfl, fun hheld => ?_⟩
  exact congrArg Host.Outcome.next (if_pos hheld)

/-- Settles O7: a held part takes no frame and no event. -/
theorem heldPartIgnoresCommands : Obligations.HeldPartIgnoresCommands := by
  intro i s hheld hreset hend
  cases command i with
  | request f hf => rw [exec_of_replyTo hf, takeFrame_eq, hheld]; rfl
  | event due effect h => rw [h, event_eq, hheld]; rfl
  | reset h => exact absurd h hreset
  | resetEnd h => exact absurd h hend
  | ignored h => exact h s

/-! ## Frames (R172 to R175, R187) -/

theorem requestOf_unknown (h : unknownCode code = true) (p : Payload) : requestOf code p = .unknownRequest code p := by
  simp only [unknownCode, Bool.and_eq_true, decide_eq_true_eq] at h
  obtain ⟨-, h⟩ := h
  unfold requestOf at h ⊢
  split at h <;> first | rfl | cases h

/-- The code of a well-formed request is not that of a fetch, and names the request again. -/
theorem requestOf_frameOf (hi : i.WellFormed = true) (h : frameOf i = some (code, p)) :
    code ≠ 0 ∧ requestOf code p = i := by
  cases i
  case unknownRequest c q =>
    cases h
    simp only [Instr.WellFormed, Bool.and_eq_true] at hi
    obtain ⟨hcode, -⟩ := hi
    refine ⟨?_, requestOf_unknown hcode _⟩
    simp only [unknownCode, Bool.and_eq_true, decide_eq_true_eq] at hcode
    exact hcode.1
  all_goals
    cases h
  all_goals
    exact ⟨by decide, rfl⟩

/-- Settles O4: the code names the request and the length byte its payload. -/
theorem framesRoundTrip : Obligations.FramesRoundTrip := by
  intro i code p bytes hi hframe hfits hbytes
  obtain ⟨hcode, hrequest⟩ := requestOf_frameOf hi hframe
  rw [encodeFrame, hframe, Option.map_some, Option.some_inj] at hbytes
  subst hbytes
  have hlength : (BitVec.ofNat 8 p.length).toNat = p.length := by
    rw [BitVec.toNat_ofNat]
    omega
  have hlong : ¬maxPayload < p.length := Nat.not_lt.mpr hfits
  simp only [decodeTransaction, if_neg hcode, hlength, if_neg hlong, lt_irrefl, if_false, List.take_length, hrequest]

/-- A well-formed frame is a request. -/
theorem replyTo_isSome_of_frameOf (hi : i.WellFormed = true) (h : frameOf i = some (code, p)) :
    ∃ f, replyTo i = some f := by
  cases i
  case unknownRequest c q =>
    simp only [Instr.WellFormed, Bool.and_eq_true] at hi
    exact ⟨_, if_pos hi.1⟩
  all_goals
    first
    | exact ⟨_, rfl⟩
    | cases h

theorem mapCl_markOverrun {r : Response} (hexec : s.cl.exec = .executing) (hslot : s.cl.slot = .pending r) :
    s.mapCl markOverrun = { s with cl := ⟨.executing, .pending { r with overrun := true }, none⟩ } := by
  rw [State.mapCl, markOverrun, hslot, hexec]

theorem takeFrame_of_executing {r : Response} (hheld : s.held = false) (hexec : s.cl.exec = .executing)
    (hslot : s.cl.slot = .pending r) (f : State → Reply × State) :
    takeFrame f s = .next { s with cl := ⟨.executing, .pending { r with overrun := true }, none⟩ } := by
  rw [takeFrame_eq, if_neg (by simp [hheld]), if_pos hexec, mapCl_markOverrun hexec hslot]

/-- Settles O46: a frame in IDLE is answered by its owner, and one in EXECUTING only sets the overrun marker. -/
theorem framesTaken : Obligations.FramesTaken := by
  intro i code p s hi hframe hheld
  obtain ⟨f, hf⟩ := replyTo_isSome_of_frameOf hi hframe
  refine ⟨fun hidle => ?_, fun hidle hcode => ?_, fun r hexec hslot => ⟨?_, ?_⟩⟩
  · exact ⟨_, _, (exec_of_replyTo hf s).trans (takeFrame_of_ready ⟨hheld, hidle⟩ f), rfl, rfl, rfl⟩
  · rw [exec_unknownRequest hcode, takeFrame_of_ready ⟨hheld, hidle⟩]
    rfl
  · rw [exec_of_replyTo hf, takeFrame_of_executing hheld hexec hslot]
  · have hevent : exec .frameOverrun s = event (s.cl.exec = .executing) (·.mapCl markOverrun) s := rfl
    rw [hevent, event_of_due hheld (decide_eq_true hexec), mapCl_markOverrun hexec hslot]

end Sys2Proof.Machine
end

section
/-! The alert flags: what an occurrence does to each of the eleven flags, and ATTN_N (R179, R183). -/

namespace Sys2Proof.Machine

variable {s : State} {a : Alerts} {f g : Flag} {k : Nat}

theorem flagNumber_lt (f : Flag) : flagNumber f < 11 := by cases f <;> decide

theorem flagNumber_inj (h : flagNumber f = flagNumber g) : f = g := by
  cases f <;> cases g <;> first | rfl | exact absurd h (by decide)

theorem exists_flagNumber (hk : k < 11) : ∃ f, flagNumber f = k := by
  have h : ∀ k : Fin 11, ∃ f ∈ [Flag.motionEnd, .axisFault, .recallDone, .geometryLive, .fanFault, .sensorFault, .derate,
      .override, .trip, .modeChange, .timingLost], flagNumber f = k.val := by decide
  obtain ⟨f, -, hf⟩ := h ⟨k, hk⟩
  exact ⟨f, hf⟩

theorem getLsbD_flagBit (f : Flag) (k : Nat) : (flagBit f).getLsbD k = (k == flagNumber f) := by
  have h := flagNumber_lt f
  rw [flagBit, show (1#11 <<< flagNumber f) = BitVec.twoPow 11 (flagNumber f) from rfl, BitVec.getLsbD_twoPow,
    Bool.eq_iff_iff]
  simp only [Bool.and_eq_true, decide_eq_true_eq, beq_iff_eq]
  omega

/-! ## An occurrence, flag by flag (R179) -/

theorem getLsbD_occurIn_set (f : Flag) (a : Alerts) (k : Nat) :
    (occurIn f a).set.getLsbD k = (a.set.getLsbD k || k == flagNumber f) := by
  rw [occurIn, BitVec.getLsbD_or, getLsbD_flagBit]

theorem getLsbD_occurIn_read (f : Flag) (a : Alerts) (hk : k < 11) :
    (occurIn f a).read.getLsbD k = (a.read.getLsbD k && !(k == flagNumber f)) := by
  rw [occurIn, getLsbD_and_not _ _ hk, getLsbD_flagBit]

theorem getLsbD_occurIn_armed (f : Flag) (a : Alerts) (k : Nat) :
    (occurIn f a).armed.getLsbD k = (a.armed.getLsbD k || (k == flagNumber f && (a.enable.getLsbD k || k == 8))) := by
  rw [occurIn, BitVec.getLsbD_or, BitVec.getLsbD_and, BitVec.getLsbD_or, getLsbD_flagBit, getLsbD_flagBit]
  rfl

theorem flagNumber_eq_eight : (flagNumber f == 8) = decide (f = .trip) := by cases f <;> rfl

theorem differ_occurIn (f : Flag) (a : Alerts) : a.Differ (occurIn f a) f := by
  refine ⟨rfl, fun k hk => ⟨fun h => ?_, fun h => ?_⟩⟩
  · subst h
    rw [getLsbD_occurIn_set, getLsbD_occurIn_read _ _ hk, getLsbD_occurIn_armed, beq_self_eq_true, flagNumber_eq_eight]
    simp [Bool.or_assoc]
  · rw [getLsbD_occurIn_set, getLsbD_occurIn_read _ _ hk, getLsbD_occurIn_armed, beq_false_of_ne h]
    simp

theorem flagged_occur_self (f : Flag) (s : State) : (occur f s).flagged f := by
  have hk := flagNumber_lt f
  obtain ⟨-, hdiffer⟩ := differ_occurIn f s.au
  obtain ⟨hset, hread, harmed⟩ := (hdiffer _ hk).1 rfl
  refine ⟨hset, hread, fun henabled => harmed.trans ?_⟩
  have henabled : s.au.enable.getLsbD (flagNumber f) = true ∨ f = .trip := henabled
  simp only [Bool.or_eq_true, decide_eq_true_eq]
  tauto

/-- A flag that has occurred stays so when another occurs. -/
theorem flagged_occur (g : Flag) (h : s.flagged f) : (occur g s).flagged f := by
  by_cases hfg : f = g
  · exact hfg ▸ flagged_occur_self f s
  · obtain ⟨henable, hdiffer⟩ := differ_occurIn g s.au
    obtain ⟨hset, hread, harmed⟩ := (hdiffer _ (flagNumber_lt f)).2 fun h => hfg (flagNumber_inj h)
    obtain ⟨hset', hread', harmed'⟩ := h
    exact ⟨hset.trans hset', hread.trans hread', fun he => harmed.trans (harmed' (henable ▸ he))⟩

theorem flagged_occurIf_self {b : Bool} (h : s.flagged f ∨ b = true) : (occurIf b f s).flagged f := by
  unfold occurIf
  split
  · exact flagged_occur_self f s
  · exact h.resolve_right ‹_›

theorem flagged_occurIf (b : Bool) (g : Flag) (h : s.flagged f) : (occurIf b g s).flagged f := by
  unfold occurIf
  split
  · exact flagged_occur g h
  · exact h

/-- Only the flags say whether a flag has occurred. -/
theorem flagged_of_au {t : State} (h : s.flagged f) (hau : t.au = s.au) : t.flagged f := by
  rw [State.flagged, hau]
  exact h

/-! ## ATTN_N (R183) -/

theorem attentionLow_iff (a : Alerts) : attentionLow a = true ↔ ∃ f, a.armed.getLsbD (flagNumber f) = true := by
  rw [attentionLow, decide_eq_true_eq]
  refine ⟨fun h => ?_, fun ⟨f, hf⟩ hzero => ?_⟩
  · by_contra hnone
    refine h (BitVec.eq_of_getLsbD_eq fun k hk => ?_)
    obtain ⟨f, rfl⟩ := exists_flagNumber hk
    have := not_exists.mp hnone f
    rw [Bool.eq_false_of_not_eq_true this]
    simp
  · rw [hzero] at hf
    simp at hf

end Sys2Proof.Machine
end

section
/-! The ports: the response slot and CMD_DO, the lookup transactions and LK_DO, and the fields of the records at their
byte positions (R156 to R161, R172 to R176, R189). -/

namespace Sys2Proof.Machine

variable {s : State}

/-! ## Marks and fields of a payload (R185) -/

theorem marks_eq (bs : List Bool) : marks bs = byte (bitsOf bs) := by
  have h : bs.foldr (fun b n => b.toNat + 2 * n) 0 = bitsOf bs := by
    induction bs with
    | nil => rfl
    | cons b bs ih => rw [List.foldr_cons, ih, bitsOf]; cases b <;> rfl
  rw [marks, h]

theorem mark_eq (b : Bool) : mark b = if b then 1 else 0 := rfl

/-! ## Responses and fetches -/

theorem exec_responseFormed {r : Response} (hheld : s.held = false) (hexec : s.cl.exec = .executing)
    (hslot : s.cl.slot = .pending r) : exec .responseFormed s = .next { s with
      cl := { s.cl with exec := .idle, slot := .full { r with payload := formedPayload s.mq.awaited r.payload } }
      mq := { s.mq with awaited := none } } := by
  have hevent : exec .responseFormed s = event (s.cl.exec = .executing)
    (fun s => (s.mapCl (formResponse s.mq.awaited)).mapMq fun q => { q with awaited := none }) s := rfl
  rw [hevent, event_of_due hheld (decide_eq_true hexec), State.mapCl, formResponse, hslot]
  rfl

theorem exec_responseFetched {r : Response} (hheld : s.held = false) (hslot : s.cl.slot = .full r)
    (hfetch : s.cl.fetch = some (.response r)) :
    exec .responseFetched s = .next { s with cl := { s.cl with slot := .empty, fetch := none } } := by
  have hevent : exec .responseFetched s = event true (·.mapCl emptySlot) s := rfl
  rw [hevent, event_of_due hheld rfl, State.mapCl, emptySlot, hslot, hfetch]

theorem commandOut_of_running (hheld : s.held = false) (moment : LinkMoment) : s.commandOut moment =
    match moment with
    | .released => .highImpedance
    | .firstByte => .sends 0
    | .later first n => if first = 0 then .sends (((s.cl.fetch.elim [] answerBytes)[n - 1]?).getD 0) else .sends 0 := by
  unfold State.commandOut
  exact if_neg (by simp [hheld])

/-- Settles O47: the slot decides each answer, and the link's moment what CMD_DO sends. -/
theorem fetchAnswersSlot : Obligations.FetchAnswersSlot := by
  intro s hheld
  refine ⟨fun r hexec hslot => ?_, ?_, fun r => exec_responseFetched hheld, ?_, rfl, rfl, fun r => rfl, commandOut_of_running hheld _, commandOut_of_running hheld _, fun first n hfirst => ?_,
    fun a k hfetch => ?_⟩
  · rw [exec_responseFormed hheld hexec hslot]
    rfl
  · rw [exec, execFetch, event_of_due hheld rfl]
    rfl
  · rw [exec, execFrameDiscarded, event_of_due hheld rfl]
    rfl
  · rw [commandOut_of_running hheld]
    exact if_neg hfirst
  · rw [commandOut_of_running hheld, hfetch]
    simp

/-! ## Lookup records -/

theorem bandBytes_fields (generation : BitVec 8) (b : Band) :
    ∀ field ∈ bandFields generation b, FieldAt (bandBytes generation b) field := by
  simp only [bandFields, List.forall_mem_cons, ← marks_eq]
  exact ⟨rfl, rfl, rfl, rfl, rfl, rfl, rfl, rfl, fun _ h => nomatch h⟩

theorem frameBytes_fields (e : GeometryEngine) :
    ∀ field ∈ frameFields e, FieldAt (frameBytes e.generation e.timing e.live.frame) field := by
  simp only [frameFields, List.forall_mem_cons, ← marks_eq]
  exact ⟨rfl, rfl, rfl, rfl, rfl, rfl, rfl, rfl, fun _ h => nomatch h⟩

theorem recordAt_band (g : GeometryEngine) (c : Fin 65) (h : c.val < 64) :
    recordAt g c = bandBytes g.generation (g.live.bands[c.val]) := dif_pos h

theorem recordAt_frame (g : GeometryEngine) : recordAt g 64 = frameBytes g.generation g.timing g.live.frame := rfl

theorem length_recordAt (g : GeometryEngine) (c : Fin 65) : (recordAt g c).length = if c.val = 64 then 13 else 17 := by
  by_cases h : c.val < 64
  · rw [recordAt_band g c h, if_neg (by omega)]
    rfl
  · have hc : c = 64 := Fin.ext (by have := c.isLt; show c.val = 64; omega)
    rw [hc, recordAt_frame]
    rfl

theorem bandOf_of_empty (i : Inputs) (b : Nat) (h : (bandOf i b).kind = .empty) : bandOf i b = emptyBand := by
  unfold bandOf at h ⊢
  dsimp only at h ⊢
  split
  · rfl
  · next hkind =>
    rw [if_neg hkind] at h
    exact absurd h hkind

/-! ## Lookup transactions -/

theorem nextCursor_eq (c : Fin 65) : nextCursor c = if h : c.val < 64 then ⟨c.val + 1, by omega⟩ else 0 := by
  unfold nextCursor
  split
  · next h => exact Fin.ext (by rw [Fin.val_add]; exact Nat.mod_eq_of_lt (Nat.succ_lt_succ h))
  · next h => exact Fin.ext (by have := c.isLt; rw [Fin.val_add, show c.val = 64 by omega]; rfl)

theorem takeIndex_byte (c : Fin 65) : takeIndex (byte c) s = latchAt c s := by
  have hc : (byte c.val).toNat = c.val := Nat.mod_eq_of_lt (by omega)
  unfold takeIndex
  rw [dif_pos (by omega)]
  exact congrArg (latchAt · s) (Fin.ext hc)

theorem takeIndex_void {n : Nat} (hlow : 65 ≤ n) (hhigh : n < 256) :
    takeIndex (byte n) s = s.mapLp fun l => { l with state := .void } := by
  have hn : (byte n).toNat = n := Nat.mod_eq_of_lt hhigh
  exact dif_neg (by omega)

/-- Settles O48: each state of the port takes its event, and each record is one list of bytes. -/
theorem lookupTransactions : Obligations.LookupTransactions := by
  intro s hheld
  refine ⟨fun h => ?_, fun c h => ?_, fun n hlow hhigh h => ?_, fun h => ?_, ?_, length_recordAt s.ge, fun c h => ?_, ?_, bandOf_of_empty, fun k h => ?_, fun k h => ?_,
    fun c k h => ?_, fun t k h => ?_⟩
  · rw [exec, execLookupTransactionStart, event_of_due hheld (decide_eq_true h)]
    rfl
  · rw [exec, execLookupIndex, event_of_due hheld (decide_eq_true h), takeIndex_byte]
    rfl
  · rw [exec, execLookupIndex, event_of_due hheld (decide_eq_true h), takeIndex_void hlow hhigh]
    rfl
  · rw [exec, execRecordComplete, event_of_due hheld (decide_eq_true h), nextCursor_eq]
    rfl
  · rw [exec, execLookupTransactionEnd, event_of_due hheld rfl]
    rfl
  · rw [recordAt_band _ _ h]
    exact bandBytes_fields _ _
  · exact frameBytes_fields s.ge
  · rw [State.lookupOut, h]
  · obtain h | h := h <;> rw [State.lookupOut, h]
  · rw [State.lookupOut, h]
    simp
  · cases h
    rfl

end Sys2Proof.Machine
end

section
/-! The two banks and the frame timing: a compute's end, FRAME_START and the timing timer (R151 to R154). -/

namespace Sys2Proof.Machine

variable {s t : State} {f : Flag}

/-! ## The end of a recall, field by field -/

theorem occurIf_au (b : Bool) (f : Flag) (s : State) : occurIf b f s = s.mapAu fun a => if b then occurIn f a else a := by
  cases b <;> rfl

theorem endRecall_eq (o : RecallOutcome) (b : Bool) (s : State) : endRecall o b s = { s with
    setup := { s.setup with
      report := (s.setup.current.map (reportOf o)).or s.setup.report
      current := none, recallState := .none, pendingGeometry := none }
    au := if b then occurIn .recallDone s.au else s.au } := by
  rw [endRecall, occurIf_au]
  rfl

/-! ## The swap (R152) -/

theorem swapped_swapTo (hge : t.ge.active = s.ge.active ∧ t.ge.raster = s.ge.raster ∧ t.ge.orient = s.ge.orient
    ∧ t.ge.generation = s.ge.generation) (ht : t = { s with ge := t.ge, au := t.au }) (tb : Table) :
    Swapped tb s (swapTo tb t) := by
  obtain ⟨hactive, hraster, horient, hgeneration⟩ := hge
  have hsetup : t.setup = s.setup := by rw [ht]
  have houter : s.SameOuter (swapTo tb t) ∧ t.scan = s.scan ∧ t.lens = s.lens ∧ t.mq = s.mq ∧ t.fc = s.fc ∧ t.cc = s.cc
      ∧ t.mc = s.mc := by
    have h := lensOnly_swapTo (s := t) tb
    refine ⟨⟨h.pending.trans ?_, h.now.trans ?_, h.held.trans ?_, h.pt.trans ?_, h.lp.trans ?_, h.cl.trans ?_⟩,
      ?_, ?_, ?_, ?_, ?_, ?_⟩ <;> rw [ht]
  obtain ⟨hsame, hscan, hlens, hmq, hfc, hcc, hmc⟩ := houter
  have hoccur := flagged_occur_self .geometryLive (t.mapGe fun g =>
    { g with live := tb, generation := g.generation + 1, staged := .empty })
  by_cases happlying : t.setup.recallState = .applying
  · have hswap : swapTo tb t = endRecall ((t.setup.current.bind (·.outcome)).getD .complete) true (occur .geometryLive
        (t.mapGe fun g => { g with live := tb, generation := g.generation + 1, staged := .empty })) := if_pos happlying
    have hflag : (swapTo tb t).flagged .geometryLive :=
      hswap ▸ flagged_occurIf true .recallDone (flagged_of_au hoccur rfl)
    have hdone : (swapTo tb t).flagged .recallDone := hswap ▸ flagged_occurIf_self (.inr rfl)
    refine ⟨?_, ?_, ?_, hflag, fun _ => ⟨?_, ?_, hdone, fun rc hrc => ?_⟩, fun h => absurd (hsetup ▸ happlying) h, ?_, ?_, ?_,
      hsame, ?_, ?_, ?_, ?_, ?_, ?_⟩
    all_goals
      rw [hswap, endRecall_eq]
    case refine_2 => exact congrArg (· + 1) hgeneration
    case refine_6 =>
      rw [← hsetup] at hrc
      simp [occur, State.mapAu, State.mapGe, hrc]
    all_goals
      first
      | rfl
      | assumption
  · have hswap : swapTo tb t = occur .geometryLive
        (t.mapGe fun g => { g with live := tb, generation := g.generation + 1, staged := .empty }) := if_neg happlying
    rw [hswap] at hsame ⊢
    exact ⟨rfl, congrArg (· + 1) hgeneration, rfl, hoccur, fun h => absurd (hsetup ▸ h) happlying, fun _ => hsetup, hactive,
      hraster, horient, hsame, hscan, hlens, hmq, hfc, hcc, hmc⟩

theorem swapTo_timing (tb : Table) (s : State) : (swapTo tb s).ge.timing = s.ge.timing := by
  unfold swapTo recallAtSwap
  split
  · rw [endRecall_eq]; rfl
  · rfl

theorem flagged_swapTo (tb : Table) (h : s.flagged f) : (swapTo tb s).flagged f := by
  have hoccur : (occur .geometryLive (s.mapGe fun g =>
      { g with live := tb, generation := g.generation + 1, staged := .empty })).flagged f :=
    flagged_occur _ (flagged_of_au h rfl)
  unfold swapTo recallAtSwap
  split
  · exact flagged_occurIf _ _ (flagged_of_au hoccur rfl)
  · exact hoccur

theorem swapIfReady_ready {tb : Table} (h : s.ge.staged = .ready tb) : swapIfReady s = swapTo tb s := by
  rw [swapIfReady, h]

theorem swapIfReady_not_ready (h : ∀ tb, s.ge.staged ≠ .ready tb) : swapIfReady s = s := by
  unfold swapIfReady
  split
  · next tb hready => exact absurd hready (h tb)
  · rfl
  · rfl

/-! ## The three events -/

theorem completeCompute_computing {i : Inputs} {g : GeometryEngine} (h : g.staged = .computing i) :
    completeCompute g = { g with staged := .ready (computeTable i) } := by
  rw [completeCompute, h]

theorem exec_computeComplete {i : Inputs} (hheld : s.held = false) (h : s.ge.staged = .computing i) :
    exec .computeComplete s = .next (if s.ge.timing = .absent
      then swapTo (computeTable i) { s with ge := { s.ge with staged := .ready (computeTable i) } }
      else { s with ge := { s.ge with staged := .ready (computeTable i) } }) := by
  have hdue : computing s.ge = true := by rw [computing, h]
  rw [exec, execComputeComplete, event_of_due hheld hdue]
  simp only [State.mapGe, completeCompute_computing h]
  rfl

theorem exec_frameStart (hheld : s.held = false) : exec .frameStart s
    = .next (swapIfReady { s with ge := { s.ge with timing := .present (s.now + 100000) } }) := by
  rw [exec, execFrameStart, event_of_due hheld rfl]
  rfl

theorem exec_timingTimerExpiry {e : Time} (hheld : s.held = false) (h : s.ge.timing = .present e) (he : e ≤ s.now) :
    exec .timingTimerExpiry s
      = .next (swapIfReady (occur .timingLost { s with ge := { s.ge with timing := .absent } })) := by
  have hdue : timingDue s = true := by rw [timingDue, h]; exact decide_eq_true he
  rw [exec, execTimingTimerExpiry, event_of_due hheld hdue]
  rfl

/-- Settles O49: each event changes the timing or the STAGED bank, and a READY table then swaps. -/
theorem bandTableEvents : Obligations.BandTableEvents := by
  intro s hheld
  refine ⟨fun i hi => ⟨fun htiming => ?_, fun htiming => ?_⟩, fun hready => ?_, fun tb hready => ?_, fun e htiming he => ?_⟩
  · rw [exec_computeComplete hheld hi, if_neg htiming]
  · refine ⟨_, (exec_computeComplete hheld hi).trans (congrArg _ (if_pos htiming)), ?_, ?_⟩
    · exact swapped_swapTo ⟨rfl, rfl, rfl, rfl⟩ rfl _
    · exact (swapTo_timing _ _).trans htiming
  · exact (exec_frameStart hheld).trans (congrArg _ (swapIfReady_not_ready hready))
  · refine ⟨_, (exec_frameStart hheld).trans (congrArg _ (swapIfReady_ready hready)), ?_, swapTo_timing _ _⟩
    exact swapped_swapTo ⟨rfl, rfl, rfl, rfl⟩ rfl _
  · have hlost := flagged_occur_self .timingLost { s with ge := { s.ge with timing := .absent } }
    refine ⟨_, exec_timingTimerExpiry hheld htiming he, ?_, ?_, fun tb hready => ?_, fun hready => ?_⟩
    · unfold swapIfReady
      split
      · exact swapTo_timing _ _
      · rfl
      · rfl
    · unfold swapIfReady
      split
      · exact flagged_swapTo _ hlost
      · exact hlost
      · exact hlost
    · have hswap := swapIfReady_ready (s := occur .timingLost { s with ge := { s.ge with timing := .absent } }) hready
      exact hswap ▸ swapped_swapTo ⟨rfl, rfl, rfl, rfl⟩ rfl _
    · have hkept := swapIfReady_not_ready (s := occur .timingLost { s with ge := { s.ge with timing := .absent } }) hready
      rw [hkept]
      rfl

end Sys2Proof.Machine
end

section
/-! The converter and its schedules (R41 to R45), the fan update and the tach pulses (R119, R124). -/

namespace Sys2Proof.Machine

variable {s : State} {c : Scanner} {now : Time} {afterFast : Bool}

/-! ## The grant of a free converter (R41) -/

theorem grant_busy (h : c.converting ≠ none) : grant now afterFast c = c := by
  unfold grant
  split
  · rfl
  · contradiction

theorem grant_burst (hfree : c.converting = none) (h : 0 < c.burstLeft) :
    grant now afterFast c = startFast now { c with burstLeft := c.burstLeft - 1 } := by
  rw [grant, hfree]
  exact if_pos h

theorem grant_slow (hfree : c.converting = none) (hburst : c.burstLeft = 0) (hheld : c.slowHeld = true)
    (hmay : c.fastMode ≠ .triggered ∨ afterFast = true) : grant now afterFast c = startSlow now c := by
  have h : (c.slowHeld && (decide (c.fastMode ≠ .triggered) || afterFast)) = true := by simpa [hheld] using hmay
  rw [grant, hfree]
  exact (if_neg (by omega)).trans (if_pos h)

theorem grant_no_slow (hfree : c.converting = none) (hburst : c.burstLeft = 0)
    (hno : ¬(c.slowHeld = true ∧ (c.fastMode ≠ .triggered ∨ afterFast = true))) :
    grant now afterFast c
      = if c.burstWaiting then startFast now { c with burstLeft := 4, burstWaiting := false } else c := by
  have h : ¬(c.slowHeld && (decide (c.fastMode ≠ .triggered) || afterFast)) = true := by simpa using hno
  rw [grant, hfree]
  exact (if_neg (by omega)).trans (if_neg h)

/-- What the arbiter grants on a free converter is what R41 says. -/
theorem granted_grant (hfree : c.converting = none) : Granted now afterFast c (grant now afterFast c) := by
  refine ⟨fun h => grant_burst hfree h, fun hburst hmay => grant_slow hfree hburst hmay.1 hmay.2,
    fun hburst hheld hwaits => ?_, fun hburst hno hwaits => ?_⟩
  · rw [grant_no_slow hfree hburst (by simp [hheld]), hwaits]
    rfl
  · rw [grant_no_slow hfree hburst hno, hwaits]
    rfl

/-- Whatever was on a free converter, it keeps no burst in progress after a grant (R41). -/
theorem burstLeft_grant (h : (grant now afterFast c).converting = none) : (grant now afterFast c).burstLeft = 0 := by
  by_cases hfree : c.converting = none
  · obtain ⟨hrest, hslow, hburst, hnone⟩ := granted_grant (now := now) (afterFast := afterFast) hfree
    by_contra hleft
    by_cases hzero : c.burstLeft = 0
    · by_cases hmay : c.slowHeld = true ∧ (c.fastMode ≠ .triggered ∨ afterFast = true)
      · rw [hslow hzero hmay] at h
        cases h
      · rw [grant_no_slow hfree hzero hmay] at h hleft
        split at h
        · cases h
        · next hwaits => exact hleft (by rw [if_neg hwaits]; exact hzero)
    · rw [hrest (Nat.pos_of_ne_zero hzero)] at h
      cases h
  · rw [grant_busy hfree] at h
    exact absurd h hfree

/-! ## The schedules -/

theorem exec_slowConversionDue {d : Time} (hheld : s.held = false) (hnext : s.scan.nextSlow = some d) (hd : d ≤ s.now) :
    exec .slowConversionDue s = .next (s.mapScan (slowDue s.now)) := by
  have hdue : s.reached s.scan.nextSlow = true := by rw [hnext]; exact decide_eq_true hd
  rw [exec, execSlowConversionDue, event_of_due hheld hdue]

theorem exec_fastBurstDue {d : Time} (hheld : s.held = false) (hmode : s.scan.fastMode = .periodic)
    (hnext : s.scan.nextBurst = some d) (hd : d ≤ s.now) :
    exec .fastBurstDue s = .next (s.mapScan (burstDue s.now)) := by
  have hdue : (s.scan.fastMode = .periodic && s.reached s.scan.nextBurst) = true := by
    rw [hnext, hmode]; exact decide_eq_true hd
  rw [exec, execFastBurstDue, event_of_due hheld hdue]

theorem grant_frame : (grant now afterFast c).nextSlow = c.nextSlow ∧ (grant now afterFast c).nextBurst = c.nextBurst
    ∧ (grant now afterFast c).fastMode = c.fastMode ∧ (grant now afterFast c).therms = c.therms
    ∧ (grant now afterFast c).pots = c.pots ∧ (grant now afterFast c).supply = c.supply
    ∧ (grant now afterFast c).rounds = c.rounds ∧ (grant now afterFast c).slowInterval = c.slowInterval := by
  unfold grant startFast startSlow
  split
  · exact ⟨rfl, rfl, rfl, rfl, rfl, rfl, rfl, rfl⟩
  · split
    · exact ⟨rfl, rfl, rfl, rfl, rfl, rfl, rfl, rfl⟩
    · split
      · exact ⟨rfl, rfl, rfl, rfl, rfl, rfl, rfl, rfl⟩
      · split <;> exact ⟨rfl, rfl, rfl, rfl, rfl, rfl, rfl, rfl⟩

/-- The scan state with a slow conversion held and the next one due an interval later (R45). -/
def withSlowHeld (c : Scanner) : Scanner :=
  { c with slowHeld := true, nextSlow := c.nextSlow.map (· + intervalTime c.slowInterval) }

/-- The scan state with a burst waiting and the next one due 20 ms later (R42). -/
def withBurstWaiting (c : Scanner) : Scanner :=
  { c with burstWaiting := true, nextBurst := c.nextBurst.map (· + burstPeriod) }

theorem slowDue_free (hfree : c.converting = none) (hburst : c.burstLeft = 0) (hmode : c.fastMode ≠ .triggered) :
    slowDue now c = startSlow now (withSlowHeld c) :=
  grant_slow (c := withSlowHeld c) hfree hburst rfl (.inl hmode)

theorem slowDue_waits (h : c.converting ≠ none ∨ c.burstLeft = 0 ∧ c.burstWaiting = false ∧ c.fastMode = .triggered) :
    slowDue now c = withSlowHeld c := by
  by_cases hfree : c.converting = none
  · obtain ⟨hburst, hwaits, hmode⟩ := h.resolve_left (not_not.mpr hfree)
    have hno : ¬((withSlowHeld c).slowHeld = true ∧ ((withSlowHeld c).fastMode ≠ .triggered ∨ false = true)) :=
      fun h => h.2.elim (fun h => h hmode) (nomatch ·)
    exact (grant_no_slow (c := withSlowHeld c) hfree hburst hno).trans (if_neg (by simp [withSlowHeld, hwaits]))
  · exact grant_busy (c := withSlowHeld c) hfree

theorem burstDue_free (hfree : c.converting = none) (hburst : c.burstLeft = 0) (hslow : c.slowHeld = false) :
    burstDue now c = startFast now { withBurstWaiting c with burstLeft := 4, burstWaiting := false } := by
  have hno : ¬((withBurstWaiting c).slowHeld = true ∧ ((withBurstWaiting c).fastMode ≠ .triggered ∨ false = true)) :=
    fun h => nomatch hslow.symm.trans h.1
  exact (grant_no_slow (c := withBurstWaiting c) hfree hburst hno).trans (if_pos rfl)

theorem burstDue_busy (h : c.converting ≠ none) : burstDue now c = withBurstWaiting c :=
  grant_busy (c := withBurstWaiting c) h

/-- Settles O50: each schedule is one grant on the scan state. -/
theorem scannerSchedules : Obligations.ScannerSchedules := by
  intro s hheld
  refine ⟨fun d hnext hd => ?slow, fun d hmode hnext hd => ?burst, fun hmode hlast => ?trigger⟩
  case slow =>
    obtain ⟨hnextSlow, -⟩ := grant_frame (now := s.now) (afterFast := false) (c := withSlowHeld s.scan)
    refine ⟨_, exec_slowConversionDue hheld hnext hd, rfl, ?_, fun hfree hburst hmode => ?_, fun h => ?_⟩
    · exact hnextSlow.trans (by rw [withSlowHeld, hnext]; cases s.scan.slowInterval <;> rfl)
    · rw [State.mapScan, slowDue_free hfree hburst hmode]
      exact ⟨rfl, rfl, rfl⟩
    · rw [State.mapScan, slowDue_waits h]
      exact ⟨rfl, rfl, rfl⟩
  case burst =>
    obtain ⟨-, hnextBurst, -⟩ := grant_frame (now := s.now) (afterFast := false) (c := withBurstWaiting s.scan)
    refine ⟨_, exec_fastBurstDue hheld hmode hnext hd, rfl, ?_, fun hfree hburst hslow => ?_, fun hbusy => ?_⟩
    · exact hnextBurst.trans (by rw [withBurstWaiting, hnext]; rfl)
    · rw [State.mapScan, burstDue_free hfree hburst hslow]
      exact ⟨rfl, rfl, rfl⟩
    · rw [State.mapScan, burstDue_busy hbusy]
      exact ⟨rfl, rfl⟩
  case trigger =>
    have hdue : triggerDue s.now s.scan = true := by
      have hall : s.scan.lastTrigger.all (· + triggerPeriod ≤ s.now) = true := by
        cases h : s.scan.lastTrigger with
        | none => rfl
        | some x => exact decide_eq_true (hlast x h)
      rw [triggerDue, hmode, hall]
      rfl
    rw [exec, execFastTrigger, event_of_due hheld hdue]
    cases hfree : s.scan.converting <;> simp [State.mapScan, takeTrigger, startFast, hfree]

/-! ## The fans -/

theorem PerFan.ext_get {α : Type} {p q : PerFan α} (h : ∀ fan, p.get fan = q.get fan) : p = q := by
  have a := h .f0
  have b := h .f1
  have c := h .f2
  cases p; cases q
  simp_all [PerFan.get]

theorem slew_eq (f : FanRecord) :
    slew f = { f with
      duty := if f.duty < f.target then f.duty + 1 else if f.target < f.duty then f.duty - 1 else f.duty
      dipped := f.dipped || (f.duty ≠ f.target
        && (if f.duty < f.target then f.duty + 1 else if f.target < f.duty then f.duty - 1 else f.duty) < 30) } := by
  unfold slew setDuty
  split
  · next h => simp [h.ne]
  · split
    · next h => simp [h.ne']
    · next h h' =>
      have heq : decide (f.duty ≠ f.target) = false := decide_eq_false (not_not.mpr (by omega))
      rw [heq, Bool.false_and, Bool.or_false]

/-- Settles O56: the update slews every fan, and a pulse counts for its fan. -/
theorem fanUpdateAndPulses : Obligations.FanUpdateAndPulses := by
  intro s hheld
  refine ⟨fun d hnext hd => ?_, fun fan => ?_⟩
  · have hdue : s.reached s.cc.nextFanUpdate = true := by rw [hnext]; exact decide_eq_true hd
    rw [exec, execFanUpdate, event_of_due hheld hdue]
    simp only [mapFans, State.mapCc, hnext, slew_eq]
    rfl
  · have hfans : PerFan.make (fun f => if f = fan then { s.cc.fans.get f with pulses := countUp (s.cc.fans.get f).pulses }
        else s.cc.fans.get f) = s.cc.fans.set fan
          { s.cc.fans.get fan with pulses := min ((s.cc.fans.get fan).pulses + 1) 255 } := by
      refine PerFan.ext_get fun f => ?_
      rw [PerFan.get_make, PerFan.get_set]
      split
      · next h => rw [h]; rfl
      · rfl
    rw [exec, execTachPulse, event_of_due hheld rfl]
    simp only [mapFans, State.mapCc, hfans]

end Sys2Proof.Machine
end

section
/-! The computations: the conversion of a thermistor reading (R49) and the band records of a table (R140 to R147). -/

namespace Sys2Proof.Machine

/-! ## The conversion table (R49) -/

theorem floorDiv_eq (n : Int) (d : Nat) : floorDiv n d = n / d := Int.fdiv_eq_ediv_of_nonneg n (Int.natCast_nonneg d)

/-- One step along the table: the temperature never rises with the reading. -/
theorem temperatureOf_succ_le {r : Nat} (h : r + 1 < 4096) : temperatureOf (r + 1) ≤ temperatureOf r := by
  have value (n : Nat) : temperatureOf n = conversionTable.getD (n / 256) 0
      + (conversionTable.getD (n / 256 + 1) 0 - conversionTable.getD (n / 256) 0) * (n - 256 * (n / 256 : Nat) : Int) / 256 := by
    rw [temperatureOf, floorDiv_eq]
    rfl
  have hsegment : r / 256 < 16 := by omega
  rw [value, value]
  obtain hsame | hnext : (r + 1) / 256 = r / 256 ∨ (r + 1) / 256 = r / 256 + 1 ∧ r = 256 * (r / 256) + 255 := by omega
  · rw [hsame]
    generalize r / 256 = i at hsegment
    interval_cases i <;> simp only [conversionTable, List.getD_cons_succ, List.getD_cons_zero] <;> omega
  · obtain ⟨hnext, hlast⟩ := hnext
    rw [hnext]
    generalize r / 256 = i at hsegment hlast
    subst hlast
    have hinside : i < 15 := by omega
    interval_cases i <;> simp only [conversionTable, List.getD_cons_succ, List.getD_cons_zero] <;> omega

theorem temperatureOf_antitone {r r' : Nat} (hr : r ≤ r') (h : r' < 4096) : temperatureOf r' ≤ temperatureOf r := by
  induction r', hr using Nat.le_induction with
  | base => exact Int.le_refl _
  | succ n _ ih => exact (temperatureOf_succ_le h).trans (ih (by omega))

/-- Settles O21: the conversion is antitone, so its values at the ends of the good readings bound it. -/
theorem temperatureOfReadings : Obligations.TemperatureOfReadings := by
  refine ⟨by decide, fun r r' => temperatureOf_antitone, fun r hlow hhigh => ⟨?_, ?_⟩⟩
  · calc (-349 : Int) = temperatureOf 4054 := by decide
      _ ≤ temperatureOf r := temperatureOf_antitone hhigh (by omega)
  · calc temperatureOf r ≤ temperatureOf 41 := temperatureOf_antitone hlow (by omega)
      _ = 1454 := by decide

/-! ## Rounding (00_scope) -/

theorem roundHalfUp_natCast (n d : Nat) : (roundHalfUp n d).toNat = (2 * n + d) / (2 * d) := by
  rw [roundHalfUp, floorDiv_eq]
  rfl

theorem roundHalfUp_le {n d b : Nat} (h : n ≤ d * b) : (roundHalfUp n d).toNat ≤ b := by
  rw [roundHalfUp_natCast]
  obtain rfl | hd := Nat.eq_zero_or_pos d
  · simp
  · refine Nat.lt_succ_iff.mp ((Nat.div_lt_iff_lt_mul (by omega)).mpr ?_)
    nlinarith

theorem le_roundHalfUp {n d b : Nat} (hd : 0 < d) (h : d * b ≤ n) : b ≤ (roundHalfUp n d).toNat := by
  rw [roundHalfUp_natCast, Nat.le_div_iff_mul_le (by omega)]
  nlinarith

theorem roundHalfAway_le {n : Int} {d b : Nat} (h : n ≤ d * b) : roundHalfAway n d ≤ b := by
  unfold roundHalfAway
  split
  · exact (Int.neg_nonpos_of_nonneg (Int.natCast_nonneg _)).trans (Int.natCast_nonneg b)
  · next hn =>
    obtain ⟨m, rfl⟩ := Int.eq_ofNat_of_zero_le (not_lt.mp hn)
    have hm : m ≤ d * b := by exact_mod_cast h
    have := roundHalfUp_le hm
    rw [roundHalfUp_natCast] at this
    exact_mod_cast this

/-! ## The image on the panel (R139 to R142) -/

variable {r : Raster} {p : Insets} {row : Nat}

theorem panelTerms_within {g : Insets} (o : Orientation) (h : g.Within r) : (panelTerms o g).Within r := by
  obtain ⟨htop, hbottom, htl, htr, hbl, hbr⟩ := h
  cases o
  · exact ⟨htop, hbottom, htl, htr, hbl, hbr⟩
  · exact ⟨htop, hbottom, htr, htl, hbr, hbl⟩
  · exact ⟨hbottom, htop, hbr, hbl, htr, htl⟩
  · exact ⟨hbottom, htop, hbl, hbr, htl, htr⟩

theorem imageHeight_ge (hr : r.Sound) (hp : p.Within r) :
    p.top + (imageHeight r p - 1) = imageEnd r p ∧ r.hp - 1 - 2 * (r.hp / 4) ≤ imageHeight r p - 1 := by
  obtain ⟨-, -, -, hlow, -⟩ := hr
  obtain ⟨htop, hbottom, -⟩ := hp
  unfold rowLimit at htop hbottom
  unfold imageHeight imageEnd
  omega

theorem bandT16_le (hr : r.Sound) (hp : p.Within r) : bandT16 r p row ≤ 65536 := by
  obtain ⟨hend, -⟩ := imageHeight_ge hr hp
  have hle : (p.top : Int) ≤ imageEnd r p := by omega
  have hclamp := clampInt_le (x := row) hle
  refine Nat.div_le_of_le_mul (Nat.mul_le_mul_right _ ?_)
  omega

theorem topWidth_bounds (hp : p.Within r) : r.wp ≤ 2 * topWidth r p ∧ topWidth r p ≤ r.wp
    ∧ r.wp ≤ 2 * bottomWidth r p ∧ bottomWidth r p ≤ r.wp := by
  obtain ⟨-, -, htl, htr, hbl, hbr⟩ := hp
  unfold cornerLimit at htl htr hbl hbr
  unfold topWidth bottomWidth
  omega

/-! ## The fields of a record (R143 to R147) -/

theorem edge16_le {a b c t : Nat} (ha : a ≤ c) (hb : b ≤ c) (ht : t ≤ 65536) : edge16 a b t ≤ 16 * c := by
  have hround : roundHalfAway (16 * ((b : Int) - a) * t) 65536 ≤ ((16 * (c - a) : Nat) : Int) := by
    refine roundHalfAway_le ?_
    have hstep : ((b : Int) - a) * t ≤ ((c - a : Nat) : Int) * 65536 := by
      obtain hba | hab := le_total b a
      · exact (mul_nonpos_of_nonpos_of_nonneg (by omega) (Int.natCast_nonneg t)).trans (by positivity)
      · exact mul_le_mul (by omega) (by exact_mod_cast ht) (Int.natCast_nonneg t) (Int.natCast_nonneg _)
    push_cast
    linarith
  unfold edge16
  omega

theorem horizontalStep_bounds {w : Nat} (hr : r.Sound) (hlow : 8 * r.wp - 16 ≤ w) (hhigh : w ≤ 16 * (r.wp - 1)) :
    65536 ≤ horizontalStep r w ∧ horizontalStep r w ≤ 131175 := by
  obtain ⟨hwp, -⟩ := hr
  exact ⟨le_roundHalfUp (by omega) (by omega), roundHalfUp_le (by omega)⟩

theorem projective16_le (wT wB t : Nat) : projective16 wT wB t ≤ 65536 :=
  Nat.div_le_of_le_mul (Nat.mul_le_mul_right _ (Nat.le_add_left _ _))

theorem sourceRow256_le (hp wT wB t : Nat) : sourceRow256 hp wT wB t ≤ (hp - 1) * 256 := by
  refine roundHalfUp_le ?_
  have := projective16_le wT wB t
  calc projective16 wT wB t * (hp - 1) * 256 ≤ 65536 * (hp - 1) * 256 := by gcongr
    _ = 65536 * ((hp - 1) * 256) := Nat.mul_assoc ..

/-- The denominator of R145 is at least 65536 times the narrower of the two widths. -/
theorem le_rowDenominator {wT wB t m : Nat} (hT : m ≤ wT) (hB : m ≤ wB) (ht : t ≤ 65536) :
    65536 * m ≤ rowDenominator wT wB t :=
  calc 65536 * m = (65536 - t) * m + t * m := by rw [← Nat.add_mul, Nat.sub_add_cancel ht]
    _ ≤ rowDenominator wT wB t := Nat.add_le_add (Nat.mul_le_mul_left _ hT) (Nat.mul_le_mul_left _ hB)

/-- The product of two widths, neither more than twice the other, is at most twice the square of the narrower. -/
theorem mul_le_two_mul_sq {a b : Nat} (hab : a ≤ 2 * b) (hba : b ≤ 2 * a) : a * b ≤ 2 * (min a b * min a b) := by
  obtain h | h := le_total a b
  · rw [min_eq_left h]
    nlinarith
  · rw [min_eq_right h]
    nlinarith

theorem verticalStep_le {hp h wT wB t : Nat} (hT : wT ≤ 2 * wB) (hB : wB ≤ 2 * wT) (ht : t ≤ 65536)
    (hh : 131072 * (hp - 1) ≤ 262510 * (h - 1)) : verticalStep hp h wT wB t ≤ 262510 := by
  refine roundHalfUp_le ?_
  have hden := le_rowDenominator (min_le_left wT wB) (min_le_right wT wB) ht
  generalize hm : min wT wB = m at hden
  calc 65536 * (hp - 1) * wT * wB * 65536 * 65536 = 65536 * (hp - 1) * (wT * wB) * (65536 * 65536) := by ring
    _ ≤ 65536 * (hp - 1) * (2 * (m * m)) * (65536 * 65536) := by
        have := mul_le_two_mul_sq hT hB
        rw [hm] at this
        gcongr
    _ = 131072 * (hp - 1) * ((65536 * m) * (65536 * m)) := by ring
    _ ≤ 262510 * (h - 1) * (rowDenominator wT wB t * rowDenominator wT wB t) := by gcongr
    _ = (h - 1) * rowDenominator wT wB t * rowDenominator wT wB t * 262510 := by ring

/-- R147 for the record of a band that is not EMPTY. -/
theorem computedBand_limits (hr : r.Sound) (hp : p.Within r) (row : Nat) :
    let d := computedBand r p row
    d.xL16 < d.xR16 ∧ d.xL16 ≤ 4 * r.wp ∧ 12 * r.wp - 16 ≤ d.xR16 ∧ 8 * r.wp - 16 ≤ d.xR16 - d.xL16
      ∧ d.xR16 ≤ 16 * (r.wp - 1) ∧ 65536 ≤ d.hStep ∧ d.hStep ≤ 131175 ∧ d.srcRow256 ≤ (r.hp - 1) * 256
      ∧ d.rowStep ≤ 262510 := by
  have ht := bandT16_le (row := row) hr hp
  obtain ⟨hTlow, hThigh, hBlow, hBhigh⟩ := topWidth_bounds hp
  obtain ⟨-, hheight⟩ := imageHeight_ge hr hp
  obtain ⟨-, -, htl, htr, hbl, hbr⟩ := hp
  unfold cornerLimit at htl htr hbl hbr
  obtain ⟨hwp, -, -, hhp, -⟩ := id hr
  have hleft := edge16_le htl hbl ht
  have hright := edge16_le htr hbr ht
  have hleft : edge16 p.tl p.bl (bandT16 r p row) ≤ 4 * r.wp := by omega
  have hright : edge16 p.tr p.br (bandT16 r p row) ≤ 4 * r.wp := by omega
  have hwidth := horizontalStep_bounds (r := r)
    (w := 16 * (r.wp - 1) - edge16 p.tr p.br (bandT16 r p row) - edge16 p.tl p.bl (bandT16 r p row)) hr
    (by omega) (by omega)
  dsimp only [computedBand]
  exact ⟨by omega, hleft, by omega, by omega, by omega, hwidth.1, hwidth.2, sourceRow256_le _ _ _ _,
    verticalStep_le (by omega) (by omega) ht (by omega)⟩

/-- Settles O20: a band is EMPTY, or it is computed from the insets in panel terms, which are within the same limits. -/
theorem recordsWithinLimits : Obligations.RecordsWithinLimits := by
  intro i b hi _
  obtain ⟨hr, hg⟩ := hi
  unfold bandOf
  dsimp only
  split
  · exact .inl rfl
  · exact .inr (computedBand_limits hr (panelTerms_within i.orient hg) _)

/-- The table of admitted inputs is within the limits of R147. -/
theorem computeTable_sound {i : Inputs} (hi : i.Sound) : (computeTable i).Sound := by
  intro b
  have hband : (computeTable i).bands[b] = bandOf i b.val := by
    simp [computeTable]
  rw [hband]
  obtain hempty | ⟨hlt, -, -, -, -, hlow, hhigh, hrow, -⟩ := recordsWithinLimits i b.val hi b.isLt
  · exact .inl hempty
  · exact .inr ⟨hlt, hlow, hhigh, hrow⟩

end Sys2Proof.Machine
end

section
/-! The placement requests that read: a record sent back byte for byte (R12, R186) and the list of what fits (R18, R19);
and the capture of the live setup (R38). -/

namespace Sys2Proof.Machine

variable {s : State} {p : Payload} {r : Raster} {n : Nat}

/-! ## Runs of bytes of a payload -/

/-- The `n` bytes of a payload from a position on. -/
def run (p : Payload) (k n : Nat) : List Byte := (p.drop k).take n

theorem run_append {k j : Nat} (h : k + n = j) (m : Nat) : run p k n ++ run p j m = run p k (n + m) := by
  subst h
  rw [run, run, run, List.take_add, List.drop_drop]

theorem run_to_end {k : Nat} (h : p.length = k + n) : run p k n = p.drop k :=
  List.take_of_length_le (by rw [List.length_drop]; omega)

theorem run_one {k : Nat} (h : k < p.length) : run p k 1 = [byte (u8 p k)] := by
  have hbyte : byte (u8 p k) = p[k] := by
    rw [u8, List.getD_eq_getElem p 0 h, byte, BitVec.ofNat_toNat, BitVec.setWidth_eq]
  rw [run, hbyte, List.drop_eq_getElem_cons h]
  rfl

theorem byte_add_mul (n m : Nat) : byte (n + 256 * m) = byte n := by
  refine BitVec.eq_of_toNat_eq ?_
  rw [byte, byte, BitVec.toNat_ofNat, BitVec.toNat_ofNat]
  omega

theorem le16_u16 {k : Nat} (h : k + 1 < p.length) : le16 (u16 p k) = run p k 2 := by
  have hlow : u8 p k < 256 := BitVec.isLt _
  rw [← run_append (k := k) (n := 1) rfl 1, run_one (by omega), run_one h, le16, u16, byte_add_mul,
    show (u8 p k + 256 * u8 p (k + 1)) / 256 = u8 p (k + 1) by omega]
  rfl

/-! ## A record read back (R186) -/

theorem byte_bits (h : n < 32) : marks [bit n 0, bit n 1, bit n 2, bit n 3, bit n 4] = byte n := by
  have all : ∀ n : Fin 32, marks [bit n 0, bit n 1, bit n 2, bit n 3, bit n 4] = byte n := by decide
  exact all ⟨n, h⟩

/-- The number of bytes that an axis's target takes in a record. -/
def targetSize (p : Payload) (ax : Axis) : Nat := if bit (u8 p 1) (axisNumber ax) then 2 else 0

theorem targetOffset_eq (p : Payload) : targetOffset p .vshift = 5 + u8 p 4
    ∧ targetOffset p .hshift = 5 + u8 p 4 + targetSize p .vshift
    ∧ targetOffset p .zoom = 5 + u8 p 4 + (targetSize p .vshift + targetSize p .hshift)
    ∧ targetOffset p .focus = 5 + u8 p 4 + (targetSize p .vshift + targetSize p .hshift + targetSize p .zoom)
    ∧ 2 * targetCount (u8 p 1) = targetSize p .vshift + targetSize p .hshift + targetSize p .zoom + targetSize p .focus := by
  rcases Bool.eq_false_or_eq_true (bit (u8 p 1) 0) with h0 | h0 <;>
    rcases Bool.eq_false_or_eq_true (bit (u8 p 1) 1) with h1 | h1 <;>
      rcases Bool.eq_false_or_eq_true (bit (u8 p 1) 2) with h2 | h2 <;>
        rcases Bool.eq_false_or_eq_true (bit (u8 p 1) 3) with h3 | h3 <;>
          simp [targetOffset, targetCount, targetSize, axes, axisNumber, h0, h1, h2, h3]

theorem targetOffset_add_size_le (hp : GoodRecord p) (ax : Axis) :
    targetOffset p ax + targetSize p ax ≤ p.length := by
  obtain ⟨h0, h1, h2, h3, hcount⟩ := targetOffset_eq p
  have hlength := hp.length
  unfold recordLength at hlength
  cases ax <;> omega

/-- A target at most 4000 is sent back as its two bytes. -/
theorem target_bytes (hp : GoodRecord p) (hclamped : recordClamped r p = false) (ax : Axis) :
    (((storedRecord r p).targets.get ax).elim [] le16) = run p (targetOffset p ax) (targetSize p ax) := by
  have hsmall : (recordTarget p ax).any (4000 < ·) = false := by
    simp only [recordClamped, Bool.or_eq_false_iff, List.any_eq_false] at hclamped
    exact Bool.eq_false_of_not_eq_true (hclamped.1.1 ax (mem_axes ax))
  have hfits := targetOffset_add_size_le hp ax
  have hstored : (storedRecord r p).targets.get ax = (recordTarget p ax).map (min · 4000) := by
    simp only [storedRecord, PerAxis.get_make]
  rw [hstored]
  unfold recordTarget targetSize at *
  split
  · next hbit =>
    rw [if_pos hbit] at hsmall hfits
    simp only [Option.any_some, decide_eq_false_iff_not, not_lt] at hsmall
    rw [Option.map_some, Option.elim_some, min_eq_left hsmall, le16_u16 (by omega)]
  · rfl

theorem insets_bytes {k : Nat} (h : k + 12 ≤ p.length) :
    insetBytes ⟨u16 p k, u16 p (k + 2), u16 p (k + 4), u16 p (k + 6), u16 p (k + 8), u16 p (k + 10)⟩ = run p k 12 := by
  simp only [insetBytes]
  rw [le16_u16 (by omega), le16_u16 (by omega), le16_u16 (by omega), le16_u16 (by omega), le16_u16 (by omega),
    le16_u16 (by omega), run_append rfl, run_append rfl, run_append rfl, run_append rfl, run_append rfl]

theorem geometry_bytes (hp : GoodRecord p) (hclamped : recordClamped r p = false) :
    (storedRecord r p).geometry.elim [] insetBytes
      = run p (5 + u8 p 4 + 2 * targetCount (u8 p 1)) (if bit (u8 p 1) 4 then 12 else 0) := by
  have hkept : (recordInsets p).any (fun g => reclamp r g ≠ g) = false := by
    simp only [recordClamped, Bool.or_eq_false_iff] at hclamped
    exact hclamped.1.2
  have hlength := hp.length
  rw [storedRecord]
  unfold recordInsets recordLength at *
  dsimp only at hkept ⊢
  split
  · next hbit =>
    rw [if_pos hbit] at hkept hlength
    simp only [Option.any_some, decide_eq_false_iff_not, not_not] at hkept
    rw [Option.map_some, Option.elim_some, hkept, insets_bytes (by omega)]
  · rfl

theorem stored_label_length (hp : GoodRecord p) : (recordLabel p).length = u8 p 4 := by
  have hlength := hp.length
  unfold recordLength at hlength
  rw [recordLabel, List.length_take, List.length_drop]
  omega

theorem isSome_if {α : Type} (b : Bool) (x : α) : (if b then some x else none).isSome = b := by cases b <;> rfl

/-- A record stored unclamped is sent back byte for byte. -/
theorem recordBytes_storedRecord (hp : GoodRecord p) (hclamped : recordClamped r p = false) :
    recordBytes (storedRecord r p) = p.drop 1 := by
  obtain ⟨h0, h1, h2, h3, hcount⟩ := targetOffset_eq p
  have hheader := hp.header
  have hlength : p.length = 1 + (4 + u8 p 4 + 2 * targetCount (u8 p 1) + if bit (u8 p 1) 4 then 12 else 0) := by
    have := hp.length
    unfold recordLength at this
    omega
  have hfields := hp.fields
  simp only [recordOk, Bool.and_eq_true, decide_eq_true_eq] at hfields
  obtain ⟨⟨hpresence, -⟩, hfocus⟩ := hfields
  have hquiet : u8 p 2 ≤ 3 := by
    simp only [recordClamped, Bool.or_eq_false_iff, decide_eq_false_iff_not, not_lt] at hclamped
    exact hclamped.2
  have hmarks : marks (((storedRecord r p).targets.toList.map Option.isSome) ++ [(storedRecord r p).geometry.isSome])
      = byte (u8 p 1) := by
    rw [← byte_bits hpresence]
    simp only [storedRecord, PerAxis.toList, PerAxis.make, List.map_cons, List.map_nil, Option.isSome_map, List.cons_append,
      List.nil_append, recordTarget, recordInsets, axisNumber]
    congr 1
    simp only [List.cons.injEq, and_true]
    exact ⟨isSome_if _ _, isSome_if _ _, isSome_if _ _, isSome_if _ _, isSome_if _ _⟩
  have hfocusByte : mark (decide (u8 p 3 = 1)) = byte (u8 p 3) := by
    obtain h | h : u8 p 3 = 0 ∨ u8 p 3 = 1 := by omega
    · rw [h]; rfl
    · rw [h]; rfl
  have hhead : [byte (u8 p 1), byte (u8 p 2), byte (u8 p 3), byte (u8 p 4)] = run p 1 4 := by
    rw [← run_append (n := 3) (j := 4) rfl 1, ← run_append (n := 2) (j := 3) rfl 1, ← run_append (n := 1) (j := 2) rfl 1,
      run_one (by omega), run_one (by omega),
      run_one (by omega), run_one (by omega)]
    rfl
  have htargets : (storedRecord r p).targets.toList.flatMap (fun t => t.elim [] le16)
      = run p (5 + u8 p 4) (2 * targetCount (u8 p 1)) := by
    have hlist : (storedRecord r p).targets.toList.flatMap (fun t => t.elim [] le16)
        = ((storedRecord r p).targets.get .vshift).elim [] le16 ++ ((storedRecord r p).targets.get .hshift).elim [] le16
          ++ ((storedRecord r p).targets.get .zoom).elim [] le16
          ++ ((storedRecord r p).targets.get .focus).elim [] le16 := by
      simp [PerAxis.toList, PerAxis.get]
    rw [hlist, target_bytes hp hclamped, target_bytes hp hclamped, target_bytes hp hclamped, target_bytes hp hclamped,
      h0, h1, h2, h3, run_append rfl, run_append rfl, run_append rfl, hcount]
  have hlabel : recordLabel p = run p 5 (u8 p 4) := rfl
  rw [recordBytes, hmarks, htargets, geometry_bytes hp hclamped]
  simp only [storedRecord, min_eq_left hquiet, hfocusByte, stored_label_length hp]
  rw [hhead, hlabel, run_append rfl, run_append (by omega), run_append (by omega), run_to_end hlength]

theorem plRead_ready {i : Fin 24} {x : Placement} (hn : u8 p 0 = i.val + 1) (hp : p.length = 1)
    (hi : s.pt.slots[i] = some x) : plRead p s =
      accept .ok (byte (i.val + 1) :: (if s.pt.park = some i then 1 else 0) :: recordBytes x) s := by
  rw [plRead, ofLength_of_length hp, withReady_ready hn hi, mark_eq]
  simp only [decide_eq_true_eq]
  rfl

theorem plRead_free {i : Fin 24} (hn : u8 p 0 = i.val + 1) (hp : p.length = 1) (hi : s.pt.slots[i] = none) :
    plRead p s = refuse .slotFree s := by
  rw [plRead, ofLength_of_length hp, withReady_free hn hi]

/-- Settles O24: the slot decides the answer, and an unclamped record is its frame again. -/
theorem readReturnsRecord : Obligations.ReadReturnsRecord :=
  ⟨fun _ i hs => ⟨fun _ hr => request_of_reply hs (Nat.le_of_ble_eq_true rfl) (plRead_ready (u8_byte_slot i) rfl hr),
      fun hfree => request_of_reply hs (Nat.le_of_ble_eq_true rfl) (plRead_free (u8_byte_slot i) rfl hfree)⟩,
    fun _ _ hheader hlength hfields => recordBytes_storedRecord ⟨hheader, hlength, hfields⟩⟩

/-! ## PL_LIST (R18, R19) -/

/-- The scan takes a first part of the list, and stops at its end, at the maximum, or at an entry that does not fit. -/
theorem takeEntries_spec (room bytes : Nat) (l : List (Fin 24 × List Byte)) : ∃ rest, l = takeEntries room bytes l ++ rest
    ∧ (takeEntries room bytes l).length ≤ room ∧ ((takeEntries room bytes l).flatMap listEntry).length ≤ bytes
    ∧ (rest = [] ∨ (takeEntries room bytes l).length = room
      ∨ ∃ e more, rest = e :: more ∧ bytes < ((takeEntries room bytes l ++ [e]).flatMap listEntry).length) := by
  have entry (e : Fin 24 × List Byte) : (listEntry e).length = 2 + e.2.length := by
    simp only [listEntry, List.length_cons]
    omega
  induction l generalizing room bytes with
  | nil => exact ⟨[], by cases room <;> rfl, by cases room <;> simp [takeEntries], by cases room <;> simp [takeEntries], .inl rfl⟩
  | cons e l ih =>
    cases room with
    | zero => exact ⟨e :: l, rfl, Nat.le_refl _, Nat.zero_le _, .inr (.inl rfl)⟩
    | succ room =>
      by_cases hfits : 2 + e.2.length ≤ bytes
      · obtain ⟨rest, hsplit, hroom, hbytes, hstop⟩ := ih room (bytes - (2 + e.2.length))
        have htaken : takeEntries (room + 1) bytes (e :: l) = e :: takeEntries room (bytes - (2 + e.2.length)) l :=
          if_pos hfits
        rw [htaken]
        refine ⟨rest, congrArg (e :: ·) hsplit, Nat.succ_le_succ hroom, ?_, ?_⟩
        · rw [List.flatMap_cons, List.length_append, entry]
          omega
        · refine hstop.imp id (.imp (congrArg (· + 1)) fun ⟨e', more, hrest, hmore⟩ => ⟨e', more, hrest, ?_⟩)
          rw [List.cons_append, List.flatMap_cons, List.length_append, entry]
          omega
      · have htaken : takeEntries (room + 1) bytes (e :: l) = [] := if_neg hfits
        rw [htaken]
        refine ⟨e :: l, rfl, Nat.zero_le _, Nat.zero_le _, .inr (.inr ⟨e, l, rfl, ?_⟩)⟩
        rw [List.nil_append, List.flatMap_singleton, entry]
        omega

theorem plList_accepted {start : Fin 24} (hstart : u8 p 0 = start.val + 1) (hp : p.length = 2) (hn : u8 p 1 = n)
    (hlow : 1 ≤ n) (hhigh : n ≤ 24) : plList p s = accept .ok (listPayload s.pt start n) s := by
  rw [plList, ofLength_of_length hp, withSlot_slot hstart, hn]
  exact if_pos (by simp [hlow, hhigh])

/-- Settles O25: the scan of R18 takes the first part, and the count is that of the rest. -/
theorem listReturnsWhatFits : Obligations.ListReturnsWhatFits := by
  intro s start n hs hlow hhigh
  obtain ⟨rest, hsplit, hroom, hbytes, hstop⟩ := takeEntries_spec n 46 (readyFrom s.pt start)
  refine ⟨_, rest, hsplit, hroom, hbytes, hstop, request_of_reply hs (by simp) ?_⟩
  have hn : u8 [byte (start.val + 1), byte n] 1 = n := u8_field (by omega) rfl
  have hstart : u8 [byte (start.val + 1), byte n] 0 = start.val + 1 := u8_field (by omega) rfl
  have hrest : (readyFrom s.pt start).length - (takeEntries n 46 (readyFrom s.pt start)).length = rest.length := by
    have := congrArg List.length hsplit
    rw [List.length_append] at this
    omega
  rw [plList_accepted hstart rfl hn hlow hhigh, listPayload]
  simp only [listBytes, hrest]
  rfl

/-! ## PL_CAPTURE (R38) -/

/-- The frame of PL_CAPTURE (R186): the slot, and a label with its length where there is one. -/
def captureFrame (i : Fin 24) (label : Option (List Byte)) : Payload :=
  byte (i.val + 1) :: label.elim [] (fun l => byte l.length :: l)

theorem labelOk_length {l : List Byte} (h : labelOk l = true) : l.length ≤ 12 := by
  simp only [labelOk, Bool.and_eq_true, decide_eq_true_eq] at h
  exact h.1

theorem captureFrame_label (i : Fin 24) {label : Option (List Byte)} (h : ∀ l, label = some l → labelOk l = true) :
    captureLengthOk (captureFrame i label) = true ∧ captureLabel (captureFrame i label) = label
      ∧ (captureFrame i label).length ≤ 48 := by
  cases label with
  | none => exact ⟨rfl, rfl, Nat.le_of_ble_eq_true rfl⟩
  | some l =>
    have hl := labelOk_length (h l rfl)
    have hu : u8 (captureFrame i (some l)) 1 = l.length := u8_field (by omega) rfl
    have hlength : (captureFrame i (some l)).length = l.length + 2 := rfl
    refine ⟨?_, if_neg (by omega), by omega⟩
    simp only [captureLengthOk, hu, hlength, Bool.or_eq_true, Bool.and_eq_true, decide_eq_true_eq]
    omega

theorem plCapture_accepted {i : Fin 24} {label : Option (List Byte)} (hlabel : ∀ l, label = some l → labelOk l = true)
    (hmode : s.mc.mode = .run) (hrest : s.lensAtRest = true) :
    plCapture (captureFrame i label) s = accept (clampedIf (captureClamped s))
      [byte (i.val + 1), mark (slotAt s.pt i).isNone]
      (afterCapture i (captured label (slotAt s.pt i) s) (putSlot i (some (captured label (slotAt s.pt i) s)) s)) := by
  obtain ⟨hlength, hread, -⟩ := captureFrame_label i hlabel
  have hall : label.all labelOk = true := by
    cases label with
    | none => rfl
    | some l => exact hlabel l rfl
  have hslot : u8 (captureFrame i label) 0 = i.val + 1 := u8_field (by omega) rfl
  rw [plCapture, hlength]
  refine (if_neg (by decide)).trans ?_
  rw [withSlot_slot hslot, hread, hall, hrest]
  exact (if_neg (by decide)).trans ((if_neg (not_not.mpr hmode)).trans (if_neg (by decide)))

theorem captureClamped_eq {c : Calibration} (hcal : s.lens.focus.cal = some c) :
    captureClamped s = true ↔ ¬(0 ≤ (normalise c (s.rawNow .focus) : Int) - s.fc.applied
      ∧ (normalise c (s.rawNow .focus) : Int) - s.fc.applied ≤ 4000) := by
  have hget : s.lens.get .focus = s.lens.focus := rfl
  rw [captureClamped, hget, hcal, Option.any_some, decide_eq_true_eq, captureFocus, clampInt]
  split
  · omega
  · split <;> omega

/-- A target that a capture stores, where the axis has been read (R38). -/
theorem captureTarget_read {ax : Axis} {c : Calibration} {raw : Raw} (hcal : (s.lens.get ax).cal = some c)
    (hraw : s.reading ax = some raw) : captureTarget s ax = some (if ax = .focus
      then clampNat (normalise c raw - s.fc.applied) 4000 else normalise c raw) := by
  rw [captureTarget, hcal, Option.map_some, State.rawNow, hraw]
  rfl

/-- Settles O28: the checks of R37 pass, and the record is what `captured` makes of the state. -/
theorem captureStoresSetup : Obligations.CaptureStoresSetup := by
  intro s i p label hs hmode hrest hlabel hp
  have hget : s.lens.get .focus = s.lens.focus := rfl
  refine ⟨captured label (slotAt s.pt i) s, clampedIf (captureClamped s), fun hcal => ?_, fun c hcal => ?_, rfl, rfl, rfl,
    rfl, fun ax hcal => ?_, fun ax c raw hax hcal hraw => ?_, fun c raw hcal hraw => ?_, ?_⟩
  · rw [captureClamped, hget, hcal]
    rfl
  · refine clampedIf_eq ?_
    rw [← Bool.not_eq_true, captureClamped_eq hcal, not_not]
  · rw [captured, PerAxis.get_make, captureTarget, hcal]
    rfl
  · rw [captured, PerAxis.get_make, captureTarget_read hcal hraw, if_neg hax]
  · exact (captureTarget_read (hget ▸ hcal) hraw).trans (congrArg some (if_pos rfl))
  · have hframe : p = captureFrame i label := hp
    obtain ⟨-, -, hfits⟩ := captureFrame_label i hlabel
    rw [hframe]
    refine request_of_reply hs hfits ((plCapture_accepted hlabel hmode hrest).trans ?_)
    rw [mark_eq, slotAt_eq]
    cases s.pt.slots[i] <;> rfl

end Sys2Proof.Machine
end

section
/-! The geometry requests (R134 to R137), TH_QUIET (R117, R122), the focus requests (R101, R104, R108), and the lens
requests refused outside RUN (R162). -/

namespace Sys2Proof.Machine

variable {s t : State} {p : Payload}

/-! ## Two-byte fields at a position -/

theorem u16_field {n k : Nat} (hn : n < 65536) (h : [p.getD k 0, p.getD (k + 1) 0] = le16 n) : u16 p k = n := by
  rw [le16, List.cons_eq_cons, List.cons_eq_cons] at h
  obtain ⟨hlow, hhigh, -⟩ := h
  rw [u16, u8, u8, hlow, hhigh, le16_value hn]

/-- An unsigned field read from the two's complement of a value of 0 to 65535. -/
theorem u16_le16s {x : Int} {k : Nat} (hx : 0 ≤ x ∧ x < 65536) (h : [p.getD k 0, p.getD (k + 1) 0] = le16s x) :
    (u16 p k : Int) = x := by
  have hvalue : (BitVec.ofInt 16 x).toNat = x.toNat := by
    rw [BitVec.toNat_ofInt]
    omega
  rw [le16s, hvalue] at h
  rw [u16_field (by omega) h]
  omega

/-! ## GM_SET and GM_NUDGE (R134, R135) -/

/-- Six two-byte values of a frame, in the order of R134. -/
def insetFrame (z : Fin 6 → Int) : Payload :=
  le16s (z 0) ++ le16s (z 1) ++ le16s (z 2) ++ le16s (z 3) ++ le16s (z 4) ++ le16s (z 5)

/-- The insets that six exact values give against a raster (R133). -/
def clamped (r : Raster) (z : Fin 6 → Int) : Insets := clampInsets r (z 0) (z 1) (z 2) (z 3) (z 4) (z 5)

theorem discardPending_eq (s : State) : discardPending s = { s with setup := { s.setup with
    pendingGeometry := if s.setup.recallState = .moving then none else s.setup.pendingGeometry } } := by
  unfold discardPending
  split
  · rfl
  · rfl

theorem setInsets_eq (z : Fin 6 → Int) (s : State) : setInsets (z 0) (z 1) (z 2) (z 3) (z 4) (z 5) s =
    let g := clamped s.ge.raster z
    accept (if [(g.top : Int), g.bottom, g.tl, g.tr, g.bl, g.br] = [z 0, z 1, z 2, z 3, z 4, z 5] then .ok else .clamped)
      (insetBytes g ++ [if s.setup.recallState = .moving ∧ s.setup.pendingGeometry ≠ none then 1 else 0])
      { s with
        ge := { s.ge with active := g, staged := .computing ⟨g, s.ge.raster, s.ge.orient⟩ }
        setup := { s.setup with
          modified := true
          pendingGeometry := if s.setup.recallState = .moving then none else s.setup.pendingGeometry } } := by
  have hmark : mark (s.setup.recallState = .moving && s.setup.pendingGeometry.isSome)
      = if s.setup.recallState = .moving ∧ s.setup.pendingGeometry ≠ none then 1 else 0 := by
    rw [mark_eq]
    simp only [Bool.and_eq_true, decide_eq_true_eq, Option.isSome_iff_ne_none]
  unfold setInsets
  dsimp only
  rw [hmark, discardPending_eq, clampedIf_eq (kept := [((clamped s.ge.raster z).top : Int), (clamped s.ge.raster z).bottom,
    (clamped s.ge.raster z).tl, (clamped s.ge.raster z).tr, (clamped s.ge.raster z).bl, (clamped s.ge.raster z).br]
      = [z 0, z 1, z 2, z 3, z 4, z 5])]
  · rfl
  · rw [decide_eq_false_iff_not, not_not]
    exact eq_comm

/-- Settles O35: the fields of the frame are the six values, and the rest is `setInsets`. -/
theorem geometrySetAndNudge : Obligations.GeometrySetAndNudge := by
  intro s hs
  refine ⟨fun x hx => ?_, fun y hy => ?_, fun p hp => ⟨?_, ?_⟩⟩
  · change request gmSet (insetFrame x) s = _
    have hset : gmSet (insetFrame x) s = setInsets (x 0) (x 1) (x 2) (x 3) (x 4) (x 5) s := by
      rw [gmSet, ofLength_of_length (show (insetFrame x).length = 12 from rfl), u16_le16s (hx 0) rfl, u16_le16s (hx 1) rfl,
        u16_le16s (hx 2) rfl, u16_le16s (hx 3) rfl, u16_le16s (hx 4) rfl, u16_le16s (hx 5) rfl]
    exact request_of_reply hs (Nat.le_of_ble_eq_true rfl) (hset.trans (setInsets_eq x s))
  · change request gmNudge (insetFrame y) s = _
    have hset : gmNudge (insetFrame y) s = setInsets (s.ge.active.top + y 0) (s.ge.active.bottom + y 1)
        (s.ge.active.tl + y 2) (s.ge.active.tr + y 3) (s.ge.active.bl + y 4) (s.ge.active.br + y 5) s := by
      rw [gmNudge, ofLength_of_length (show (insetFrame y).length = 12 from rfl), s16_field (hy 0) rfl, s16_field (hy 1) rfl,
        s16_field (hy 2) rfl, s16_field (hy 3) rfl, s16_field (hy 4) rfl, s16_field (hy 5) rfl]
    exact request_of_reply hs (Nat.le_of_ble_eq_true rfl) (hset.trans (setInsets_eq ![s.ge.active.top + y 0,
      s.ge.active.bottom + y 1, s.ge.active.tl + y 2, s.ge.active.tr + y 3, s.ge.active.bl + y 4, s.ge.active.br + y 5] s))
  · exact request_of_badLength hs (ofLength_of_length_ne hp _)
  · exact request_of_badLength hs (ofLength_of_length_ne hp _)

/-! ## GM_RASTER and GM_ORIENT (R136, R137) -/

theorem clampRaster_eq (wp hp : Nat) :
    clampRaster wp hp = ⟨max 1280 (min wp 4096) / 16 * 16, max 720 (min hp 2400)⟩ := by
  rw [clampRaster, clampInt_eq_max_min (by decide), clampInt_eq_max_min (by decide)]
  congr 1 <;> omega

theorem Raster.ext_fields {r r' : Raster} (hwp : r.wp = r'.wp) (hhp : r.hp = r'.hp) : r = r' := by
  cases r
  cases r'
  exact (Raster.mk.injEq ..).mpr ⟨hwp, hhp⟩

theorem gmRaster_eq {wp hp : Nat} (hlength : p.length = 4) (hwp : u16 p 0 = wp) (hhp : u16 p 2 = hp) : gmRaster p s =
    let r := clampRaster wp hp
    let g := reclamp r s.ge.active
    accept (if r = ⟨wp, hp⟩ then .ok else .clamped)
      (le16 r.wp ++ le16 r.hp ++ insetBytes g ++ [if g = s.ge.active then 0 else 1])
      { s with ge := { s.ge with raster := r, active := g, staged := .computing ⟨g, r, s.ge.orient⟩ } } := by
  have hmark (g : Insets) : mark (g ≠ s.ge.active) = if g = s.ge.active then 0 else 1 := by
    rw [mark_eq]
    simp only [decide_eq_true_eq, ne_eq, ite_not]
  rw [gmRaster, ofLength_of_length hlength, hwp, hhp]
  dsimp only
  rw [hmark, clampedIf_eq (kept := clampRaster wp hp = ⟨wp, hp⟩)]
  · rfl
  · rw [Bool.or_eq_false_iff, decide_eq_false_iff_not, decide_eq_false_iff_not, not_not, not_not]
    exact ⟨fun ⟨hwp, hhp⟩ => Raster.ext_fields hwp hhp, fun h => by rw [h]; exact ⟨rfl, rfl⟩⟩

theorem gmOrient_rest {o : Orientation} (hlength : p.length = 1) (ho : orientOf (u8 p 0) = some o)
    (hrest : s.lensAtRest = true) : gmOrient p s = accept .ok [byte (orientCode s.ge.orient), byte (orientCode o)]
      { s with ge := { s.ge with orient := o, staged := .computing ⟨s.ge.active, s.ge.raster, o⟩ } } := by
  rw [gmOrient, ofLength_of_length hlength, ho, hrest]
  rfl

theorem gmOrient_motion {o : Orientation} (hlength : p.length = 1) (ho : orientOf (u8 p 0) = some o)
    (hrest : s.lensAtRest = false) : gmOrient p s = refuse .inMotion s := by
  rw [gmOrient, ofLength_of_length hlength, ho, hrest]
  rfl

theorem gmOrient_bad (hlength : p.length = 1) (ho : orientOf (u8 p 0) = none) : gmOrient p s = refuse .badValue s := by
  rw [gmOrient, ofLength_of_length hlength, ho]

theorem orientOf_byte (o : Orientation) : orientOf (u8 [byte (orientCode o)] 0) = some o := by cases o <;> rfl

theorem orientOf_eq_none {n : Nat} (h : 4 ≤ n) : orientOf n = none := by
  obtain ⟨k, rfl⟩ := Nat.exists_eq_add_of_le' h
  rfl

/-- Settles O36: each outcome of the checks is one case of the request. -/
theorem rasterAndOrient : Obligations.RasterAndOrient := by
  intro s hs
  refine ⟨fun wp hp hwp hhp => ?_, fun o hrest => ?_, fun o hrest => ?_, fun n hlow hhigh => ?_,
    fun p hp => request_of_badLength hs (ofLength_of_length_ne hp _),
    fun p hp => request_of_badLength hs (ofLength_of_length_ne hp _)⟩
  · rw [← clampRaster_eq]
    exact request_of_reply hs (Nat.le_of_ble_eq_true rfl) (gmRaster_eq rfl (u16_field hwp rfl) (u16_field hhp rfl))
  · exact request_of_reply hs (Nat.le_of_ble_eq_true rfl) (gmOrient_rest rfl (orientOf_byte o) hrest)
  · exact request_of_reply hs (Nat.le_of_ble_eq_true rfl) (gmOrient_motion rfl (orientOf_byte o) hrest)
  · refine request_of_reply hs (Nat.le_of_ble_eq_true rfl) (gmOrient_bad rfl ?_)
    rw [u8_byte hhigh, orientOf_eq_none hlow]

/-! ## TH_QUIET (R117, R122) -/

theorem capOf_ge (quiet : Nat) (fan : Fan) : 45 ≤ capOf quiet fan ∧ capOf quiet fan ≤ 100 := by
  unfold capOf
  split <;> omega

/-- A fan's record cut to its cap, which is above the 30 that would spoil a tach window (R113, R122, R124). -/
def capped (cap : Nat) (f : FanRecord) : FanRecord :=
  if f.override || f.compensating || f.failsafe then f
  else { f with duty := min f.duty cap, target := min f.target cap }

theorem cutTo_eq {cap : Nat} (hcap : 30 ≤ cap) (f : FanRecord) : cutTo cap f = capped cap f := by
  unfold cutTo capped exempt
  split
  · rfl
  · have hdip : (f.dipped || decide (cap < 30)) = f.dipped := by
      rw [decide_eq_false (by omega), Bool.or_false]
    split
    · next h => rw [setDuty, hdip, min_eq_right h.le]
    · next h => rw [min_eq_left (not_lt.mp h)]

theorem capCut_run (h : s.mc.mode = .run) : capCut s = { s with cc := { s.cc with
    fans := .make fun fan => capped (capInForce s fan) (s.cc.fans.get fan) } } := by
  have hcut (fan : Fan) (f : FanRecord) : cutTo (capInForce s fan) f = capped (capInForce s fan) f :=
    cutTo_eq (by have := (capOf_ge s.setup.quiet fan).1; unfold capInForce; omega) f
  rw [capCut, if_pos h]
  simp only [mapFans, hcut]
  rfl

theorem capCut_not_run (h : s.mc.mode ≠ .run) : capCut s = s := if_neg h

theorem thQuiet_eq {n : Nat} (hlength : p.length = 1) (hn : u8 p 0 = n) : thQuiet p s =
    accept (if 3 < n then .clamped else .ok)
      [byte s.setup.quiet, byte (min n 3), byte (capOf (min n 3) .f0), byte (capOf (min n 3) .f1), byte (capOf (min n 3) .f2)]
      { s with
        setup := { s.setup with quiet := min n 3, modified := s.setup.modified || s.setup.quiet ≠ min n 3 }
        cc := if s.mc.mode = .run then { s.cc with
            fans := .make fun fan => capped (capOf (min n 3) fan) (s.cc.fans.get fan) } else s.cc } := by
  rw [thQuiet, ofLength_of_length hlength, hn]
  by_cases hmode : s.mc.mode = .run
  · dsimp only
    rw [capCut_run (by exact hmode), if_pos hmode, clampedIf]
    simp only [decide_eq_true_eq]
    rfl
  · dsimp only
    rw [capCut_not_run (by exact hmode), if_neg hmode, clampedIf]
    simp only [decide_eq_true_eq]
    rfl

/-- Settles O37: the level is stored, and the cap cut acts in RUN. -/
theorem quietLevelActs : Obligations.QuietLevelActs := by
  intro s n hs hn
  exact request_of_reply hs (Nat.le_of_ble_eq_true rfl) (thQuiet_eq rfl (u8_byte hn))

/-! ## The focus requests (R101, R104, R108, R109) -/

theorem viewBytes_fields (s : State) : ∀ field ∈ viewFields s, FieldAt (viewBytes s) field := by
  have htarget : s.fc.trim.elim 0 (·.target) = (s.fc.trim.map (·.target)).getD 0 := by cases s.fc.trim <;> rfl
  have hthreshold : (if s.setup.quiet = 3 then 15 else 6 : Byte) = byte (trimThreshold s.setup.quiet) := by
    unfold trimThreshold
    split <;> rfl
  simp only [viewFields, List.forall_mem_cons, htarget, hthreshold]
  exact ⟨rfl, rfl, rfl, rfl, rfl, rfl, rfl, rfl, rfl, rfl, rfl, rfl, rfl, rfl, fun _ h => nomatch h⟩

/-- The frame of FC_TABLE (R187). -/
def driftFrame (c : Fin 5 → Int) : Payload := le16s (c 0) ++ le16s (c 1) ++ le16s (c 2) ++ le16s (c 3) ++ le16s (c 4)

theorem frameDrift_driftFrame {c : Fin 5 → Int} (hc : ∀ k, -32768 ≤ c k ∧ c k ≤ 32767) (f : Int → Int) :
    frameDrift f (driftFrame c) = ⟨f (c 0), f (c 1), f (c 2), f (c 3), f (c 4)⟩ := by
  rw [frameDrift, s16_field (hc 0) rfl, s16_field (hc 1) rfl, s16_field (hc 2) rfl, s16_field (hc 3) rfl,
    s16_field (hc 4) rfl]

theorem clampCoefficient_eq (x : Int) : clampCoefficient x = max (-200) (min x 200) := clampInt_eq_max_min (by decide)

theorem fcTable_eq {c : Fin 5 → Int} (hc : ∀ k, -32768 ≤ c k ∧ c k ≤ 32767) :
    let k (x : Int) : Int := max (-200) (min x 200)
    let t : State := { s with fc := { s.fc with table := ⟨k (c 0), k (c 1), k (c 2), k (c 3), k (c 4)⟩ } }
    fcTable (driftFrame c) s = accept (if ∀ i, k (c i) = c i then .ok else .clamped) (viewBytes t) t := by
  dsimp only
  rw [fcTable, ofLength_of_length (show (driftFrame c).length = 10 from rfl)]
  dsimp only
  rw [frameDrift_driftFrame hc, frameDrift_driftFrame hc]
  simp only [clampCoefficient_eq]
  rw [clampedIf_eq (kept := ∀ i, max (-200) (min (c i) 200) = c i)]
  · rfl
  · rw [decide_eq_false_iff_not, ne_eq, not_not, DriftTable.mk.injEq]
    simp only [Fin.forall_fin_succ, id]
    exact ⟨fun ⟨h0, h1, h2, h3, h4⟩ => ⟨h0, h1, h2, h3, h4, fun i => i.elim0⟩,
      fun ⟨h0, h1, h2, h3, h4, _⟩ => ⟨h0, h1, h2, h3, h4⟩⟩

theorem setChoice_eq (on : Bool) (s : State) : setChoice on s = { s with
    setup := { s.setup with focusOn := on, modified := s.setup.modified || s.setup.focusOn ≠ on }
    fc := { s.fc with comp := if s.setup.focusOn && !on then 0 else s.fc.comp } } := by
  unfold setChoice takeFocusChoice
  split <;> rfl

theorem fcEnable_eq (on : Bool) (s : State) : fcEnable [if on then 1 else 0] s =
    accept .ok ((if s.setup.focusOn then 1 else 0) :: (if on then 1 else 0) :: viewBytes (setChoice on s))
      (setChoice on s) := by
  cases on <;> rfl

theorem fcEnable_bad {n : Nat} (hlength : p.length = 1) (hn : u8 p 0 = n) (h : 2 ≤ n) :
    fcEnable p s = refuse .badValue s := by
  rw [fcEnable, ofLength_of_length hlength, hn]
  exact if_pos h

/-- Settles O39: the frame's values, the choice and S3 decide the state, and the view is that of the state left. -/
theorem focusRequests : Obligations.FocusRequests := by
  intro s hs
  refine ⟨fun c hc => ?_, fun on => ?_, ?_, rfl, viewBytes_fields s, fun n hlow hhigh => ?_,
    fun p hp => request_of_badLength hs (ofLength_of_length_ne hp _),
    fun p hp => request_of_badLength hs (ofLength_of_length_ne hp _),
    fun p hp => request_of_badLength hs (ofLength_of_length_ne hp _)⟩
  · exact request_of_reply hs (Nat.le_of_ble_eq_true rfl) (fcTable_eq hc)
  · dsimp only
    rw [← setChoice_eq]
    exact request_of_reply hs (Nat.le_of_ble_eq_true rfl) (fcEnable_eq on s)
  · exact request_of_reply hs (Nat.le_of_ble_eq_true rfl) rfl
  · exact request_of_reply hs (Nat.le_of_ble_eq_true rfl) (fcEnable_bad rfl (u8_byte hhigh) hlow)

/-! ## Lens requests outside RUN -/

theorem axisOf_axisNumber (ax : Axis) : axisOf (axisNumber ax) = some ax := by cases ax <;> rfl

theorem withAxis_axis {ax : Axis} (hp : p.getD 0 0 = byte (axisNumber ax)) (body : Axis → State → Reply × State) :
    withAxis p body s = body ax s := by
  have hn : u8 p 0 = axisNumber ax := u8_field (by cases ax <;> decide) hp
  rw [withAxis, hn, axisOf_axisNumber]

theorem lnMove_wrongMode {ax : Axis} (hlength : p.length = 3) (hp : p.getD 0 0 = byte (axisNumber ax))
    (hmode : s.mc.mode ≠ .run) : lnMove p s = refuse .wrongMode s := by
  rw [lnMove, ofLength_of_length hlength, withAxis_axis hp, if_pos hmode]

theorem lnJog_wrongMode {ax : Axis} (hlength : p.length = 2) (hp : p.getD 0 0 = byte (axisNumber ax))
    (hdirection : u8 p 1 ≤ 1) (hmode : s.mc.mode ≠ .run) : lnJog p s = refuse .wrongMode s := by
  rw [lnJog, ofLength_of_length hlength, withAxis_axis hp, if_neg (Nat.not_lt.mpr hdirection), if_pos hmode]

theorem lnLearn_wrongMode {ax : Axis} (hlength : p.length = 1) (hp : p.getD 0 0 = byte (axisNumber ax))
    (hmode : s.mc.mode ≠ .run) : lnLearn p s = refuse .wrongMode s := by
  rw [lnLearn, ofLength_of_length hlength, withAxis_axis hp, if_pos hmode]

theorem plRecall_wrongMode {i : Fin 24} (hlength : p.length = 1) (hp : u8 p 0 = i.val + 1) (hmode : s.mc.mode ≠ .run) :
    plRecall p s = refuse .wrongMode s := by
  rw [plRecall, ofLength_of_length hlength, withSlot_slot hp, if_pos hmode]

theorem plCapture_wrongMode {i : Fin 24} (hlength : p.length = 1) (hp : u8 p 0 = i.val + 1) (hmode : s.mc.mode ≠ .run) :
    plCapture p s = refuse .wrongMode s := by
  have hok : captureLengthOk p = true := by
    rw [captureLengthOk, hlength]
    rfl
  rw [plCapture, hok]
  refine (if_neg (by decide)).trans ?_
  rw [withSlot_slot hp, captureLabel, if_pos hlength]
  exact (if_neg (by decide)).trans (if_pos hmode)

/-- Settles O34: each of the five requests checks the mode before it acts. -/
theorem lensRequestsOutsideRun : Obligations.LensRequestsOutsideRun := by
  intro s ax i v up hs hmode
  have short {q : Payload} (h : q.length ≤ 3) : q.length ≤ 48 := h.trans (by decide)
  have hup : u8 [byte (axisNumber ax), if up then 1 else 0] 1 ≤ 1 := by
    cases up <;> exact Nat.le_of_ble_eq_true rfl
  simp only [List.forall_mem_cons]
  refine ⟨?_, ?_, ?_, ?_, ?_, fun _ h => nomatch h⟩
  · exact request_of_reply hs (short (Nat.le_refl 3)) (lnMove_wrongMode rfl rfl hmode)
  · exact request_of_reply hs (short (Nat.le_succ 2)) (lnJog_wrongMode rfl rfl hup hmode)
  · exact request_of_reply hs (short (by decide : 1 ≤ 3)) (lnLearn_wrongMode rfl rfl hmode)
  · exact request_of_reply hs (short (by decide : 1 ≤ 3)) (plRecall_wrongMode rfl (u8_byte_slot i) hmode)
  · exact request_of_reply hs (short (by decide : 1 ≤ 3)) (plCapture_wrongMode rfl (u8_byte_slot i) hmode)

end Sys2Proof.Machine
end

section
/-! The query requests: the length of each response and its fields at their byte positions (R188). -/

namespace Sys2Proof.Machine

variable {s : State} {a b v : List Byte} {k : Nat}

/-! ## Fields of a payload made of parts -/

theorem fieldAt_append_left {field : Nat × List Byte} (h : FieldAt a field) : FieldAt (a ++ b) field := by
  unfold FieldAt at h ⊢
  have hlength := congrArg List.length h
  rw [List.length_take, List.length_drop] at hlength
  by_cases hempty : field.2.length = 0
  · rw [hempty, List.take_zero, List.length_eq_zero_iff.mp hempty]
  · rw [List.drop_append_of_le_length (by omega), List.take_append_of_le_length (by rw [List.length_drop]; omega), h]

theorem fieldAt_append_right {n : Nat} (hn : n = a.length + k) (h : FieldAt b (k, v)) : FieldAt (a ++ b) (n, v) := by
  unfold FieldAt at h ⊢
  dsimp only at h ⊢
  rw [hn, List.drop_length_add_append, h]

/-- The fields of a layout that begins at a byte position. -/
def shifted (k : Nat) (fields : List (Nat × List Byte)) : List (Nat × List Byte) := fields.map fun x => (k + x.1, x.2)

theorem fieldAt_shifted {fields : List (Nat × List Byte)} (hk : a.length = k) (h : ∀ x ∈ fields, FieldAt b x) :
    ∀ x ∈ shifted k fields, FieldAt (a ++ b) x := by
  intro x hx
  obtain ⟨y, hy, rfl⟩ := List.mem_map.mp hx
  exact fieldAt_append_right (by rw [hk]) (h y hy)

/-- An optional value, 0 when absent, as the layouts state it and as the payloads send it. -/
theorem elim_zero_eq {α : Type} (o : Option α) (f : α → Nat) : o.elim 0 f = (o.map f).getD 0 := by cases o <;> rfl

/-! ## LN_QUERY (R79, R99) -/

theorem length_axisRecordBytes (s : State) (ax : Axis) : (axisRecordBytes s ax).length = 31 := rfl

theorem motionFields_eq (now : Time) (k : Nat) (o : Option Motion) :
    motionFields now k o = shifted k (motionFields now 0 o) := by cases o <;> simp [motionFields, shifted]

theorem axisFields_eq (s : State) (k : Nat) (ax : Axis) : axisFields s k ax = shifted k (axisFields s 0 ax) := by
  unfold axisFields
  dsimp only
  rw [motionFields_eq]
  simp [shifted]

theorem inMs_zero : inMs 0 = 0 := by simp [inMs, inUnits]

theorem axisRecordBytes_fields (s : State) (ax : Axis) : ∀ x ∈ axisFields s 0 ax, FieldAt (axisRecordBytes s ax) x := by
  have hmotion : ∀ x ∈ motionFields s.now 0 (s.lens.get ax).motion, FieldAt (axisRecordBytes s ax) x := by
    rw [axisRecordBytes]
    cases (s.lens.get ax).motion with
    | none =>
      simp only [motionFields, List.forall_mem_cons]
      have hzero : [0, 0] = le16 (min (inMs 0) 65535) := by
        rw [inMs_zero]
        rfl
      rw [hzero]
      exact ⟨rfl, rfl, rfl, fun _ h => nomatch h⟩
    | some m =>
      simp only [motionFields, List.forall_mem_cons]
      exact ⟨rfl, rfl, rfl, rfl, rfl, fun _ h => nomatch h⟩
  unfold axisFields
  simp only [List.forall_mem_append, List.forall_mem_cons, ← marks_eq, elim_zero_eq]
  exact ⟨⟨rfl, rfl, rfl, rfl, rfl, rfl, rfl, rfl, rfl, rfl, fun _ h => nomatch h⟩, hmotion⟩

theorem length_entryBytes (now : Time) (e : Entry) : (entryBytes now e).length = 8 := rfl

theorem entryFields_eq (e : Entry) (n : Nat) : entryFields (e, n) = shifted (128 + 8 * n)
    [(0, [byte (axisNumber e.axis)]), (1, [byte (originCode (originOf e.job))]),
      (2, le16 ((jobTarget e.job).getD 0)), (4, [byte ((jobTag e.job).getD 0)])] := rfl

theorem entryBytes_fields (now : Time) (e : Entry) : ∀ x ∈ [(0, [byte (axisNumber e.axis)]),
    (1, [byte (originCode (originOf e.job))]), (2, le16 ((jobTarget e.job).getD 0)), (4, [byte ((jobTag e.job).getD 0)])],
    FieldAt (entryBytes now e) x := by
  simp only [List.forall_mem_cons]
  exact ⟨rfl, rfl, rfl, rfl, fun _ h => nomatch h⟩

/-- The entries of the queue view, the `n`-th of them after 128 bytes and the older entries. -/
theorem entries_fields (now : Time) (l : List Entry) (n : Nat) (a : List Byte) (ha : a.length = 128 + 8 * n) :
    ∀ x ∈ (l.zipIdx n).flatMap entryFields, FieldAt (a ++ l.flatMap (entryBytes now)) x := by
  induction l generalizing n a with
  | nil => exact fun _ h => nomatch h
  | cons e l ih =>
    rw [List.zipIdx_cons, List.flatMap_cons, List.flatMap_cons, List.forall_mem_append, ← List.append_assoc]
    refine ⟨fun x hx => fieldAt_append_left ?_, ih (n + 1) _ ?_⟩
    · exact fieldAt_shifted ha (entryBytes_fields now e) x (entryFields_eq e n ▸ hx)
    · rw [List.length_append, ha, length_entryBytes]
      omega

theorem length_entries (now : Time) (l : List Entry) : (l.flatMap (entryBytes now)).length = 8 * l.length := by
  induction l with
  | nil => rfl
  | cons e l ih =>
    rw [List.flatMap_cons, List.length_append, ih, length_entryBytes, List.length_cons]
    omega

/-- The payload of LN_QUERY 4 before the entries: the four axis records and the head of the queue view. -/
def lensHead (s : State) : List Byte :=
  axisRecordBytes s .vshift ++ (axisRecordBytes s .hshift ++ (axisRecordBytes s .zoom ++ axisRecordBytes s .focus))
    ++ [byte s.mq.budget, byte s.unitsHeld, byte (s.mq.budget - s.unitsHeld), byte s.mq.entries.length]

theorem length_lensHead (s : State) : (lensHead s).length = 128 := by
  simp only [lensHead, List.length_append, length_axisRecordBytes, List.length_cons, List.length_nil]

theorem lensBytes_eq (s : State) : axes.flatMap (axisRecordBytes s) ++ queueBytes s
    = lensHead s ++ s.mq.entries.flatMap (entryBytes s.now) := by
  simp [axes, queueBytes, lensHead]

theorem lensHead_fields (s : State) : ∀ x ∈ axes.flatMap (fun ax => axisFields s (31 * axisNumber ax) ax)
    ++ [(124, [byte s.mq.budget]), (125, [byte s.unitsHeld]), (126, [byte (s.mq.budget - s.unitsHeld)]),
      (127, [byte s.mq.entries.length])], FieldAt (lensHead s) x := by
  rw [List.forall_mem_append]
  constructor
  · simp only [axes, List.flatMap_cons, List.flatMap_nil, List.append_nil, List.forall_mem_append, axisNumber]
    have record := axisRecordBytes_fields s
    refine ⟨fun x hx => ?_, fun x hx => ?_, fun x hx => ?_, fun x hx => ?_⟩
    · exact fieldAt_append_left (fieldAt_append_left (record .vshift x hx))
    · rw [axisFields_eq] at hx
      refine fieldAt_append_left (fieldAt_shifted (length_axisRecordBytes s .vshift) ?_ x hx)
      exact fun y hy => fieldAt_append_left (record .hshift y hy)
    · rw [axisFields_eq] at hx
      rw [lensHead, ← List.append_assoc (axisRecordBytes s .vshift)]
      refine fieldAt_append_left (fieldAt_shifted (by rw [List.length_append]; rfl) ?_ x hx)
      exact fun y hy => fieldAt_append_left (record .zoom y hy)
    · rw [axisFields_eq] at hx
      rw [lensHead, ← List.append_assoc (axisRecordBytes s .vshift), ← List.append_assoc (_ ++ _)]
      exact fieldAt_append_left (fieldAt_shifted (by rw [List.length_append, List.length_append]; rfl) (record .focus) x hx)
  · simp only [List.forall_mem_cons]
    have head (k : Nat) (v : List Byte) (n : Nat) (hn : n = 124 + k) (h : FieldAt [byte s.mq.budget, byte s.unitsHeld,
        byte (s.mq.budget - s.unitsHeld), byte s.mq.entries.length] (k, v)) : FieldAt (lensHead s) (n, v) :=
      fieldAt_append_right (by simp only [List.length_append, length_axisRecordBytes, hn]) h
    exact ⟨head 0 _ _ rfl rfl, head 1 _ _ rfl rfl, head 2 _ _ rfl rfl, head 3 _ _ rfl rfl, fun _ h => nomatch h⟩

theorem lensBytes_fields (s : State) :
    ∀ x ∈ lensFields s, FieldAt (axes.flatMap (axisRecordBytes s) ++ queueBytes s) x := by
  rw [lensBytes_eq, lensFields, List.forall_mem_append]
  exact ⟨fun x hx => fieldAt_append_left (lensHead_fields s x hx), entries_fields s.now _ 0 _ (length_lensHead s)⟩

theorem length_lensBytes (s : State) :
    (axes.flatMap (axisRecordBytes s) ++ queueBytes s).length = 128 + 8 * s.mq.entries.length := by
  rw [lensBytes_eq, List.length_append, length_lensHead, length_entries]

/-! ## The other queries -/

theorem length_setupBytes (a : ActiveSetup) (g : Insets) : (setupBytes a g).length = 52 := by
  unfold setupBytes currentBytes reportBytes
  cases a.current <;> cases a.report <;> rfl

theorem slotByte_eq (o : Option (Fin 24)) : slotByte o = byte (optSlotNumber o) := by cases o <;> rfl

theorem setupBytes_fields (s : State) : ∀ x ∈ setupFields s, FieldAt (setupBytes s.setup s.ge.active) x := by
  cases hcurrent : s.setup.current <;> cases hreport : s.setup.report <;>
    simp [FieldAt, setupBytes, currentBytes, reportBytes, setupFields, insetFields, ← marks_eq, slotByte_eq, axes,
      axisNumber, insetBytes, le16, le16s, PerAxis.toList, show byte 0 = 0#8 from rfl, PerAxis.get, optLe16, optSlotNumber, slotNumber, hcurrent,
      hreport]

theorem geometryBytes_fields (e : GeometryEngine) : ∀ x ∈ geometryFields e, FieldAt (geometryBytes e) x := by
  simp [geometryFields, insetFields, FieldAt, geometryBytes, insetBytes, le16, rowLimit, cornerLimit]

theorem length_geometryBytes (e : GeometryEngine) : (geometryBytes e).length = 48 := by
  simp [geometryBytes, insetBytes, le16]

theorem cooldownBytes_three (s : State) : ∃ x y z, cooldownBytes s = [x, y, z] := by
  unfold cooldownBytes
  split <;> exact ⟨_, _, _, rfl⟩

theorem length_modeBytes (s : State) : (modeBytes s).length = 16 := by
  obtain ⟨x, y, z, h⟩ := cooldownBytes_three s
  unfold modeBytes tripBytes
  rw [h]
  cases s.mc.lastTrip <;> rfl

theorem modeBytes_fields (s : State) : ∀ x ∈ modeFields s, FieldAt (modeBytes s) x := by
  obtain ⟨x, y, z, h⟩ := cooldownBytes_three s
  unfold modeFields tripFields modeBytes tripBytes
  rw [h]
  simp only [List.forall_mem_append, List.forall_mem_cons, ← marks_eq]
  refine ⟨⟨rfl, rfl, rfl, rfl, rfl, fun _ h => nomatch h⟩, ?_⟩
  cases s.mc.lastTrip with
  | none =>
    simp only [List.forall_mem_cons]
    exact ⟨rfl, fun _ h => nomatch h⟩
  | some r =>
    simp only [List.forall_mem_cons]
    refine ⟨rfl, ?_, rfl, rfl, rfl, fun _ h => nomatch h⟩
    cases r.cause <;> rfl

theorem fanBytes_fields (s : State) (fan : Fan) : ∀ x ∈ fanFields s fan, FieldAt (fanBytes s fan) x := by
  unfold fanFields pointFields
  simp only [List.forall_mem_append, List.forall_mem_cons, ← marks_eq, Curve.points, List.zipIdx_cons, List.zipIdx_nil,
    List.map_cons, List.map_nil]
  exact ⟨⟨rfl, rfl, rfl, rfl, rfl, rfl, rfl, rfl, rfl, rfl, rfl, rfl, fun _ h => nomatch h⟩,
    rfl, rfl, rfl, rfl, rfl, rfl, fun _ h => nomatch h⟩

theorem length_fanBytes (s : State) (fan : Fan) : (fanBytes s fan).length = 32 := rfl

theorem coolingBytes_fields (s : State) : ∀ x ∈ coolingFields s, FieldAt (coolingBytes s) x := by
  unfold coolingFields limitFields
  simp only [List.forall_mem_append, List.forall_mem_cons, ← marks_eq, sensors, List.flatMap_cons, List.flatMap_nil,
    sensorNumber]
  exact ⟨⟨⟨rfl, rfl, rfl, rfl, rfl, fun _ h => nomatch h⟩, rfl, fun _ h => nomatch h⟩,
    ⟨rfl, rfl, rfl, fun _ h => nomatch h⟩, ⟨rfl, rfl, rfl, fun _ h => nomatch h⟩, ⟨rfl, rfl, rfl, fun _ h => nomatch h⟩,
    ⟨rfl, rfl, rfl, fun _ h => nomatch h⟩, ⟨rfl, rfl, rfl, fun _ h => nomatch h⟩, ⟨rfl, rfl, rfl, fun _ h => nomatch h⟩,
    ⟨rfl, rfl, rfl, fun _ h => nomatch h⟩, ⟨rfl, rfl, rfl, fun _ h => nomatch h⟩, fun _ h => nomatch h⟩

theorem summaryBytes_fields (s : State) :
    ∀ x ∈ sensors.flatMap fun sn => summaryFields (7 * sensorNumber sn) (s.scan.therms.get sn),
      FieldAt (s.scan.therms.toList.flatMap summaryBytes) x := by
  unfold summaryFields
  simp only [List.forall_mem_append, List.forall_mem_cons, ← marks_eq, sensors, List.flatMap_cons, List.flatMap_nil,
    sensorNumber, elim_zero_eq]
  exact ⟨⟨rfl, rfl, rfl, rfl, rfl, fun _ h => nomatch h⟩, ⟨rfl, rfl, rfl, rfl, rfl, fun _ h => nomatch h⟩,
    ⟨rfl, rfl, rfl, rfl, rfl, fun _ h => nomatch h⟩, ⟨rfl, rfl, rfl, rfl, rfl, fun _ h => nomatch h⟩,
    ⟨rfl, rfl, rfl, rfl, rfl, fun _ h => nomatch h⟩, ⟨rfl, rfl, rfl, rfl, rfl, fun _ h => nomatch h⟩,
    ⟨rfl, rfl, rfl, rfl, rfl, fun _ h => nomatch h⟩, ⟨rfl, rfl, rfl, rfl, rfl, fun _ h => nomatch h⟩, fun _ h => nomatch h⟩

theorem scanBytes_fields (c : Scanner) : ∀ x ∈ scanFields c, FieldAt (scanBytes c) x := by
  have interval : [if c.slowInterval = .one then (1 : Byte) else 0] = [mark (c.slowInterval = .one)] := by
    rw [mark_eq]
    simp
  unfold scanFields fastFields
  simp only [List.forall_mem_append, List.forall_mem_cons, axes, List.flatMap_cons, List.flatMap_nil, axisNumber,
    elim_zero_eq, interval]
  exact ⟨⟨⟨⟨rfl, rfl, rfl, fun _ h => nomatch h⟩, ⟨rfl, rfl, rfl, fun _ h => nomatch h⟩,
    ⟨rfl, rfl, rfl, fun _ h => nomatch h⟩, ⟨rfl, rfl, rfl, fun _ h => nomatch h⟩, fun _ h => nomatch h⟩,
    rfl, rfl, rfl, fun _ h => nomatch h⟩, rfl, rfl, rfl, rfl, rfl, fun _ h => nomatch h⟩

theorem sensorBytes_fields (s : State) (sn : Sensor) :
    ∀ x ∈ sensorFields s sn, FieldAt (sensorBytes sn (s.scan.therms.get sn)) x := by
  unfold sensorFields
  simp only [List.forall_mem_cons, ← marks_eq, elim_zero_eq]
  exact ⟨rfl, rfl, rfl, rfl, rfl, rfl, rfl, rfl, rfl, rfl, rfl, rfl, fun _ h => nomatch h⟩

/-! ## What each query answers -/

theorem lnQuery_axis (s : State) (ax : Axis) :
    lnQuery [byte (axisNumber ax)] s = accept .ok (axisRecordBytes s ax) s := by
  have h : lnQuery [byte (axisNumber ax)] s = accept .ok ([ax].flatMap (axisRecordBytes s) ++ []) s := by
    cases ax <;> rfl
  rw [h, List.append_nil, List.flatMap_singleton]

theorem snQuery_sensor (s : State) (sn : Sensor) :
    snQuery [byte (sensorNumber sn)] s = accept .ok (sensorBytes sn (s.scan.therms.get sn)) s := by
  cases sn <;> rfl

/-- Every query answers OK with its payload and changes nothing but the link. -/
theorem exec_query (hs : s.Ready) {q : Instr} {pl : List Byte} {n : Nat} (h : (q, pl, n) ∈ s.queries) :
    exec q s = .next (s.answered .ok pl) := by
  have all : ∀ x ∈ s.queries, exec x.1 s = .next (s.answered .ok x.2.1) := by
    unfold State.queries
    simp only [List.forall_mem_append, List.forall_mem_cons, List.forall_mem_map]
    refine ⟨⟨⟨?_, ?_, ?_, ?_, ?_, ?_, ?_, ?_, ?_, ?_, fun _ h => nomatch h⟩, fun ax _ => ?_⟩, fun sn _ => ?_⟩
    · exact request_of_reply hs (Nat.zero_le _) rfl
    · exact request_of_reply hs (Nat.zero_le _) rfl
    · exact request_of_reply hs (Nat.zero_le _) rfl
    · exact request_of_reply hs (by simp) rfl
    · exact request_of_reply hs (by simp) rfl
    · exact request_of_reply hs (by simp) rfl
    · exact request_of_reply hs (by simp) rfl
    · exact request_of_reply hs (by simp) rfl
    · exact request_of_reply hs (by simp) rfl
    · exact request_of_reply hs (by simp) rfl
    · exact request_of_reply hs (by simp) (lnQuery_axis s ax)
    · exact request_of_reply hs (by simp) (snQuery_sensor s sn)
  exact all _ h

/-- The layouts of R188: the length of each query's payload. -/
theorem length_query {q : Instr} {pl : List Byte} {n : Nat} (h : (q, pl, n) ∈ s.queries) : pl.length = n := by
  have all : ∀ x ∈ s.queries, x.2.1.length = x.2.2 := by
    unfold State.queries
    simp only [List.forall_mem_append, List.forall_mem_cons, List.forall_mem_map]
    refine ⟨⟨⟨length_setupBytes _ _, length_geometryBytes _, length_modeBytes s, length_lensBytes s, length_fanBytes s _,
      length_fanBytes s _, length_fanBytes s _, ?_, ?_, ?_, fun _ h => nomatch h⟩, fun ax _ => length_axisRecordBytes s ax⟩, fun sn _ => ?_⟩
    · rfl
    · rfl
    · rfl
    · rfl
  exact all _ h

/-- Each query of `State.fields` is one of `State.queries`, with its fields at their positions. -/
theorem query_of_fields {q : Instr} {fields : List (Nat × List Byte)} (h : (q, fields) ∈ s.fields) :
    ∃ pl n, (q, pl, n) ∈ s.queries ∧ ∀ x ∈ fields, FieldAt pl x := by
  have all : ∀ x ∈ s.fields, ∃ pl n, (x.1, pl, n) ∈ s.queries ∧ ∀ y ∈ x.2, FieldAt pl y := by
    have view {x : Instr × List Byte × Nat} (hx : x ∈ s.queries.take 10) : x ∈ s.queries := List.mem_of_mem_take hx
    unfold State.fields
    simp only [List.forall_mem_append, List.forall_mem_cons, List.forall_mem_map]
    refine ⟨⟨⟨?_, ?_, ?_, ?_, ?_, ?_, ?_, ?_, ?_, ?_, fun _ h => nomatch h⟩, fun ax _ => ?_⟩, fun sn _ => ?_⟩
    · exact ⟨_, _, view (.head _), setupBytes_fields s⟩
    · exact ⟨_, _, view (.tail _ (.head _)), geometryBytes_fields s.ge⟩
    · exact ⟨_, _, view (.tail _ (.tail _ (.head _))), modeBytes_fields s⟩
    · exact ⟨_, _, view (.tail _ (.tail _ (.tail _ (.head _)))), lensBytes_fields s⟩
    · exact ⟨_, _, view (.tail _ (.tail _ (.tail _ (.tail _ (.head _))))), fanBytes_fields s _⟩
    · exact ⟨_, _, view (.tail _ (.tail _ (.tail _ (.tail _ (.tail _ (.head _)))))), fanBytes_fields s _⟩
    · exact ⟨_, _, view (.tail _ (.tail _ (.tail _ (.tail _ (.tail _ (.tail _ (.head _))))))), fanBytes_fields s _⟩
    · exact ⟨_, _, view (.tail _ (.tail _ (.tail _ (.tail _ (.tail _ (.tail _ (.tail _ (.head _)))))))),
        coolingBytes_fields s⟩
    · exact ⟨_, _, view (.tail _ (.tail _ (.tail _ (.tail _ (.tail _ (.tail _ (.tail _ (.tail _ (.head _))))))))),
        summaryBytes_fields s⟩
    · exact ⟨_, _, view (.tail _ (.tail _ (.tail _ (.tail _ (.tail _ (.tail _ (.tail _ (.tail _ (.tail _ (.head _)))))))))),
        scanBytes_fields s.scan⟩
    · refine ⟨_, 31, ?_, axisRecordBytes_fields s ax⟩
      exact List.mem_append_left _ (List.mem_append_right _ (List.mem_map_of_mem (mem_axes ax)))
    · refine ⟨_, 18, ?_, sensorBytes_fields s sn⟩
      exact List.mem_append_right _ (List.mem_map_of_mem (mem_sensors sn))
  exact all _ h

/-- Settles O29: each query answers with its payload, whose length and fields are those of its layout. -/
theorem queriesReadOnly : Obligations.QueriesReadOnly := by
  refine ⟨fun s q pl n hs h => ⟨length_query h, exec_query hs h⟩, fun s q fields hs h => ?_⟩
  obtain ⟨pl, n, hquery, hfields⟩ := query_of_fields h
  exact ⟨pl, exec_query hs hquery, hfields⟩

end Sys2Proof.Machine
end

section
-- One declaration at a time: many proofs that wait at once hold a thread each.
set_option Elab.async false
/-! The laws of the blocks and the alert flags, carried from one state to another: one lemma for each rule of the recall
and of a motion's end. `BlockLaws` holds what each block's own change carries; `Laws` besides what ties the mode to the
lens, the fast list and the fans, which only a whole operation carries. -/

namespace Sys2Proof.Machine

/-- Every law that speaks of one block, and every flag that has occurred, is carried from a state to another; the waiting
commands, the clock, the reset line and the command link are the same. -/
structure BlockLaws (s t : State) : Prop where
  outside : t.pending = s.pending ∧ t.now = s.now ∧ t.held = s.held ∧ t.cl = s.cl := by exact ⟨rfl, rfl, rfl, rfl⟩
  flagged : ∀ f, s.flagged f → t.flagged f := by exact fun _ h => h
  occurs : ∀ f, t.au.set.getLsbD (flagNumber f) = true → s.au.set.getLsbD (flagNumber f) = true ∨ t.flagged f := by
    exact fun _ h => .inl h
  alert : s.AlertLaw → t.AlertLaw := by exact fun h => h
  lines : s.LineLaw → t.LineLaw := by exact fun h => h
  budget : s.BudgetLaw → t.BudgetLaw := by exact fun h => h
  queue : s.QueueLaw → t.QueueLaw := by exact fun h => h
  axis : s.AxisLaw → t.AxisLaw := by exact fun h => h
  ring : s.RingLaw → t.RingLaw := by exact fun h => h
  recalls : s.RecallLaw → t.RecallLaw := by exact fun h => h
  placement : s.PlacementLaw → t.PlacementLaw := by exact fun h => h
  focus : s.PlacementLaw → s.FocusLaw → t.FocusLaw := by exact fun _ h => h
  geometry : s.GeometryLaw → t.GeometryLaw := by exact fun h => h
  bank : s.GeometryLaw → s.BankLaw → t.BankLaw := by exact fun _ h => h
  table : s.TableLaw → t.TableLaw := by exact fun h => h

/-- Besides, the laws that tie several blocks together are carried. -/
structure Laws (s t : State) : Prop extends BlockLaws s t where
  rest : s.RestLaw → t.RestLaw := by exact fun h => h
  fast : s.FastLaw → t.FastLaw := by exact fun h => h
  converter : s.ConverterLaw → t.ConverterLaw := by exact fun h => h
  cap : s.CapLaw → t.CapLaw := by exact fun h => h

variable {s t u : State}

theorem BlockLaws.refl (s : State) : BlockLaws s s := {}

theorem BlockLaws.trans (h : BlockLaws s t) (k : BlockLaws t u) : BlockLaws s u where
  outside := by
    obtain ⟨hpending, hnow, hheld, hcl⟩ := h.outside
    obtain ⟨kpending, know, kheld, kcl⟩ := k.outside
    exact ⟨kpending.trans hpending, know.trans hnow, kheld.trans hheld, kcl.trans hcl⟩
  flagged f x := k.flagged f (h.flagged f x)
  occurs f x := (k.occurs f x).elim (fun y => (h.occurs f y).imp_right (k.flagged f)) .inr
  alert x := k.alert (h.alert x)
  lines x := k.lines (h.lines x)
  budget x := k.budget (h.budget x)
  queue x := k.queue (h.queue x)
  axis x := k.axis (h.axis x)
  ring x := k.ring (h.ring x)
  recalls x := k.recalls (h.recalls x)
  placement x := k.placement (h.placement x)
  focus x y := k.focus (h.placement x) (h.focus x y)
  geometry x := k.geometry (h.geometry x)
  bank x y := k.bank (h.geometry x) (h.bank x y)
  table x := k.table (h.table x)

theorem Laws.refl (s : State) : Laws s s := {}

theorem Laws.trans (h : Laws s t) (k : Laws t u) : Laws s u where
  toBlockLaws := h.toBlockLaws.trans k.toBlockLaws
  rest x := k.rest (h.rest x)
  fast x := k.fast (h.fast x)
  converter x := k.converter (h.converter x)
  cap x := k.cap (h.cap x)

theorem BlockLaws.ite {c : Prop} [Decidable c] (h : c → BlockLaws s t) (k : BlockLaws s u) :
    BlockLaws s (if c then t else u) := by
  split
  · exact h ‹_›
  · exact k

theorem Laws.ite {c : Prop} [Decidable c] (h : c → Laws s t) (k : Laws s u) : Laws s (if c then t else u) := by
  split
  · exact h ‹_›
  · exact k

theorem Laws.fold {α : Type} (f : State → α → State) (h : ∀ s a, Laws s (f s a)) (l : List α) (s : State) :
    Laws s (l.foldl f s) := by
  induction l generalizing s with
  | nil => exact .refl s
  | cons a l ih => exact (h s a).trans (ih (f s a))

/-! ## Flags -/

theorem alertLaw_occurIn (f : Flag) (h : s.AlertLaw) : (occur f s).AlertLaw := by
  have hb (k : Nat) (x y : FlagSet) (hxy : x &&& y = x) : x.getLsbD k = true → y.getLsbD k = true := by
    intro hx
    rw [← hxy, BitVec.getLsbD_and] at hx
    exact (Bool.and_eq_true_iff.mp hx).2
  obtain ⟨hset, henable, htrip⟩ := h
  refine ⟨?_, ?_, htrip⟩
  · apply BitVec.eq_of_getLsbD_eq
    intro k hk
    have := hb k _ _ hset
    simp only [occur, State.mapAu, occurIn, BitVec.getLsbD_and, BitVec.getLsbD_or]
    grind
  · apply BitVec.eq_of_getLsbD_eq
    intro k hk
    have := hb k _ _ henable
    have := hb k (flagBit .trip) s.au.enable (by rw [BitVec.and_comm]; exact htrip)
    simp only [occur, State.mapAu, occurIn, BitVec.getLsbD_and, BitVec.getLsbD_or]
    grind

theorem occurs_occur {f g : Flag} (h : (occur g s).au.set.getLsbD (flagNumber f) = true) :
    s.au.set.getLsbD (flagNumber f) = true ∨ (occur g s).flagged f := by
  by_cases hfg : f = g
  · exact .inr (hfg ▸ flagged_occur_self f s)
  · have hset : (occur g s).au.set.getLsbD (flagNumber f) = (s.au.set.getLsbD (flagNumber f) || flagNumber f == flagNumber g) :=
      getLsbD_occurIn_set g s.au (flagNumber f)
    have hne : (flagNumber f == flagNumber g) = false := by
      rw [beq_eq_false_iff_ne]
      exact fun hn => hfg (flagNumber_inj hn)
    rw [hset, hne, Bool.or_false] at h
    exact .inl h

theorem laws_occur (f : Flag) : Laws s (occur f s) where
  flagged _ h := flagged_occur f h
  occurs _ h := occurs_occur h
  alert := alertLaw_occurIn f

theorem laws_occurIf (b : Bool) (f : Flag) : Laws s (occurIf b f s) := .ite (fun _ => laws_occur f) (.refl s)

/-! ## The geometry and the recall -/

theorem clampInsets_within (r : Raster) (top bottom tl tr bl br : Int) :
    (clampInsets r top bottom tl tr bl br).Within r :=
  ⟨clampNat_le _ _, clampNat_le _ _, clampNat_le _ _, clampNat_le _ _, clampNat_le _ _, clampNat_le _ _⟩

/-- New inputs that are sound, with a compute of them started, carry the laws of the geometry and the banks (R138). -/
theorem laws_inputs {active : Insets} {raster : Raster} {orient : Orientation}
    (h : s.GeometryLaw → (⟨active, raster, orient⟩ : Inputs).Sound) :
    Laws s (startCompute (s.mapGe fun g => { g with active := active, raster := raster, orient := orient })) where
  geometry hg := ⟨h hg, fun _ hi => Staged.computing.inj hi ▸ h hg⟩
  bank _ hb := ⟨hb.1, fun _ ht => nomatch ht⟩

theorem laws_applyGeometry (g : Insets) : Laws s (applyGeometry g s) :=
  laws_inputs (raster := s.ge.raster) (orient := s.ge.orient) fun h => ⟨h.1.1, clampInsets_within _ _ _ _ _ _ _⟩

theorem laws_endRecall (o : RecallOutcome) (b : Bool) : Laws s (endRecall o b s) := by
  unfold endRecall
  refine .trans ?_ (laws_occurIf _ _)
  exact { recalls := fun _ => ⟨nofun, Iff.intro (fun _ => rfl) fun _ => rfl⟩ }

theorem laws_axisPhaseEnd (r : Recall) : Laws s (axisPhaseEnd r s) := by
  unfold axisPhaseEnd
  dsimp only
  split
  · exact .trans { } (laws_endRecall _ _)
  · refine .trans ?_ (laws_applyGeometry _)
    exact { recalls := fun _ => ⟨nofun, Iff.intro nofun nofun⟩ }

/-- The record of the recall in flight changes. -/
theorem laws_setCurrent {r r' : Recall} (h : s.setup.current = some r) :
    Laws s (s.mapSetup fun a => { a with current := some r' }) where
  recalls := fun ⟨hpending, hnone⟩ =>
    ⟨hpending, Iff.intro (fun hstate => nomatch h.symm.trans (hnone.mp hstate)) nofun⟩

theorem laws_recordRecall (ax : Axis) (tag : Nat) (st : EndStatus) : Laws s (recordRecall ax tag st s) := by
  unfold recordRecall
  split
  · exact .refl s
  · next r hr =>
    dsimp only
    refine .ite (fun _ => ?_) (.refl s)
    exact .ite (fun _ => (laws_setCurrent hr).trans (laws_axisPhaseEnd _)) (laws_setCurrent hr)

theorem laws_markRunning (ax : Axis) (tag : Nat) : Laws s (markRunning ax tag s) := by
  unfold markRunning
  split
  · exact .refl s
  · next r hr => exact .ite (fun _ => laws_setCurrent hr) (.refl s)

theorem laws_abandonRecall (b : Bool) : Laws s (abandonRecall b s) := by
  unfold abandonRecall
  split
  · exact .refl s
  · next r hr => exact (laws_setCurrent hr).trans (laws_endRecall _ _)

/-- A sound table becomes the LIVE bank (R152). -/
theorem laws_swapTo {table : Table} (h : s.ge.staged = .ready table) : Laws s (swapTo table s) := by
  unfold swapTo recallAtSwap
  refine .trans ?_ (.ite (fun _ => laws_endRecall _ _) (.refl _))
  refine .trans ?_ (laws_occur _)
  exact { geometry := fun hg => ⟨hg.1, nofun⟩, bank := fun _ hb => ⟨hb.2 _ h, nofun⟩ }

theorem laws_swapIfReady : Laws s (swapIfReady s) := by
  unfold swapIfReady
  split
  · exact laws_swapTo ‹_›
  · exact .refl s
  · exact .refl s

/-! ## What a motion's end is handed to -/

/-- A base target of at most 4000 is set. -/
theorem laws_base {ax : Axis} {n : Nat} {modified : Bool} (hn : n ≤ 4000) :
    Laws s (s.mapSetup fun a => { a with base := a.base.set ax (some n), modified := modified }) where
  focus := fun _ ⟨hcoefficients, hcomp, hcomp', happlied, happlied', htrim, hbase⟩ => by
    refine ⟨hcoefficients, hcomp, hcomp', happlied, happlied', htrim, fun b k hk => ?_⟩
    by_cases hb : b = ax
    · subst hb
      simp at hk
      omega
    · simp [hb] at hk
      exact hbase b k hk

theorem laws_takeReference : Laws s (takeReference s) where
  focus := fun _ ⟨hcoefficients, _, _, _, _, htrim, hbase⟩ =>
    have zero : -150 ≤ (0 : Int) ∧ (0 : Int) ≤ 150 := by decide
    ⟨hcoefficients, zero.1, zero.2, zero.1, zero.2, htrim, hbase⟩

theorem laws_trimEnd (arrived : Bool) :
    Laws s (s.mapFc fun f => { (if arrived then trimArrived f else f) with trim := none }) where
  focus := fun _ ⟨hcoefficients, hcomp, hcomp', happlied, happlied', htrim, hbase⟩ => by
    cases arrived with
    | false => exact ⟨hcoefficients, hcomp, hcomp', happlied, happlied', nofun, hbase⟩
    | true =>
      have hx : -150 ≤ (trimArrived s.fc).applied ∧ (trimArrived s.fc).applied ≤ 150 := by
        unfold trimArrived
        cases h : s.fc.trim with
        | none => exact ⟨happlied, happlied'⟩
        | some x => exact htrim x h
      exact ⟨hcoefficients, hcomp, hcomp', hx.1, hx.2, nofun, hbase⟩

theorem laws_focusEnd (job : Job) (st : EndStatus) : Laws s (focusEnd job st s) := by
  cases job with
  | move _ => exact .ite (fun _ => laws_takeReference) (.refl s)
  | ofRecall _ _ => exact .ite (fun _ => laws_takeReference) (.refl s)
  | trim _ =>
    have h := laws_trimEnd (s := s) (decide (st = .arrived))
    simp only [decide_eq_true_eq] at h
    exact h
  | park _ => exact .refl s
  | jog _ _ => exact .ite (fun _ => .refl s) laws_takeReference
  | learn => exact .refl s

theorem laws_jogBase (ax : Axis) (cal : Option Calibration) (st : EndStatus) : Laws s (jogBase ax cal st s) := by
  cases cal with
  | none => exact .refl s
  | some c => exact .ite (fun _ => .refl s) (laws_base (modified := s.setup.modified) (normalise_le c _))

theorem laws_setupEnd (ax : Axis) (cal : Option Calibration) (job : Job) (st : EndStatus) :
    Laws s (setupEnd ax cal job st s) := by
  cases job with
  | ofRecall _ _ => exact laws_recordRecall _ _ _
  | jog _ _ => exact laws_jogBase _ _ _
  | move _ => exact .refl s
  | trim _ => exact .refl s
  | park _ => exact .refl s
  | learn => exact .refl s

theorem laws_handRemoved (st : EndStatus) (e : Entry) : Laws s (handRemoved st e s) := by
  unfold handRemoved
  split
  · exact laws_recordRecall _ _ _
  · exact laws_trimEnd false
  all_goals exact .refl s

end Sys2Proof.Machine
end

section
-- One declaration at a time: many proofs that wait at once hold a thread each.
set_option Elab.async false
/-! The lens path keeps every law: the end of a motion, its course, dispatch, and the entries of the queue. -/

namespace Sys2Proof.Machine

variable {s t : State} {ax b : Axis} {m m' : Motion}

/-! ## Axes that move and the units they hold -/

theorem anyMoving_iff : s.anyMoving = true ↔ ∃ ax, s.moving ax = true := by
  unfold State.anyMoving
  rw [List.any_eq_true]
  exact ⟨fun ⟨ax, _, h⟩ => ⟨ax, h⟩, fun ⟨ax, h⟩ => ⟨ax, mem_axes ax, h⟩⟩

theorem moving_of_lens (h : (t.lens.get ax).motion.isSome = (s.lens.get ax).motion.isSome) : t.moving ax = s.moving ax := h

theorem unitsHeld_eq (s : State) : s.unitsHeld = (if s.moving .vshift then 3 else 0) + ((if s.moving .hshift then 2 else 0)
    + ((if s.moving .zoom then 2 else 0) + if s.moving .focus then 1 else 0)) := rfl

/-- Where no further axis moves, no more units are held. -/
theorem unitsHeld_mono (h : ∀ ax, t.moving ax = true → s.moving ax = true) : t.unitsHeld ≤ s.unitsHeld := by
  have unit (ax : Axis) (n : Nat) : (if t.moving ax then n else 0) ≤ if s.moving ax then n else 0 := by
    split
    · rw [if_pos (h ax ‹_›)]
    · exact Nat.zero_le _
  have hv := unit .vshift 3
  have hh := unit .hshift 2
  have hz := unit .zoom 2
  have hf := unit .focus 1
  rw [unitsHeld_eq, unitsHeld_eq]
  omega

/-- An axis that starts to move holds its units besides (R98). -/
theorem unitsHeld_start (hax : s.moving ax = false) (h : ∀ b, b ≠ ax → t.moving b = s.moving b) :
    t.unitsHeld ≤ s.unitsHeld + driveUnits ax := by
  have same (b : Axis) (hb : b ≠ ax) (n : Nat) : (if t.moving b then n else 0) = if s.moving b then n else 0 := by
    rw [h b hb]
  have most (n : Nat) : (if t.moving ax then n else 0) ≤ n := by split <;> omega
  rw [unitsHeld_eq, unitsHeld_eq]
  cases ax
  case vshift =>
    rw [same .hshift (by decide), same .zoom (by decide), same .focus (by decide), hax]
    have := most 3
    simp only [driveUnits]
    omega
  case hshift =>
    rw [same .vshift (by decide), same .zoom (by decide), same .focus (by decide), hax]
    have := most 2
    simp only [driveUnits]
    omega
  case zoom =>
    rw [same .vshift (by decide), same .hshift (by decide), same .focus (by decide), hax]
    have := most 2
    simp only [driveUnits]
    omega
  case focus =>
    rw [same .vshift (by decide), same .hshift (by decide), same .zoom (by decide), hax]
    have := most 1
    simp only [driveUnits]
    omega

/-! ## The fast list after a motion's end -/

theorem toPeriodic_frame (now : Time) (c : Scanner) : (toPeriodic now c).therms = c.therms
    ∧ (toPeriodic now c).fastMode = (if c.fastMode = .triggered then .periodic else c.fastMode) := by
  unfold toPeriodic
  split
  · next h => exact ⟨grant_frame.2.2.2.1, by rw [grant_frame.2.2.1, if_pos h]⟩
  · next h => exact ⟨rfl, by simp [h]⟩
  · next h => exact ⟨rfl, by simp [h]⟩

theorem converterLaw_toPeriodic (now : Time) (h : s.ConverterLaw) : (s.mapScan (toPeriodic now)).ConverterLaw := by
  unfold State.ConverterLaw State.mapScan toPeriodic at *
  dsimp only
  split
  · exact burstLeft_grant
  · exact h
  · exact h

theorem settleFastMode_scan : (settleFastMode s).scan = if s.anyMoving then s.scan else toPeriodic s.now s.scan := by
  unfold settleFastMode
  split <;> rfl

/-- A change of the scan state that leaves the thermistors' entries alone. -/
theorem blockLaws_mapScan {f : Scanner → Scanner} (h : (f s.scan).therms = s.scan.therms) : BlockLaws s (s.mapScan f) where
  ring := fun hring sn => by
    have htherms : (s.mapScan f).scan.therms = s.scan.therms := h
    rw [htherms]
    exact hring sn

theorem blockLaws_settleFastMode : BlockLaws s (settleFastMode s) :=
  .ite (fun _ => .refl s) (blockLaws_mapScan (toPeriodic_frame _ _).1)

/-- After the fast list has followed, it is TRIGGERED exactly while an axis moves (R42, R43). -/
theorem fastLaw_settleFastMode (hoff : s.scan.fastMode = .off ↔ s.mc.mode = .standby)
    (hmoving : s.anyMoving = true → s.scan.fastMode = .triggered) : (settleFastMode s).FastLaw := by
  have hmoves : (settleFastMode s).anyMoving = s.anyMoving := by unfold settleFastMode; split <;> rfl
  have hmode : (settleFastMode s).mc = s.mc := by unfold settleFastMode; split <;> rfl
  unfold State.FastLaw
  rw [hmoves, hmode, settleFastMode_scan]
  split
  · next h => simp [hmoving h, ← hoff, h]
  · next h =>
    rw [(toPeriodic_frame _ _).2, ← hoff]
    by_cases htriggered : s.scan.fastMode = .triggered <;> simp [htriggered, h]

/-! ## The end of a motion -/

theorem stateAfter_ne_moving (st : EndStatus) (h : m.returnState ≠ .moving) : stateAfter m st ≠ .moving := by
  cases st <;> simp [stateAfter] <;> split <;> simp [h]

theorem moving_mapAxis (f : AxisRecord → AxisRecord) :
    (s.mapAxis ax f).moving b = if b = ax then (f (s.lens.get ax)).motion.isSome else s.moving b := by
  unfold State.moving
  simp only [State.mapAxis_fields, PerAxis.get_set]
  split <;> rfl

/-- An axis without a motion after it has one fewer. -/
theorem blockLaws_endedAxis (hm : (s.lens.get ax).motion = some m) (st : EndStatus) (reading : Option Raw) :
    BlockLaws s (s.mapAxis ax (endedAxis m st reading)) where
  budget := fun ⟨hb, hu⟩ => by
    refine ⟨hb, (unitsHeld_mono fun b hmoves => ?_).trans hu⟩
    rw [moving_mapAxis] at hmoves
    split at hmoves
    · cases hmoves
    · exact hmoves
  axis := fun h b => by
    by_cases hb : b = ax
    · subst hb
      simp [State.moving, State.mapAxis, endedAxis, stateAfter_ne_moving st ((h b).2 m hm)]
    · simpa [State.moving, State.mapAxis, hb] using h b

/-- What the end of a motion is handed to, once its axis has its new record (R73). -/
def handEnd (ax : Axis) (job : Job) (st : EndStatus) (s : State) : State :=
  occurIf (st = .stalled || st = .timeout) .axisFault (occur .motionEnd
    (if ax = .focus then focusEnd job st (setupEnd ax (s.lens.get ax).cal job st s)
      else setupEnd ax (s.lens.get ax).cal job st s))

theorem endMotion_eq (hm : (s.lens.get ax).motion = some m) (st : EndStatus) : endMotion ax st s =
    settleFastMode (handEnd ax m.job st (s.mapAxis ax (endedAxis m st (s.reading ax)))) := by
  unfold endMotion
  rw [hm]
  rfl

theorem endMotion_none (hm : (s.lens.get ax).motion = none) (st : EndStatus) : endMotion ax st s = s := by
  unfold endMotion
  rw [hm]

theorem laws_handEnd (job : Job) (st : EndStatus) : Laws s (handEnd ax job st s) := by
  have hsetup : Laws s (setupEnd ax (s.lens.get ax).cal job st s) := laws_setupEnd _ _ _ _
  exact (Laws.ite (fun _ => hsetup.trans (laws_focusEnd _ _)) hsetup).trans ((laws_occur _).trans (laws_occurIf _ _))

theorem lensOnly_handEnd (job : Job) (st : EndStatus) : LensOnly s (handEnd ax job st s) := by
  have hsetup : LensOnly s (setupEnd ax (s.lens.get ax).cal job st s) := lensOnly_setupEnd _ _ _ _
  exact (LensOnly.ite (hsetup.trans (lensOnly_focusEnd _ _)) hsetup).trans
    ((lensOnly_occur _).trans (lensOnly_occurIf _ _))

theorem focusEnd_scan (job : Job) (st : EndStatus) : (focusEnd job st s).scan = s.scan := by
  unfold focusEnd takeReference
  split
  case h_1 => split <;> rfl
  case h_2 => split <;> rfl
  case h_3 => split <;> rfl
  all_goals rfl

/-- The scanner, the axes and the queue are the same after an end has been handed on. -/
theorem handEnd_frame (job : Job) (st : EndStatus) : (handEnd ax job st s).scan = s.scan
    ∧ (handEnd ax job st s).lens = s.lens ∧ (handEnd ax job st s).mq = s.mq := by
  have hsetup : SetupOnly s (setupEnd ax (s.lens.get ax).cal job st s) := setupOnly_setupEnd _ _ _ _
  have hflags (u : State) : SetupOnly u (occurIf (st = .stalled || st = .timeout) .axisFault (occur .motionEnd u)) :=
    (setupOnly_occur _).trans (setupOnly_occurIf _ _)
  unfold handEnd
  split
  · rw [(hflags _).scan, (hflags _).lens, (hflags _).mq, focusEnd_scan, (focusEnd_lens_mq _ _).1, (focusEnd_lens_mq _ _).2]
    exact ⟨hsetup.scan, hsetup.lens, hsetup.mq⟩
  · rw [(hflags _).scan, (hflags _).lens, (hflags _).mq]
    exact ⟨hsetup.scan, hsetup.lens, hsetup.mq⟩

theorem anyMoving_of_mapAxis_none {f : AxisRecord → AxisRecord} (hf : (f (s.lens.get ax)).motion = none)
    (h : (s.mapAxis ax f).anyMoving = true) : s.anyMoving = true := by
  obtain ⟨b, hb⟩ := anyMoving_iff.mp h
  rw [moving_mapAxis, hf] at hb
  split at hb
  · cases hb
  · exact anyMoving_iff.mpr ⟨b, hb⟩

theorem anyMoving_congr (h : t.lens = s.lens) : t.anyMoving = s.anyMoving := by
  unfold State.anyMoving State.moving
  rw [h]

/-- The end of a motion keeps every law (R73). -/
theorem laws_endMotion (ax : Axis) (st : EndStatus) : Laws s (endMotion ax st s) := by
  cases hm : (s.lens.get ax).motion with
  | none => rw [endMotion_none hm]; exact .refl s
  | some m =>
    have hended : ((endedAxis m st (s.reading ax)) (s.lens.get ax)).motion = none := rfl
    have hhand := laws_handEnd (s := s.mapAxis ax (endedAxis m st (s.reading ax))) (ax := ax) m.job st
    obtain ⟨hscan, hlens, hmq⟩ := handEnd_frame (s := s.mapAxis ax (endedAxis m st (s.reading ax))) (ax := ax) m.job st
    have hmode := (lensOnly_handEnd (s := s.mapAxis ax (endedAxis m st (s.reading ax))) (ax := ax) m.job st).mc
    have hfewer := anyMoving_of_mapAxis_none (s := s) (ax := ax) hended
    rw [← anyMoving_congr hlens] at hfewer
    exact {
      toBlockLaws := by
        rw [endMotion_eq hm]
        exact (blockLaws_endedAxis hm st _).trans (hhand.toBlockLaws.trans blockLaws_settleFastMode)
      rest := fun h => by
        unfold State.RestLaw at *
        rw [(lensOnly_endMotion ax st).mc]
        refine h.imp_right (Or.imp_right fun hrest => ?_)
        rw [State.lensAtRest, Bool.and_eq_true, Bool.not_eq_true'] at *
        rw [endMotion_mq]
        refine ⟨?_, hrest.2⟩
        rw [endMotion_eq hm, anyMoving_congr settleFastMode_lens_mq.1, Bool.eq_false_iff]
        exact fun hmoves => Bool.eq_false_iff.mp hrest.1 (hfewer hmoves)
      fast := fun ⟨hoff, htriggered⟩ => by
        rw [endMotion_eq hm]
        refine fastLaw_settleFastMode ?_ fun hmoves => ?_
        · rw [hscan, hmode]
          exact hoff
        · rw [hscan]
          exact htriggered.mpr (hfewer hmoves)
      converter := fun h => by
        rw [endMotion_eq hm, settleFastMode]
        split
        · exact hhand.converter h
        · exact converterLaw_toPeriodic _ (hhand.converter h)
      cap := fun h => by
        rw [endMotion_eq hm]
        have hcap := hhand.cap h
        unfold settleFastMode
        split
        · exact hcap
        · exact hcap }

end Sys2Proof.Machine
end

section
-- One declaration at a time: many proofs that wait at once hold a thread each.
set_option Elab.async false
/-! The course of a motion, dispatch and the entries of the queue keep every law. -/

namespace Sys2Proof.Machine

variable {s t : State} {ax b : Axis} {m m' : Motion}

/-! ## A motion goes on -/

/-- A motion that goes on will return its axis to the same state (R57). -/
def Fate.Returns (ret : AxisState) : Fate → Prop
  | .goes m => m.returnState = ret
  | .ends _ => True

theorem Fate.returns_ite {c : Prop} [Decidable c] {ret : AxisState} {f g : Fate} (hf : f.Returns ret) (hg : g.Returns ret) :
    (if c then f else g).Returns ret := by split <;> assumption

/-- An axis keeps its state and its motion's return state while the motion goes on. -/
theorem laws_carry {f : AxisRecord → AxisRecord} (hm : (s.lens.get ax).motion = some m)
    (hstate : (f (s.lens.get ax)).state = (s.lens.get ax).state) (hf : (f (s.lens.get ax)).motion = some m')
    (hret : m'.returnState = m.returnState) : Laws s (s.mapAxis ax f) := by
  have hmoving (b : Axis) : (s.mapAxis ax f).moving b = s.moving b := by
    rw [moving_mapAxis, hf]
    split
    · next h => rw [h, State.moving, hm]; rfl
    · rfl
  have hany : (s.mapAxis ax f).anyMoving = s.anyMoving := by
    rw [Bool.eq_iff_iff, anyMoving_iff, anyMoving_iff]
    simp only [hmoving]
  exact {
    budget := fun ⟨hb, hu⟩ => ⟨hb, (unitsHeld_mono fun b h => hmoving b ▸ h).trans hu⟩
    axis := fun h b => by
      rw [hmoving]
      by_cases hb : b = ax
      · subst hb
        refine ⟨by simpa [State.mapAxis, hstate] using (h b).1, fun m'' hm'' => ?_⟩
        have : m' = m'' := by simpa [State.mapAxis, hf] using hm''
        subst this
        rw [hret]
        exact (h b).2 m hm
      · simpa [State.mapAxis, hb] using h b
    rest := fun h => by
      unfold State.RestLaw State.lensAtRest at *
      rw [hany]
      exact h
    fast := fun ⟨hoff, htriggered⟩ => ⟨hoff, hany ▸ htriggered⟩ }

theorem laws_applyFate {fate : Fate} (hm : (s.lens.get ax).motion = some m) (hret : fate.Returns m.returnState) :
    Laws s (applyFate ax fate s) := by
  cases fate with
  | goes m' => exact laws_carry (m' := m') (f := fun r => { r with motion := some m' }) hm rfl rfl hret
  | ends st => exact laws_endMotion ax st

theorem endRequest_returns (now : Time) (st : EndStatus) (m : Motion) : (endRequest now st m).Returns m.returnState := by
  unfold endRequest
  split <;> trivial

theorem laws_requestEnd (ax : Axis) (st : Motion → EndStatus) : Laws s (requestEnd ax st s) := by
  unfold requestEnd
  split
  · exact .refl s
  · next m hm => exact laws_applyFate hm (endRequest_returns _ _ _)

theorem laws_cutMotion (ax : Axis) : Laws s (cutMotion ax s) := by
  unfold cutMotion
  split
  · exact .refl s
  · exact laws_endMotion _ _

theorem laws_cutAll : Laws s (cutAll s) := .fold _ (fun _ ax => laws_cutMotion ax) _ _

/-! ## Every rule of a motion keeps its return state -/

theorem chooseDuty_returnState (pos : Nat) (m : Motion) : (chooseDuty pos m).returnState = m.returnState := by
  unfold chooseDuty
  dsimp only
  split <;> rfl

theorem startLeg_returnState (now : Time) (phase : Phase) (target pos : Nat) (m : Motion) :
    (startLeg now phase target pos m).returnState = m.returnState := chooseDuty_returnState _ _

theorem legOff_returns (now : Time) (m : Motion) : (legOff now m).Returns m.returnState := by
  unfold legOff
  split <;> trivial

theorem startPositioning_returnState (ax : Axis) (o : Orientation) (now : Time) (pos target : Nat) (m : Motion) :
    (startPositioning ax o now pos target m).returnState = m.returnState := by
  unfold startPositioning
  dsimp only
  split
  · rfl
  · split <;> exact startLeg_returnState _ _ _ _ _

theorem firstPhase_returns (ax : Axis) (o : Orientation) (cal : Option Calibration) (now : Time) (raw : Raw) (m : Motion) :
    (firstPhase ax o cal now raw m).Returns m.returnState := by
  unfold firstPhase
  split
  case h_5 => exact Fate.returns_ite trivial rfl
  case h_6 => rfl
  all_goals exact startPositioning_returnState _ _ _ _ _ _

theorem pauseMotion_returnState (now : Time) (m : Motion) : (pauseMotion now m).returnState = m.returnState := by
  unfold pauseMotion
  split <;> rfl

theorem afterDeadline_returns (now : Time) (m : Motion) : (afterDeadline now m).Returns m.returnState := by
  unfold afterDeadline
  split
  · exact Fate.returns_ite (endRequest_returns _ _ _) rfl
  all_goals rfl

theorem dispatchMotion_returns (ax : Axis) (o : Orientation) (cal : Option Calibration) (now : Time) (raw : Raw)
    (low : Bool) (ret : AxisState) (job : Job) : (dispatchMotion ax o cal now raw low ret job).Returns ret := by
  unfold dispatchMotion
  have h := firstPhase_returns ax o cal now raw (newMotion now ret job)
  cases hf : firstPhase ax o cal now raw (newMotion now ret job) with
  | ends st => trivial
  | goes m =>
    rw [hf] at h
    have h : m.returnState = ret := h
    show (afterDeadline now _).Returns ret
    split
    · rw [← h, ← pauseMotion_returnState now m]
      exact afterDeadline_returns _ _
    · rw [← h]
      exact afterDeadline_returns _ _

theorem legSample_returns (cal : Option Calibration) (now : Time) (raw : Raw) (first : Bool) (m : Motion) :
    (legSample cal now raw first m).Returns m.returnState :=
  Fate.returns_ite (legOff_returns _ _) (Fate.returns_ite trivial (chooseDuty_returnState _ _))

theorem finalLegSample_returns (now : Time) (pos target : Nat) (m : Motion) :
    (finalLegSample now pos target m).Returns m.returnState := by
  have h := startLeg_returnState now .drive target pos m
  exact Fate.returns_ite (h ▸ legOff_returns _ _) h

theorem settleSample_returns (now : Time) (pos target : Nat) (m : Motion) :
    (settleSample now pos target m).Returns m.returnState := by
  unfold settleSample
  split
  · rfl
  · exact Fate.returns_ite rfl (Fate.returns_ite (Fate.returns_ite trivial rfl)
      (Fate.returns_ite (startLeg_returnState _ _ _ _ _) trivial))

theorem jogSample_returns (cal : Option Calibration) (now : Time) (raw : Raw) (first up : Bool) (m : Motion) :
    (jogSample cal now raw first up m).Returns m.returnState :=
  Fate.returns_ite (endRequest_returns _ _ _) (Fate.returns_ite trivial rfl)

theorem learnSpan_returns (now : Time) (raw : Raw) (m : Motion) (l : LearnReadings) :
    (learnSpan now raw m l).fate.Returns m.returnState := by
  unfold learnSpan
  dsimp only
  split
  · exact Fate.returns_ite trivial (startLeg_returnState _ _ _ _ _)
  · trivial

theorem learnSample_returns (now : Time) (raw : Raw) (m : Motion) : (learnSample now raw m).fate.Returns m.returnState := by
  unfold learnSample
  split
  · rfl
  · split
    · rfl
    · split
      · split
        · rfl
        · exact learnSpan_returns _ _ _ _
      · rfl

theorem sampleMotion_returns (cal : Option Calibration) (now : Time) (raw : Raw) (first : Bool) (m : Motion) :
    (sampleMotion cal now raw first m).fate.Returns m.returnState := by
  unfold sampleMotion
  dsimp only
  split
  case h_1 => rfl
  case h_2 => rfl
  case h_3 => exact settleSample_returns _ _ _ _
  case h_4 => exact Fate.returns_ite (finalLegSample_returns _ _ _ _) (legSample_returns _ _ _ _ _)
  case h_10 => exact learnSample_returns _ _ _
  case h_11 => exact learnSample_returns _ _ _
  case h_12 => exact jogSample_returns _ _ _ _ _ _
  case h_13 => exact jogSample_returns _ _ _ _ _ _
  case h_14 => exact jogSample_returns _ _ _ _ _ _
  all_goals exact legSample_returns _ _ _ _ _

theorem resumeMotion_returns (cal : Option Calibration) (now : Time) (raw : Raw) (m : Motion) :
    (resumeMotion cal now raw m).Returns m.returnState := by
  unfold resumeMotion
  dsimp only
  split
  case h_1 => rfl
  case h_2 => rfl
  case h_3 => rfl
  case h_4 => rfl
  case h_5 => rfl
  case h_6 => rfl
  case h_7 => rfl
  case h_8 => rfl
  all_goals exact Fate.returns_ite (legOff_returns _ _) (chooseDuty_returnState _ _)

theorem supplyAtMotion_returnState (now : Time) (mv : Nat) (m : Motion) :
    (supplyAtMotion now mv m).returnState = m.returnState := by
  unfold supplyAtMotion
  split
  · rfl
  · split
    · exact pauseMotion_returnState _ _
    · rfl

/-! ## Dispatch -/

/-- The axis of an entry that starts is MOVING with its motion's record (R57, R61). -/
def movingAxis (now : Time) (job : Job) (r : AxisRecord) : AxisRecord :=
  { r with state := .moving, motion := some (newMotion now r.state job) }

/-- A RECALL entry that is dispatched is running in its recall (R30). -/
def markEntry (e : Entry) (s : State) : State := (jobTag e.job).elim s fun tag => markRunning e.axis tag s

/-- An entry starts: it leaves the list, its axis is MOVING and the fast list is TRIGGERED (R57, R61, R98). -/
def begun (e : Entry) (rest : List Entry) (s : State) : State :=
  (markEntry e ((s.mapMq (takeHead e rest)).mapAxis e.axis (movingAxis s.now e.job))).mapScan toTriggered

/-- The fate of the motion that an entry starts. -/
def entryFate (e : Entry) (s : State) : Fate :=
  dispatchMotion e.axis s.ge.orient (s.lens.get e.axis).cal s.now (s.rawNow e.axis) s.supplyIsLow (s.lens.get e.axis).state
    e.job

theorem startEntry_takeHead (e : Entry) (rest : List Entry) (s : State) :
    startEntry e (s.mapMq (takeHead e rest)) = applyFate e.axis (entryFate e s) (begun e rest s) := rfl

theorem laws_markEntry (e : Entry) : Laws s (markEntry e s) := by
  unfold markEntry
  cases jobTag e.job with
  | none => exact .refl s
  | some tag => exact laws_markRunning _ _

theorem setupOnly_markEntry (e : Entry) : SetupOnly s (markEntry e s) := by
  unfold markEntry
  cases jobTag e.job with
  | none => exact .refl s
  | some tag => exact setupOnly_markRunning _ _

theorem lensOnly_markEntry (e : Entry) : LensOnly s (markEntry e s) := by
  unfold markEntry
  cases jobTag e.job with
  | none => exact .refl s
  | some tag => exact lensOnly_markRunning _ _

theorem toTriggered_frame (c : Scanner) : (toTriggered c).therms = c.therms ∧ (toTriggered c).converting = c.converting
    ∧ (toTriggered c).burstLeft = c.burstLeft
    ∧ (toTriggered c).fastMode = (if c.fastMode = .periodic then .triggered else c.fastMode) := by
  unfold toTriggered
  split
  · next h => exact ⟨rfl, rfl, rfl, by rw [if_pos h]⟩
  · next h => exact ⟨rfl, rfl, rfl, by simp [h]⟩
  · next h => exact ⟨rfl, rfl, rfl, by simp [h]⟩

theorem blockLaws_toTriggered : BlockLaws s (s.mapScan toTriggered) := blockLaws_mapScan (toTriggered_frame _).1

/-- What an entry's start leaves behind, block by block. -/
theorem begun_frame (e : Entry) (rest : List Entry) (s : State) : LensOnly s (begun e rest s)
    ∧ (begun e rest s).scan = toTriggered s.scan ∧ (begun e rest s).mq = takeHead e rest s.mq
    ∧ (begun e rest s).fc = s.fc
    ∧ (begun e rest s).lens = s.lens.set e.axis (movingAxis s.now e.job (s.lens.get e.axis)) := by
  have hmark := setupOnly_markEntry (s := (s.mapMq (takeHead e rest)).mapAxis e.axis (movingAxis s.now e.job)) e
  refine ⟨?_, congrArg toTriggered hmark.scan, hmark.mq, hmark.fc, hmark.lens⟩
  exact (lensOnly_mapMq _).trans ((lensOnly_mapAxis _ _).trans ((lensOnly_markEntry e).trans (lensOnly_mapScan _)))

theorem moving_begun (e : Entry) (rest : List Entry) (s : State) (b : Axis) :
    (begun e rest s).moving b = if b = e.axis then true else s.moving b := by
  unfold State.moving
  rw [(begun_frame e rest s).2.2.2.2, PerAxis.get_set]
  split <;> rfl

theorem canDispatch_iff (s : State) (e : Entry) : canDispatch s e = true ↔
    s.mc.mode ≠ .standby ∧ s.moving e.axis = false ∧ s.unitsHeld + driveUnits e.axis ≤ s.mq.budget := by
  simp [canDispatch, and_assoc]

/-- An axis at rest whose units fit the budget becomes MOVING. -/
theorem blockLaws_movingAxis (hrest : s.moving ax = false) (hfits : s.unitsHeld + driveUnits ax ≤ s.mq.budget)
    (now : Time) (job : Job) : BlockLaws s (s.mapAxis ax (movingAxis now job)) where
  budget := fun ⟨hb, _⟩ => by
    have hmost : s.mq.budget ≤ 4 := by
      simp only [List.mem_cons, List.not_mem_nil, or_false] at hb
      omega
    have hunits : (s.mapAxis ax (movingAxis now job)).unitsHeld ≤ s.unitsHeld + driveUnits ax :=
      unitsHeld_start hrest fun b hb => by rw [moving_mapAxis, if_neg hb]
    exact ⟨hb, hunits.trans (hfits.trans hmost)⟩
  axis := fun h b => by
    by_cases hb : b = ax
    · subst hb
      have hstate : (s.lens.get b).state ≠ .moving := fun hs => by simp [(h b).1.mp hs] at hrest
      simp [State.moving, State.mapAxis, movingAxis, newMotion, hstate]
    · simpa [State.moving, State.mapAxis, hb] using h b

/-- The head entry that may dispatch starts: its axis is at rest, its units fit, and the mode is not STANDBY (R97). -/
theorem laws_begun {e : Entry} {rest : List Entry} (hcan : canDispatch s e = true) (hentries : s.mq.entries = e :: rest) :
    Laws s (begun e rest s) := by
  obtain ⟨hmode, hrest, hfits⟩ := (canDispatch_iff s e).mp hcan
  obtain ⟨houter, hscan, hmq, -, -⟩ := begun_frame e rest s
  have hmark := laws_markEntry (s := (s.mapMq (takeHead e rest)).mapAxis e.axis (movingAxis s.now e.job)) e
  have hhead : BlockLaws s (s.mapMq (takeHead e rest)) := {
    queue := fun h => by
      unfold State.QueueLaw at *
      rw [hentries, List.map_cons, List.nodup_cons] at h
      exact h.2 }
  have hmoves : (begun e rest s).anyMoving = true :=
    anyMoving_iff.mpr ⟨e.axis, by rw [moving_begun, if_pos rfl]⟩
  exact {
    toBlockLaws := hhead.trans ((blockLaws_movingAxis (s := s.mapMq (takeHead e rest)) hrest hfits _ _).trans
      (hmark.toBlockLaws.trans blockLaws_toTriggered))
    rest := fun h => by
      unfold State.RestLaw at *
      rw [houter.mc]
      refine h.imp_right (Or.imp_right fun hidle => ?_)
      simp [State.lensAtRest, hentries] at hidle
    fast := fun ⟨hoff, htriggered⟩ => by
      unfold State.FastLaw
      rw [hscan, houter.mc, hmoves, (toTriggered_frame _).2.2.2]
      have hon : s.scan.fastMode ≠ .off := fun h => hmode (hoff.mp h)
      cases hfast : s.scan.fastMode with
      | off => exact absurd hfast hon
      | periodic => simp [hmode]
      | triggered => simp [hmode]
    converter := fun h => by
      unfold State.ConverterLaw at *
      rw [hscan, (toTriggered_frame _).2.1, (toTriggered_frame _).2.2.1]
      exact h
    cap := hmark.cap }

/-- A head entry's dispatch keeps every law (R97, R98). -/
theorem laws_startEntry {e : Entry} {rest : List Entry} (hcan : canDispatch s e = true) (hentries : s.mq.entries = e :: rest) :
    Laws s (startEntry e (s.mapMq (takeHead e rest))) := by
  rw [startEntry_takeHead]
  have hmotion : ((begun e rest s).lens.get e.axis).motion = some (newMotion s.now (s.lens.get e.axis).state e.job) := by
    rw [(begun_frame e rest s).2.2.2.2, PerAxis.get_set, if_pos rfl]
    rfl
  exact (laws_begun hcan hentries).trans (laws_applyFate hmotion (dispatchMotion_returns _ _ _ _ _ _ _ _))

theorem laws_dispatch : Laws s (dispatch s) :=
  dispatch_keeps (Laws s) (fun _ _ _ h hentries hcan => h.trans (laws_startEntry hcan hentries)) (.refl s)

/-! ## Entries -/

theorem laws_dropEntries (gone : Axis → Bool) : Laws s (s.mapMq (dropEntries gone)) where
  queue h := h.sublist (List.filter_sublist.map _)
  rest h := by
    unfold State.RestLaw State.lensAtRest at *
    refine h.imp_right (Or.imp_right fun hrest => ?_)
    rw [Bool.and_eq_true, List.isEmpty_iff] at *
    refine ⟨hrest.1, ?_⟩
    show s.mq.entries.filter _ = []
    rw [hrest.2]
    rfl

theorem laws_removeEntry (ax : Axis) (st : EndStatus) : Laws s (removeEntry ax st s) := by
  unfold removeEntry
  split
  · exact .refl s
  · exact (laws_dropEntries _).trans (laws_handRemoved _ _)

theorem laws_clearQueue : Laws s (clearQueue s) :=
  (laws_dropEntries _).trans (.fold _ (fun _ e => laws_handRemoved _ e) _ _)

theorem entryOf_eq_none_iff : s.entryOf ax = none ↔ ∀ e ∈ s.mq.entries, e.axis ≠ ax := by
  simp [State.entryOf, List.find?_eq_none]

/-- An entry joins in RUN or COOLDOWN for an axis that has none (R80, R84). -/
theorem laws_appendEntry {e : Entry} (hmode : s.mc.mode = .run ∨ s.mc.mode = .cooldown) (hnone : s.entryOf e.axis = none) :
    Laws s (appendEntry e s) := by
  unfold appendEntry
  refine .trans ?_ laws_dispatch
  exact {
    queue := fun h => by
      unfold State.QueueLaw at *
      show ((s.mq.entries ++ [e]).map (·.axis)).Nodup
      rw [List.map_append, List.nodup_append]
      refine ⟨h, by simp, fun a ha b hb => ?_⟩
      obtain ⟨e', he', rfl⟩ := List.mem_map.mp ha
      simp only [List.map_cons, List.map_nil, List.mem_singleton] at hb
      subst hb
      exact entryOf_eq_none_iff.mp hnone e' he'
    rest := fun _ => hmode.imp_right .inl }

theorem laws_appendAwaited {e : Entry} (n : Nat) (hmode : s.mc.mode = .run ∨ s.mc.mode = .cooldown)
    (hnone : s.entryOf e.axis = none) : Laws s (appendAwaited n e s) := by
  unfold appendAwaited
  refine .trans { } (laws_appendEntry ?_ ?_)
  · exact hmode
  · exact hnone

end Sys2Proof.Machine
end

section
-- One declaration at a time: many proofs that wait at once hold a thread each.
set_option Elab.async false
/-! Cooling and the changes of mode keep every law. -/

namespace Sys2Proof.Machine

variable {s t u : State} {ax b : Axis}

/-! ## Cooling alone -/

/-- Nothing but Cooling and the alert flags differs. -/
def Cooled (s t : State) : Prop := ∃ c a, t = { s with cc := c, au := a }

theorem Cooled.refl (s : State) : Cooled s s := ⟨_, _, rfl⟩

theorem Cooled.trans (h : Cooled s t) (k : Cooled t u) : Cooled s u := by
  obtain ⟨c, a, rfl⟩ := h
  obtain ⟨c', a', rfl⟩ := k
  exact ⟨c', a', rfl⟩

theorem Cooled.ite {c : Prop} [Decidable c] (h : Cooled s t) (k : Cooled s u) : Cooled s (if c then t else u) := by
  split <;> assumption

theorem cooled_mapCc (f : Cooling → Cooling) : Cooled s (s.mapCc f) := ⟨_, _, rfl⟩

theorem cooled_mapFans (f : Fan → FanRecord → FanRecord) : Cooled s (mapFans s f) := ⟨_, _, rfl⟩

theorem cooled_occur (f : Flag) : Cooled s (occur f s) := ⟨_, _, rfl⟩

theorem cooled_occurIf (b : Bool) (f : Flag) : Cooled s (occurIf b f s) := .ite (cooled_occur f) (.refl s)

theorem cooled_setLight (l : Nat) : Cooled s (setLight l s) := (cooled_mapCc _).trans (cooled_occurIf _ _)

theorem cooled_capCut : Cooled s (capCut s) := .ite (cooled_mapFans _) (.refl s)

theorem cooled_aimCooldown : Cooled s (aimCooldown s) := (cooled_mapFans _).trans (cooled_mapFans _)

theorem cooled_faultConsequences : Cooled s (faultConsequences s) :=
  (cooled_occur _).trans ((cooled_mapFans _).trans (cooled_setLight _))

theorem cooled_recoveryConsequences (recovered : Fan → Bool) : Cooled s (recoveryConsequences recovered s) :=
  .ite (.ite ((cooled_mapFans _).trans cooled_aimCooldown) (cooled_mapFans _)) (cooled_mapFans _)

theorem cooled_judgeFans : Cooled s (judgeFans s) := by
  unfold judgeFans
  dsimp only
  refine .trans ?_ cooled_capCut
  split
  · refine .trans ?_ cooled_faultConsequences
    exact (cooled_mapFans _).trans (.ite (cooled_recoveryConsequences _) (.refl _))
  · exact (cooled_mapFans _).trans (.ite (cooled_recoveryConsequences _) (.refl _))

theorem cooled_runEvaluation : Cooled s (runEvaluation s) :=
  (cooled_mapFans _).trans ((cooled_occurIf _ _).trans (cooled_capCut.trans (cooled_setLight _)))

/-- What touches Cooling alone and carries the laws of one block carries the others, the caps in RUN being shown. -/
theorem Cooled.laws (h : Cooled s t) (hblocks : BlockLaws s t) (hcap : s.CapLaw → t.CapLaw) : Laws s t := by
  obtain ⟨c, a, rfl⟩ := h
  exact { toBlockLaws := hblocks, cap := hcap }

theorem Cooled.mode (h : Cooled s t) : t.mc.mode = s.mc.mode := by
  obtain ⟨c, a, rfl⟩ := h
  rfl

/-! ## The laws of Cooling's block -/

theorem blockLaws_mapFans (f : Fan → FanRecord → FanRecord) : BlockLaws s (mapFans s f) := {}

theorem blockLaws_setLight {l : Nat} (h : s.LineLaw → 40 ≤ l ∧ l ≤ 100) : BlockLaws s (setLight l s) := by
  refine .trans ?_ (laws_occurIf _ _).toBlockLaws
  exact { lines := fun hl => ⟨hl.1, hl.2.1, h hl⟩ }

theorem blockLaws_capCut : BlockLaws s (capCut s) := .ite (fun _ => blockLaws_mapFans _) (.refl s)

theorem capLaw_of_not_run (h : t.mc.mode ≠ .run) : t.CapLaw := fun hrun => absurd hrun h

theorem capped_le (cap : Nat) (f : FanRecord) :
    exempt (capped cap f) = true ∨ (capped cap f).duty ≤ cap ∧ (capped cap f).target ≤ cap := by
  unfold capped
  split
  · exact .inl ‹_›
  · exact .inr ⟨min_le_right _ _, min_le_right _ _⟩

/-- After the cap cut the caps hold, whatever the fans were (R122). -/
theorem capLaw_capCut : (capCut s).CapLaw := by
  by_cases h : s.mc.mode = .run
  · intro _ fan
    rw [capCut_run h]
    simp only [PerFan.get_make]
    exact capped_le _ _
  · rw [capCut_not_run h]
    exact capLaw_of_not_run h

theorem laws_capCut : Laws s (capCut s) := cooled_capCut.laws blockLaws_capCut fun _ => capLaw_capCut

theorem min_light_60 (h : s.LineLaw) : 40 ≤ min s.cc.light 60 ∧ min s.cc.light 60 ≤ 100 := by
  obtain ⟨-, -, hlow, -⟩ := h
  omega

theorem blockLaws_faultConsequences : BlockLaws s (faultConsequences s) := by
  unfold faultConsequences
  refine (laws_occur _).toBlockLaws.trans ((blockLaws_mapFans _).trans (blockLaws_setLight ?_))
  exact min_light_60

theorem blockLaws_recoveryConsequences (recovered : Fan → Bool) : BlockLaws s (recoveryConsequences recovered s) :=
  .ite (fun _ => .ite (fun _ => (blockLaws_mapFans _).trans ((blockLaws_mapFans _).trans (blockLaws_mapFans _)))
    (blockLaws_mapFans _)) (blockLaws_mapFans _)

theorem laws_judgeFans : Laws s (judgeFans s) := by
  refine cooled_judgeFans.laws ?_ fun _ => capLaw_capCut
  unfold judgeFans
  dsimp only
  refine .trans ?_ blockLaws_capCut
  split
  · refine .trans ?_ blockLaws_faultConsequences
    exact (blockLaws_mapFans _).trans (.ite (fun _ => blockLaws_recoveryConsequences _) (.refl _))
  · exact (blockLaws_mapFans _).trans (.ite (fun _ => blockLaws_recoveryConsequences _) (.refl _))

theorem deratedLight_bounds (h : 40 ≤ s.cc.light ∧ s.cc.light ≤ 100) : 40 ≤ deratedLight s ∧ deratedLight s ≤ 100 := by
  unfold deratedLight
  dsimp only
  split <;> split <;> first | omega | (split <;> omega)

theorem laws_setLight {l : Nat} (h : s.LineLaw → 40 ≤ l ∧ l ≤ 100) : Laws s (setLight l s) := by
  refine (cooled_setLight _).laws (blockLaws_setLight h) fun hcap => ?_
  unfold setLight
  rw [occurIf_au]
  exact hcap

theorem laws_runEvaluation : Laws s (runEvaluation s) := by
  unfold runEvaluation
  dsimp only
  refine Laws.trans ?_ (laws_setLight fun h => deratedLight_bounds h.2.2)
  refine Cooled.laws ?_ ?_ fun _ => capLaw_capCut
  · exact (cooled_mapFans _).trans ((cooled_occurIf _ _).trans cooled_capCut)
  · exact (blockLaws_mapFans _).trans ((laws_occurIf _ _).toBlockLaws.trans blockLaws_capCut)

/-! ## The mode record -/

theorem setMode_eq (mode : Mode) (flagged : Bool) (s : State) : setMode mode flagged s = { s with
    mc := { s.mc with mode := mode, previous := some s.mc.mode, entered := s.now
                      lightPermit := mode = .run, thermTrip := mode = .trip }
    au := if flagged then occurIn .modeChange s.au else s.au } := by
  rw [setMode, occurIf_au]
  rfl

theorem blockLaws_setMode (mode : Mode) (flagged : Bool) : BlockLaws s (setMode mode flagged s) := by
  unfold setMode
  refine .trans ?_ (laws_occurIf _ _).toBlockLaws
  exact { lines := fun h => ⟨rfl, rfl, h.2.2⟩ }

theorem blockLaws_windowStart (w : Option Time) : BlockLaws s (s.mapCc fun c => { c with windowStart := w }) := {}

theorem blockLaws_scanOnWake (now : Time) : BlockLaws s (s.mapScan (scanOnWake now)) := {}

/-- The mode record changes but for the mode and its lines. -/
theorem blockLaws_mapMc {f : ModeController → ModeController} (h : (f s.mc).mode = s.mc.mode
    ∧ (f s.mc).lightPermit = s.mc.lightPermit ∧ (f s.mc).thermTrip = s.mc.thermTrip) : BlockLaws s (s.mapMc f) where
  lines := fun ⟨hpermit, htrip, hlight⟩ => by
    obtain ⟨hmode, hp, ht⟩ := h
    refine ⟨?_, ?_, hlight⟩
    · show (f s.mc).lightPermit = decide ((f s.mc).mode = .run)
      rw [hp, hmode, hpermit]
    · show (f s.mc).thermTrip = decide ((f s.mc).mode = .trip)
      rw [ht, hmode, htrip]

/-- The entry to STARTING from STANDBY keeps every law (R164). -/
theorem laws_enterStarting (hmode : s.mc.mode = .standby) : Laws s (enterStarting s) := by
  have hblocks : BlockLaws s (enterStarting s) := by
    unfold enterStarting
    dsimp only
    refine .trans ?_ (blockLaws_mapMc ⟨rfl, rfl, rfl⟩)
    refine .trans ?_ (blockLaws_scanOnWake _)
    refine .trans ?_ (blockLaws_windowStart _)
    exact (blockLaws_setMode _ _).trans ((blockLaws_mapFans _).trans (blockLaws_setLight fun _ => by decide))
  have heq : ∃ c a, enterStarting s = { s with
      cc := c, au := a, scan := scanOnWake s.now s.scan
      mc := { s.mc with mode := .starting, previous := some s.mc.mode, entered := s.now, lightPermit := false
                        thermTrip := false, fanCheck := some (s.now + fanCheckTime) } } := by
    have hcooled : Cooled (setMode .starting true s) ((setLight 100 (mapFans (setMode .starting true s)
        fun _ f => fanOnStarting f)).mapCc fun c => { c with windowStart := some s.now }) :=
      (cooled_mapFans _).trans ((cooled_setLight _).trans (cooled_mapCc _))
    have hnow : (setLight 100 (mapFans (setMode .starting true s) fun _ f => fanOnStarting f)).now = s.now := by
      unfold setLight
      rw [occurIf_au, setMode_eq]
      rfl
    obtain ⟨c, a, hcooled⟩ := hcooled
    unfold enterStarting
    dsimp only
    rw [hnow, hcooled, setMode_eq]
    exact ⟨c, a, rfl⟩
  obtain ⟨c, a, heq⟩ := heq
  exact {
    toBlockLaws := hblocks
    rest := fun h => by
      rw [heq]
      exact .inr (.inr (h.resolve_left (by simp [hmode]) |>.resolve_left (by simp [hmode])))
    fast := fun ⟨hoff, htriggered⟩ => by
      rw [heq]
      refine ⟨Iff.intro nofun nofun, Iff.intro nofun fun hmoves => ?_⟩
      exact nomatch (hoff.mpr hmode).symm.trans (htriggered.mpr hmoves)
    converter := fun h => by
      rw [heq]
      exact h
    cap := fun _ => by
      rw [heq]
      exact capLaw_of_not_run nofun }

/-- The entry to RUN keeps every law (R165). -/
theorem laws_enterRun (hmode : s.mc.mode ≠ .standby) : Laws s (enterRun s) := by
  have hblocks : BlockLaws s (enterRun s) :=
    (blockLaws_setMode _ _).trans ((blockLaws_mapMc ⟨rfl, rfl, rfl⟩).trans ((blockLaws_mapFans _).trans blockLaws_capCut))
  have heq : ∃ c a, enterRun s = { s with
      cc := c, au := a
      mc := { s.mc with mode := .run, previous := some s.mc.mode, entered := s.now, lightPermit := true
                        thermTrip := false, fanCheck := none } } := by
    unfold enterRun
    rw [setMode_eq, capCut_run (by rfl)]
    exact ⟨_, _, rfl⟩
  obtain ⟨c, a, heq⟩ := heq
  exact {
    toBlockLaws := hblocks
    rest := fun _ => by
      rw [heq]
      exact .inl rfl
    fast := fun ⟨hoff, htriggered⟩ => by
      rw [heq]
      exact ⟨Iff.intro (fun h => absurd (hoff.mp h) hmode) nofun, htriggered⟩
    converter := fun h => by
      rw [heq]
      exact h
    cap := fun _ => capLaw_capCut }

/-! ## The entry to STANDBY -/

theorem lensAtRest_iff : s.lensAtRest = true ↔ s.anyMoving = false ∧ s.mq.entries = [] := by
  rw [State.lensAtRest, Bool.and_eq_true, Bool.not_eq_true', List.isEmpty_iff]

/-- The state at an entry to STANDBY before the queue is cleared. -/
def standbyEntry (flagged : Bool) (s : State) : State :=
  (mapFans ((setMode .standby flagged s).mapMc fun m => { m with cooldown := none }) fun _ f => fanOnStandby f).mapScan
    (scanOnStandby s.now)

theorem standbyEntry_eq (flagged : Bool) (s : State) : ∃ c a, standbyEntry flagged s = { s with
    cc := c, au := a, scan := scanOnStandby s.now s.scan
    mc := { s.mc with mode := .standby, previous := some s.mc.mode, entered := s.now, lightPermit := false
                      thermTrip := false, cooldown := none } } := by
  unfold standbyEntry
  rw [setMode_eq]
  exact ⟨_, _, rfl⟩

theorem enterStandby_eq (flagged : Bool) (s : State) : enterStandby flagged s = clearQueue (standbyEntry flagged s) := by
  unfold enterStandby standbyEntry
  rw [setMode_eq]
  rfl

theorem scanOnStandby_frame (now : Time) (c : Scanner) : (scanOnStandby now c).therms = c.therms
    ∧ (scanOnStandby now c).fastMode = .off := ⟨grant_frame.2.2.2.1, grant_frame.2.2.1⟩

/-- The entry to STANDBY with the lens at rest keeps every law (R167). -/
theorem laws_enterStandby {flagged : Bool} (hrest : s.lensAtRest = true) : Laws s (enterStandby flagged s) := by
  rw [enterStandby_eq]
  refine .trans ?_ laws_clearQueue
  obtain ⟨c, a, heq⟩ := standbyEntry_eq flagged s
  exact {
    toBlockLaws := (blockLaws_setMode _ _).trans ((blockLaws_mapMc ⟨rfl, rfl, rfl⟩).trans
      ((blockLaws_mapFans _).trans (blockLaws_mapScan (scanOnStandby_frame _ _).1)))
    rest := fun _ => by
      rw [heq]
      exact .inr (.inr hrest)
    fast := fun _ => by
      have hstill : ({ s with cc := c, au := a, scan := scanOnStandby s.now s.scan } : State).anyMoving = false :=
        (lensAtRest_iff.mp hrest).1
      rw [heq]
      unfold State.FastLaw
      dsimp only
      rw [(scanOnStandby_frame _ _).2]
      exact ⟨Iff.intro (fun _ => rfl) fun _ => rfl, Iff.intro nofun fun h => absurd h (by
        rw [Bool.not_eq_true]; exact hstill)⟩
    converter := fun _ => by
      rw [heq]
      exact burstLeft_grant
    cap := fun _ => by
      rw [heq]
      exact capLaw_of_not_run nofun }

theorem laws_judgeCooldown (flagged : Bool) : Laws s (judgeCooldown flagged s) := by
  unfold judgeCooldown
  refine .ite (fun h => laws_enterStandby ?_) (.refl s)
  exact (Bool.and_eq_true_iff.mp h).2

theorem laws_afterLens : Laws s (afterLens s) := laws_dispatch.trans (laws_judgeCooldown _)

theorem laws_stepAxis {f : State → State} (h : Laws s (f s)) : Laws s (stepAxis ax f s) :=
  .ite (fun _ => h.trans laws_afterLens) h

theorem laws_clearAxis (ax : Axis) (st : Motion → EndStatus) (removal : EndStatus) :
    Laws s (clearAxis ax st removal s) := by
  have h : Laws s (stepAxis ax (requestEnd ax st) s) := laws_stepAxis (laws_requestEnd _ _)
  exact .ite (fun _ => h.trans ((laws_removeEntry _ _).trans laws_dispatch)) h

/-! ## The entry to COOLDOWN -/

/-- The state at an entry to COOLDOWN before the recall is abandoned. -/
def cooldownEntry (flagged : Bool) (s : State) : State :=
  aimCooldown (mapFans ((setMode .cooldown flagged s).mapMc fun m =>
    { m with fanCheck := none, thermalDone := false, cooldown := some (s.now + cooldownTime) })
    fun _ f => { f with override := false })

theorem cooldownEntry_eq (flagged : Bool) (s : State) : ∃ c a, cooldownEntry flagged s = { s with
    cc := c, au := a
    mc := { s.mc with mode := .cooldown, previous := some s.mc.mode, entered := s.now, lightPermit := false
                      thermTrip := false, fanCheck := none, thermalDone := false
                      cooldown := some (s.now + cooldownTime) } } := by
  unfold cooldownEntry
  rw [setMode_eq]
  exact ⟨_, _, rfl⟩

theorem leaveForCooldown_eq (flagged : Bool) (s : State) : leaveForCooldown flagged s =
    axes.foldl (fun s ax => requestEnd ax (fun _ => .stopped) s)
      (clearQueue (abandonRecall true (cooldownEntry flagged s))) := by
  unfold leaveForCooldown cooldownEntry
  rw [setMode_eq]

theorem laws_cooldownEntry (flagged : Bool) (hmode : s.mc.mode ≠ .standby) : Laws s (cooldownEntry flagged s) := by
  obtain ⟨c, a, heq⟩ := cooldownEntry_eq flagged s
  exact {
    toBlockLaws := by
      unfold cooldownEntry aimCooldown cooldownTargets
      exact (blockLaws_setMode _ _).trans ((blockLaws_mapMc ⟨rfl, rfl, rfl⟩).trans
        ((blockLaws_mapFans _).trans ((blockLaws_mapFans _).trans (blockLaws_mapFans _))))
    rest := fun _ => by
      rw [heq]
      exact .inr (.inl rfl)
    fast := fun ⟨hoff, htriggered⟩ => by
      rw [heq]
      exact ⟨Iff.intro (fun h => absurd (hoff.mp h) hmode) nofun, htriggered⟩
    converter := fun h => by
      rw [heq]
      exact h
    cap := fun _ => by
      rw [heq]
      exact capLaw_of_not_run nofun }

theorem laws_leaveForCooldown (flagged : Bool) (hmode : s.mc.mode ≠ .standby) : Laws s (leaveForCooldown flagged s) := by
  rw [leaveForCooldown_eq]
  exact (laws_cooldownEntry flagged hmode).trans ((laws_abandonRecall _).trans (laws_clearQueue.trans
    (.fold _ (fun _ ax => laws_requestEnd ax _) _ _)))

@[simp] theorem handRemoved_mq (st : EndStatus) (e : Entry) : (handRemoved st e s).mq = s.mq := by
  unfold handRemoved
  split
  · exact (setupOnly_recordRecall _ _ _).mq
  all_goals rfl

/-- After a clear the queue holds no entry (R82, R84). -/
theorem clearQueue_mq : (clearQueue s).mq = dropEntries (fun _ => true) s.mq := by
  have h (l : List Entry) (u : State) : (l.foldl (fun s e => handRemoved .stopped e s) u).mq = u.mq := by
    induction l generalizing u with
    | nil => rfl
    | cons e l ih => rw [List.foldl_cons, ih, handRemoved_mq]
  exact h _ _

theorem clearQueue_entries : (clearQueue s).mq.entries = [] := by
  rw [clearQueue_mq]
  simp

theorem requestEnds_mq (st : Motion → EndStatus) (l : List Axis) :
    (l.foldl (fun s ax => requestEnd ax st s) s).mq = s.mq := by
  induction l generalizing s with
  | nil => rfl
  | cons ax l ih => rw [List.foldl_cons, ih, requestEnd_mq]

theorem leaveForCooldown_entries (flagged : Bool) : (leaveForCooldown flagged s).mq.entries = [] := by
  rw [leaveForCooldown_eq, requestEnds_mq, clearQueue_entries]

theorem leaveForCooldown_mode (flagged : Bool) : (leaveForCooldown flagged s).mc.mode = .cooldown := by
  rw [leaveForCooldown_eq, (LensOnly.fold _ (fun _ ax => lensOnly_requestEnd ax _) _ _).mc, lensOnly_clearQueue.mc,
    (lensOnly_abandonRecall _).mc]
  obtain ⟨c, a, heq⟩ := cooldownEntry_eq flagged s
  rw [heq]

/-- Appending an entry gives no entry to another axis (R80, R97). -/
theorem entryOf_appendEntry {e : Entry} (hb : b ≠ e.axis) (h : s.entryOf b = none) :
    (appendEntry e s).entryOf b = none := by
  obtain ⟨n, hn, -⟩ := dispatch_entries (s := s.mapMq fun q => { q with entries := q.entries ++ [e] })
  refine entryOf_eq_none_iff.mpr fun x hx => ?_
  have hx : x ∈ s.mq.entries ++ [e] := List.mem_of_mem_drop (hn ▸ hx)
  rcases List.mem_append.mp hx with hx | hx
  · exact entryOf_eq_none_iff.mp h x hx
  · rw [List.mem_singleton.mp hx]
    exact hb.symm

theorem lensOnly_parkEntry (targets : PerAxis (Option Nat)) (ax : Axis) : LensOnly s (parkEntry targets s ax) := by
  unfold parkEntry
  split
  · exact .refl s
  · exact .ite (lensOnly_appendEntry _) (.refl s)

/-- The PARK entries of axes that have none yet are appended in COOLDOWN (R93). -/
theorem laws_parkEntries (targets : PerAxis (Option Nat)) (l : List Axis) (hl : l.Nodup) (hmode : s.mc.mode = .cooldown)
    (hnone : ∀ ax ∈ l, s.entryOf ax = none) : Laws s (l.foldl (parkEntry targets) s) := by
  induction l generalizing s with
  | nil => exact .refl s
  | cons ax l ih =>
    rw [List.nodup_cons] at hl
    have hstep : Laws s (parkEntry targets s ax) := by
      unfold parkEntry
      split
      · exact .refl s
      · exact .ite (fun _ => laws_appendEntry (.inr hmode) (hnone ax (.head _))) (.refl s)
    refine hstep.trans (ih hl.2 ?_ fun b hb => ?_)
    · rw [(lensOnly_parkEntry _ _).mc]
      exact hmode
    · have hbax : b ≠ ax := fun h => hl.1 (h ▸ hb)
      have hbnone := hnone b (.tail _ hb)
      unfold parkEntry
      split
      · exact hbnone
      · split
        · exact entryOf_appendEntry hbax hbnone
        · exact hbnone

theorem laws_enterCooldown (flagged : Bool) (hmode : s.mc.mode ≠ .standby) : Laws s (enterCooldown flagged s) := by
  refine (laws_leaveForCooldown flagged hmode).trans ?_
  refine laws_parkEntries _ _ (by decide) (leaveForCooldown_mode _) fun ax _ => entryOf_eq_none_iff.mpr ?_
  rw [leaveForCooldown_entries]
  exact fun _ h => nomatch h

/-! ## The entry to TRIP -/

/-- The state at an entry to TRIP before the recall is abandoned. -/
def tripEntry (cause : TripCause) (atTrip : SensorSet) (s : State) : State :=
  mapFans ((occur .trip (setMode .trip true s)).mapMc fun m =>
    { m with lastTrip := some ⟨cause, atTrip, faultedFans s.cc, s.mc.mode⟩, fanCheck := none, cooldown := none })
    fun _ f => fanOnTrip f

theorem tripEntry_eq (cause : TripCause) (atTrip : SensorSet) (s : State) : ∃ c a, tripEntry cause atTrip s = { s with
    cc := c, au := a
    mc := { s.mc with mode := .trip, previous := some s.mc.mode, entered := s.now, lightPermit := false
                      thermTrip := true, fanCheck := none, cooldown := none
                      lastTrip := some ⟨cause, atTrip, faultedFans s.cc, s.mc.mode⟩ } } := by
  unfold tripEntry
  rw [setMode_eq]
  exact ⟨_, _, rfl⟩

theorem enterTrip_eq (cause : TripCause) (atTrip : SensorSet) (s : State) : enterTrip cause atTrip s =
    cutAll (clearQueue (abandonRecall true (tripEntry cause atTrip s))) := rfl

theorem cutMotion_get (h : b ≠ ax) : (cutMotion ax s).lens.get b = s.lens.get b := by
  unfold cutMotion
  split
  · rfl
  · exact endMotion_get _ _ _ h

theorem cutMotion_motion (ax : Axis) : ((cutMotion ax s).lens.get ax).motion = none := by
  unfold cutMotion
  split
  · assumption
  · exact endMotion_motion _ _

@[simp] theorem cutMotion_mq (ax : Axis) : (cutMotion ax s).mq = s.mq := by
  unfold cutMotion
  split
  · rfl
  · exact endMotion_mq _ _

theorem cutAll_motion (ax : Axis) : ((cutAll s).lens.get ax).motion = none := by
  cases ax <;> simp [cutAll, axes, cutMotion_get, cutMotion_motion]

@[simp] theorem cutAll_mq : (cutAll s).mq = s.mq := by simp [cutAll, axes]

/-- After every motion has been cut and the queue cleared the lens is at rest (R72, R84). -/
theorem lensAtRest_cutAll : (cutAll (clearQueue s)).lensAtRest = true := by
  refine lensAtRest_iff.mpr ⟨?_, by rw [cutAll_mq, clearQueue_entries]⟩
  rw [Bool.eq_false_iff, Ne, anyMoving_iff]
  rintro ⟨ax, h⟩
  rw [State.moving, cutAll_motion] at h
  cases h

theorem laws_enterTrip (cause : TripCause) (atTrip : SensorSet) (hmode : s.mc.mode ≠ .standby) :
    Laws s (enterTrip cause atTrip s) := by
  rw [enterTrip_eq]
  have hlens : Laws (tripEntry cause atTrip s) (cutAll (clearQueue (abandonRecall true (tripEntry cause atTrip s)))) :=
    (laws_abandonRecall _).trans (laws_clearQueue.trans laws_cutAll)
  obtain ⟨c, a, heq⟩ := tripEntry_eq cause atTrip s
  exact {
    toBlockLaws := BlockLaws.trans ((blockLaws_setMode _ _).trans ((laws_occur _).toBlockLaws.trans
      ((blockLaws_mapMc ⟨rfl, rfl, rfl⟩).trans (blockLaws_mapFans _)))) hlens.toBlockLaws
    rest := fun _ => .inr (.inr lensAtRest_cutAll)
    fast := fun ⟨hoff, htriggered⟩ => by
      refine hlens.fast ?_
      rw [heq]
      exact ⟨Iff.intro (fun h => absurd (hoff.mp h) hmode) nofun, htriggered⟩
    converter := fun h => by
      refine hlens.converter ?_
      rw [heq]
      exact h
    cap := fun _ => by
      refine hlens.cap ?_
      rw [heq]
      exact capLaw_of_not_run nofun }

theorem laws_tripCondition (cause : TripCause) (atTrip : SensorSet) : Laws s (tripCondition cause atTrip s) := by
  unfold tripCondition
  split
  case h_4 => exact .refl s
  case h_5 => exact .refl s
  all_goals
    next h => exact laws_enterTrip _ _ (by rw [h]; decide)

end Sys2Proof.Machine
end

section
-- One declaration at a time: many proofs that wait at once hold a thread each.
set_option Elab.async false
/-! The thermal evaluation and the events of the scanner, the lens timers, the fans and the modes keep every law. -/

namespace Sys2Proof.Machine

variable {s t u : State} {ax b : Axis}

/-! ## The Focus Compensator at an evaluation -/

theorem roundHalfAway_bounds {n : Int} {d k : Nat} (hd : 0 < d) (h : n.natAbs ≤ d * k) :
    -(k : Int) ≤ roundHalfAway n d ∧ roundHalfAway n d ≤ k := by
  have hround : (2 * n.natAbs + d) / (2 * d) ≤ k := by
    rw [← Nat.lt_succ_iff, Nat.div_lt_iff_lt_mul (by omega), Nat.succ_mul]
    nlinarith
  unfold roundHalfAway
  generalize (2 * n.natAbs + d) / (2 * d) = q at hround
  split <;> omega

/-- Between two coefficients in their limits the drift line stays in them (R102). -/
theorem interpolated_bounds {x y f : Int} (hx : -200 ≤ x ∧ x ≤ 200) (hy : -200 ≤ y ∧ y ≤ 200) (hf : 0 ≤ f ∧ f ≤ 1000) :
    -200 ≤ roundHalfAway (x * 1000 + (y - x) * f) 1000 ∧ roundHalfAway (x * 1000 + (y - x) * f) 1000 ≤ 200 := by
  refine roundHalfAway_bounds (k := 200) (by decide) ?_
  have hlow : -200000 ≤ x * 1000 + (y - x) * f := by nlinarith
  have hhigh : x * 1000 + (y - x) * f ≤ 200000 := by nlinarith
  omega

theorem driftCoefficient_bounds {tbl : DriftTable} {z : Nat} (hz : z ≤ 4000)
    (h : ∀ c ∈ [tbl.c0, tbl.c1, tbl.c2, tbl.c3, tbl.c4], -200 ≤ c ∧ c ≤ 200) :
    -200 ≤ driftCoefficient tbl z ∧ driftCoefficient tbl z ≤ 200 := by
  have coefficient (i : Nat) (hi : i < 5) : -200 ≤ [tbl.c0, tbl.c1, tbl.c2, tbl.c3, tbl.c4].getD i 0
      ∧ [tbl.c0, tbl.c1, tbl.c2, tbl.c3, tbl.c4].getD i 0 ≤ 200 := by
    rw [List.getD_eq_getElem _ _ hi]
    exact h _ (List.getElem_mem _)
  unfold driftCoefficient
  exact interpolated_bounds (coefficient _ (by omega)) (coefficient _ (by omega)) (by omega)

theorem compensation_bounds (coef : Int) (h : -150 ≤ s.fc.comp ∧ s.fc.comp ≤ 150) :
    -150 ≤ compensation coef s ∧ compensation coef s ≤ 150 := by
  unfold compensation
  split
  · decide
  · split
    · decide
    · exact h
    · exact ⟨le_clampInt (by decide), clampInt_le (by decide)⟩

theorem zoomPosition_le : zoomPosition s ≤ 4000 := by
  unfold zoomPosition
  cases h : s.position .zoom with
  | none => exact Nat.le_of_ble_eq_true rfl
  | some n => exact position_le _ h

/-- The target of a trim is at most 150 from a base within the travel (R106). -/
theorem effectiveTarget_near {base : Nat} {comp : Int} (hbase : base ≤ 4000) (hcomp : -150 ≤ comp ∧ comp ≤ 150) :
    -150 ≤ (effectiveTarget base comp : Int) - base ∧ (effectiveTarget base comp : Int) - base ≤ 150 := by
  unfold effectiveTarget clampNat
  rw [clampInt_eq_max_min (by decide)]
  omega

theorem laws_judgeTrim : Laws s (judgeTrim s) := by
  unfold judgeTrim
  split
  · exact .refl s
  · next base hbase =>
    dsimp only
    refine .ite (fun h => ?_) (.refl s)
    obtain ⟨⟨hmode, hfree⟩, -⟩ := Bool.and_eq_true_iff.mp h |>.imp_left Bool.and_eq_true_iff.mp
    have htrim : Laws s (s.mapFc fun f => { f with trim := some ⟨effectiveTarget base s.fc.comp, base⟩ }) := {
      focus := fun _ ⟨hcoefficients, hcomp, hcomp', happlied, happlied', _, hbases⟩ =>
        ⟨hcoefficients, hcomp, hcomp', happlied, happlied', fun x hx => by
          obtain rfl := Option.some_inj.mp hx
          exact effectiveTarget_near (hbases .focus base hbase) ⟨hcomp, hcomp'⟩, hbases⟩ }
    refine htrim.trans (laws_appendEntry (.inl (of_decide_eq_true hmode)) ?_)
    exact Option.isNone_iff_eq_none.mp (Bool.and_eq_true_iff.mp hfree).2

theorem laws_evaluateFocus : Laws s (evaluateFocus s) := by
  unfold evaluateFocus
  refine Laws.trans ?_ laws_judgeTrim
  exact {
    focus := fun _ ⟨hcoefficients, hcomp, hcomp', happlied, happlied', htrim, hbases⟩ => by
      have hcomp := compensation_bounds (driftCoefficient s.fc.table (zoomPosition s)) ⟨hcomp, hcomp'⟩
      refine ⟨fun c hc => ?_, hcomp.1, hcomp.2, happlied, happlied', htrim, hbases⟩
      have htable (c : Int) (hc : c ∈ [s.fc.table.c0, s.fc.table.c1, s.fc.table.c2, s.fc.table.c3, s.fc.table.c4]) :
          -200 ≤ c ∧ c ≤ 200 := by
        refine hcoefficients c ?_
        simp only [List.mem_cons, List.not_mem_nil, or_false] at hc ⊢
        tauto
      have hc : c ∈ [s.fc.table.c0, s.fc.table.c1, s.fc.table.c2, s.fc.table.c3, s.fc.table.c4]
          ++ [driftCoefficient s.fc.table (zoomPosition s)] := hc
      rcases List.mem_append.mp hc with hc | hc
      · exact htable c hc
      · rw [List.mem_singleton.mp hc]
        exact driftCoefficient_bounds zoomPosition_le htable }

theorem laws_evaluateQueue : Laws s (evaluateQueue s) := by
  have hbudget : budgetFor (s.cc.limits.get .s7) (s.cc.seen.get .s7) ∈ [0, 3, 4] := by
    unfold budgetFor
    split
    · decide
    · split
      · decide
      · split <;> decide
  have h : Laws s (s.mapMq fun q => { q with budget := budgetFor (s.cc.limits.get .s7) (s.cc.seen.get .s7) }) := {
    budget := fun hb => ⟨hbudget, hb.2⟩ }
  exact .ite (fun _ => h.trans laws_dispatch) h

theorem laws_mapMc {f : ModeController → ModeController} (h : (f s.mc).mode = s.mc.mode
    ∧ (f s.mc).lightPermit = s.mc.lightPermit ∧ (f s.mc).thermTrip = s.mc.thermTrip) : Laws s (s.mapMc f) := by
  have hmode := h.1
  have hmc : (s.mapMc f).mc.mode = s.mc.mode := hmode
  exact {
    toBlockLaws := blockLaws_mapMc h
    rest := fun h => by
      unfold State.RestLaw
      rw [hmc]
      exact h
    fast := fun h => by
      unfold State.FastLaw
      rw [hmc]
      exact h
    cap := fun h => by
      unfold State.CapLaw
      rw [hmc]
      exact h }

theorem laws_evaluateMode : Laws s (evaluateMode s) :=
  .ite (fun _ => (laws_mapMc ⟨rfl, rfl, rfl⟩).trans (laws_judgeCooldown _)) (.refl s)

/-- Cooling's work of the mode at an evaluation, before the trip conditions. -/
def modeWork (s : State) : State :=
  match s.mc.mode with
  | .run => runEvaluation s
  | .cooldown => cooldownPipeline s
  | .standby | .starting | .trip => s

theorem laws_modeWork : Laws s (modeWork s) := by
  unfold modeWork
  split
  case h_1 => exact laws_runEvaluation
  case h_2 h =>
    exact (cooled_mapFans _).laws (blockLaws_mapFans _) fun _ => capLaw_of_not_run fun hrun => nomatch h.symm.trans hrun
  all_goals exact .refl s

theorem evaluateCooling_eq (s : State) : evaluateCooling s =
    let u := (modeWork s).mapCc fun c => { c with sensorTrip := sensorsAtTrip (modeWork s) ≠ 0 }
    if sensorsAtTrip (modeWork s) ≠ 0 then tripCondition .sensor (sensorsAtTrip (modeWork s)) u else u := rfl

theorem laws_sensorTrip (b : Bool) : Laws s (s.mapCc fun c => { c with sensorTrip := b }) := {}

theorem laws_evaluateCooling : Laws s (evaluateCooling s) := by
  rw [evaluateCooling_eq]
  have h : Laws s ((modeWork s).mapCc fun c => { c with sensorTrip := sensorsAtTrip (modeWork s) ≠ 0 }) :=
    laws_modeWork.trans (laws_sensorTrip _)
  exact .ite (fun _ => h.trans (laws_tripCondition _ _)) h

theorem laws_receive (r : Receiver) : Laws s (receive r s) := by
  cases r with
  | cooling => exact laws_evaluateCooling
  | focus => exact laws_evaluateFocus
  | queue => exact laws_evaluateQueue
  | mode => exact laws_evaluateMode

/-- The state that the receivers of an evaluation find (R46). -/
def signalled (s : State) : State :=
  (s.mapScan fun c => { c with rounds := c.rounds + 1 }).mapCc fun c =>
    { c with seen := temperatures s, used := .make (inputsInForce s) }

theorem evaluate_eq (s : State) : evaluate s = (orderAt s.now).foldl (fun s r => receive r s) (signalled s) := rfl

theorem laws_signalled : Laws s (signalled s) where
  table := fun ⟨hlimits, hcurves⟩ => ⟨hlimits, fun fan => ⟨(hcurves fan).1, by
    have hused : ((signalled s).cc.used.get fan).curve = s.cc.curves.get fan := by cases fan <;> rfl
    rw [hused]
    exact (hcurves fan).1⟩⟩

theorem laws_evaluate : Laws s (evaluate s) := by
  rw [evaluate_eq]
  exact laws_signalled.trans (.fold _ (fun _ r => laws_receive r) _ _)

/-! ## The scanner -/

theorem laws_mapScan {f : Scanner → Scanner} (htherms : (f s.scan).therms = s.scan.therms)
    (hmode : (f s.scan).fastMode = s.scan.fastMode)
    (hfree : s.ConverterLaw → (f s.scan).converting = none → (f s.scan).burstLeft = 0) : Laws s (s.mapScan f) where
  toBlockLaws := blockLaws_mapScan htherms
  fast := fun h => by
    have hfast : (s.mapScan f).scan.fastMode = s.scan.fastMode := hmode
    unfold State.FastLaw
    rw [hfast]
    exact h
  converter := hfree

theorem laws_grant (afterFast : Bool) : Laws s (s.mapScan (grant s.now afterFast)) :=
  laws_mapScan grant_frame.2.2.2.1 grant_frame.2.2.1 fun _ => burstLeft_grant

theorem laws_slowDue : Laws s (s.mapScan (slowDue s.now)) :=
  laws_mapScan grant_frame.2.2.2.1 grant_frame.2.2.1 fun _ => burstLeft_grant

theorem laws_burstDue : Laws s (s.mapScan (burstDue s.now)) :=
  laws_mapScan grant_frame.2.2.2.1 grant_frame.2.2.1 fun _ => burstLeft_grant

theorem takeTrigger_frame (now : Time) (c : Scanner) : (takeTrigger now c).therms = c.therms
    ∧ (takeTrigger now c).fastMode = c.fastMode ∧ (takeTrigger now c).converting ≠ none := by
  unfold takeTrigger
  dsimp only
  split
  · exact ⟨rfl, rfl, nofun⟩
  · next h => exact ⟨rfl, rfl, fun hnone => h (by rw [hnone]; rfl)⟩

theorem laws_takeTrigger : Laws s (s.mapScan (takeTrigger s.now)) := by
  obtain ⟨htherms, hmode, hbusy⟩ := takeTrigger_frame s.now s.scan
  exact laws_mapScan htherms hmode fun _ h => absurd h hbusy

/-- The entry of a sensor after a sample keeps its ring (R48 to R52). -/
theorem applySample_sound (raw : Raw) (e : Thermistor) (h : e.ring.length ≤ 4 ∧ (e.state = .valid → e.ring.length = 4)
    ∧ (e.filtered.isSome = true ↔ e.state = .valid) ∧ e.count ≤ 255) :
    let e := applySample raw e
    e.ring.length ≤ 4 ∧ (e.state = .valid → e.ring.length = 4) ∧ (e.filtered.isSome = true ↔ e.state = .valid)
      ∧ e.count ≤ 255 := by
  obtain ⟨hring, hfull, hfiltered, hcount⟩ := h
  have hempty (e : Thermistor) : (emptyRing e).ring.length ≤ 4 ∧ ((emptyRing e).state = .valid → (emptyRing e).ring.length = 4)
      ∧ ((emptyRing e).filtered.isSome = true ↔ (emptyRing e).state = .valid) ∧ (emptyRing e).count ≤ 255 :=
    ⟨Nat.zero_le _, nofun, Iff.intro nofun nofun, Nat.zero_le _⟩
  unfold applySample
  dsimp only
  split
  · unfold goodSample
    dsimp only
    have hjoined : ((if e.ring.length < 4 then e.ring else e.ring.drop 1) ++ [raw]).length ≤ 4 := by
      rw [List.length_append, List.length_singleton]
      split
      · omega
      · rw [List.length_drop]
        omega
    have hcounted : countUp e.count ≤ 255 := by unfold countUp; omega
    have hlong : e.ring.length = 4 → ((if e.ring.length < 4 then e.ring else e.ring.drop 1) ++ [raw]).length = 4 := by
      intro h4
      rw [if_neg (by omega), List.length_append, List.length_drop, h4, List.length_singleton]
    generalize (if e.ring.length < 4 then e.ring else e.ring.drop 1) ++ [raw] = ring at hjoined hlong ⊢
    split
    · next h4 => exact ⟨hjoined, fun _ => h4, Iff.intro (fun _ => rfl) fun _ => rfl, hcounted⟩
    · next h4 => exact ⟨hjoined, fun hvalid => hlong (hfull hvalid), hfiltered, hcounted⟩
  · unfold badSample
    split
    · exact hempty _
    · split
      · exact hempty _
      · exact ⟨hring, hfull, hfiltered, hcount⟩
    · split
      · exact hempty _
      · exact ⟨hring, hfull, hfiltered, hcount⟩

/-- A sample that reaches its sensor's entry; the converter is free then, maybe with a burst in progress (R41). -/
theorem blockLaws_takeThermistor (sn : Sensor) (raw : Raw) : BlockLaws s (takeThermistor sn raw s) := by
  unfold takeThermistor
  refine .trans ?_ (laws_occurIf _ _).toBlockLaws
  exact {
    ring := fun h b => by
      by_cases hb : b = sn
      · subst hb
        simpa [State.mapScan] using applySample_sound raw (s.scan.therms.get b) (h b)
      · simpa [State.mapScan, hb] using h b }

theorem takeThermistor_eq (sn : Sensor) (raw : Raw) (s : State) : ∃ a, takeThermistor sn raw s = { s with
    au := a, scan := { s.scan with
      therms := s.scan.therms.set sn (applySample raw (s.scan.therms.get sn)), converting := none } } := by
  unfold takeThermistor
  rw [occurIf_au]
  exact ⟨_, rfl⟩

/-- After an unfinished converter state, every law carried further and a last grant carry all of them. -/
theorem laws_of_grant {afterFast : Bool} (hblocks : BlockLaws s t) (hrest : s.RestLaw → t.RestLaw)
    (hfast : s.FastLaw → t.FastLaw) (hcap : s.CapLaw → t.CapLaw) (h : Laws t u) :
    Laws s (u.mapScan (grant u.now afterFast)) where
  toBlockLaws := hblocks.trans (h.toBlockLaws.trans (laws_grant _).toBlockLaws)
  rest := fun x => h.rest (hrest x)
  fast := fun x => (laws_grant afterFast).fast (h.fast (hfast x))
  converter := fun _ => burstLeft_grant
  cap := fun x => h.cap (hcap x)

theorem laws_endSlow (sn : Sensor) (raw : Raw) : Laws s (endSlow sn raw s) := by
  obtain ⟨a, heq⟩ := takeThermistor_eq sn raw s
  have hblocks := blockLaws_takeThermistor (s := s) sn raw
  unfold endSlow
  dsimp only
  rw [heq] at hblocks ⊢
  exact laws_of_grant hblocks (fun h => h) (fun h => h) (fun h => h) (.ite (fun _ => laws_evaluate) (.refl _))

theorem storeChannel_frame (ch : FastChannel) (raw : Raw) (c : Scanner) : (storeChannel ch raw c).therms = c.therms
    ∧ (storeChannel ch raw c).fastMode = c.fastMode := by
  unfold storeChannel
  dsimp only
  split <;> exact ⟨rfl, rfl⟩

theorem laws_positionSample (ax : Axis) (raw : Raw) : Laws s (positionSample ax raw s) := by
  unfold positionSample
  cases hm : (s.lens.get ax).motion with
  | none => exact .refl s
  | some m =>
    dsimp only [Option.elim_some]
    refine laws_stepAxis ?_
    have hret := sampleMotion_returns (s.lens.get ax).cal s.now raw (Config.stallFirst (axisNumber ax) s.now) m
    have hcal : Laws s (s.mapAxis ax fun a => { a with cal :=
        (sampleMotion (s.lens.get ax).cal s.now raw (Config.stallFirst (axisNumber ax) s.now) m).learned.or a.cal }) :=
      laws_carry (m' := m) hm rfl hm rfl
    refine hcal.trans (laws_applyFate ?_ hret)
    simp [State.mapAxis, hm]

theorem mapAxis_self {f : AxisRecord → AxisRecord} (h : f (s.lens.get ax) = s.lens.get ax) : s.mapAxis ax f = s := by
  have hset : s.lens.set ax (s.lens.get ax) = s.lens := by cases ax <;> rfl
  unfold State.mapAxis
  rw [h, hset]

theorem laws_supplyAtAxis (now : Time) (mv : Nat) (ax : Axis) :
    Laws s (s.mapAxis ax fun r => { r with motion := r.motion.map (supplyAtMotion now mv) }) := by
  cases hm : (s.lens.get ax).motion with
  | none =>
    rw [mapAxis_self (by rw [hm, Option.map_none, ← hm])]
    exact .refl s
  | some m => exact laws_carry (m' := supplyAtMotion now mv m) hm rfl (by simp [hm]) (supplyAtMotion_returnState _ _ _)

theorem laws_handToLens (ch : FastChannel) (raw : Raw) : Laws s (handToLens ch raw s) := by
  cases ch with
  | pot ax => exact laws_positionSample ax raw
  | supply =>
    show Laws s (supplySample _ s)
    unfold supplySample
    exact .fold _ (fun u ax => laws_supplyAtAxis _ _ ax) _ _

theorem laws_endFast (ch : FastChannel) (raw : Raw) : Laws s (endFast ch raw s) := by
  unfold endFast
  obtain ⟨htherms, hmode⟩ := storeChannel_frame ch raw s.scan
  refine laws_of_grant (t := s.mapScan (storeChannel ch raw)) (blockLaws_mapScan htherms) (fun h => h) (fun h => ?_)
    (fun h => h) (laws_handToLens _ _)
  have hfast : (s.mapScan (storeChannel ch raw)).scan.fastMode = s.scan.fastMode := hmode
  unfold State.FastLaw
  rw [hfast]
  exact h

/-! ## The fans -/

theorem slew_capped {cap : Nat} {f : FanRecord} (h : exempt f = true ∨ f.duty ≤ cap ∧ f.target ≤ cap) :
    exempt (slew f) = true ∨ (slew f).duty ≤ cap ∧ (slew f).target ≤ cap := by
  unfold slew setDuty
  split
  · exact h.imp_right fun h => ⟨by show f.duty + 1 ≤ cap; omega, h.2⟩
  · split
    · exact h.imp_right fun h => ⟨by show f.duty - 1 ≤ cap; omega, h.2⟩
    · exact h

/-- A change of the fans that keeps each below its cap, or exempt. -/
theorem laws_mapFans {f : Fan → FanRecord → FanRecord} (h : s.mc.mode = .run → ∀ fan cap r,
    (exempt r = true ∨ r.duty ≤ cap ∧ r.target ≤ cap) →
      exempt (f fan r) = true ∨ (f fan r).duty ≤ cap ∧ (f fan r).target ≤ cap) : Laws s (mapFans s f) := by
  refine (cooled_mapFans _).laws (blockLaws_mapFans _) fun hcap hrun fan => ?_
  have := h hrun fan _ _ (hcap hrun fan)
  have hget : (mapFans s f).cc.fans.get fan = f fan (s.cc.fans.get fan) := PerFan.get_make _ _
  rw [hget]
  exact this

theorem laws_fanUpdate : Laws s (mapFans (s.mapCc fun c =>
    { c with nextFanUpdate := c.nextFanUpdate.map (· + fanUpdatePeriod) }) fun _ f => slew f) :=
  Laws.trans { } (laws_mapFans fun _ _ _ _ h => slew_capped h)

theorem laws_tachPulse (fan : Fan) :
    Laws s (mapFans s fun f r => if f = fan then { r with pulses := countUp r.pulses } else r) := by
  refine laws_mapFans fun _ f _ _ h => ?_
  split
  · exact h
  · exact h

theorem laws_judgeClose : Laws s (judgeClose s) := by
  unfold judgeClose
  split
  case h_4 h =>
    exact laws_mapFans fun hrun => nomatch h.symm.trans hrun
  case h_5 h =>
    exact laws_mapFans fun hrun => nomatch h.symm.trans hrun
  all_goals exact laws_judgeFans

theorem laws_windowStart (w : Option Time) : Laws s (s.mapCc fun c => { c with windowStart := w }) := {}

theorem laws_openWindows (w : Option Time) : Laws s (openWindows w s) := by
  unfold openWindows
  refine .trans (laws_mapFans fun _ _ _ _ h => ?_) (laws_windowStart _)
  exact h

theorem laws_closeWindow : Laws s (closeWindow s) := by
  unfold closeWindow
  dsimp only
  have hrecord : Laws s (mapFans s fun _ f => recordRpm f) := laws_mapFans fun _ _ _ _ h => h
  have h := hrecord.trans (laws_judgeClose.trans (laws_openWindows (windowClose s)))
  exact .ite (fun _ => h.trans (laws_tripCondition _ _)) h

theorem laws_endFanCheck (hmode : s.mc.mode = .starting) : Laws s (endFanCheck s) := by
  unfold endFanCheck
  dsimp only
  have hclosed : Laws s ((mapFans (s.mapMc fun m => { m with fanCheck := none }) fun _ f => checkFan f).mapCc fun c =>
      { c with windowStart := some (s.mapMc fun m => { m with fanCheck := none }).now }) := by
    refine (laws_mapMc ⟨rfl, rfl, rfl⟩).trans (.trans (laws_mapFans fun hrun => ?_) (laws_windowStart _))
    exact nomatch hmode.symm.trans hrun
  generalize hfails : (s.cc.fans.toList.filter failsCheck).length = failing
  generalize hu : (mapFans (s.mapMc fun m => { m with fanCheck := none }) fun _ f => checkFan f).mapCc (fun c =>
      { c with windowStart := some (s.mapMc fun m => { m with fanCheck := none }).now }) = u at hclosed ⊢
  have humode : u.mc.mode = .starting := by rw [← hu]; exact hmode
  have hfaults : Laws u (if failing = 0 then u else faultConsequences u)
      ∧ (if failing = 0 then u else faultConsequences u).mc.mode = .starting := by
    split
    · exact ⟨.refl u, humode⟩
    · have hcooled := cooled_faultConsequences (s := u)
      have hmode' : (faultConsequences u).mc.mode = .starting := hcooled.mode.trans humode
      exact ⟨hcooled.laws blockLaws_faultConsequences fun _ =>
        capLaw_of_not_run (by rw [hmode']; decide), hmode'⟩
  refine hclosed.trans (hfaults.1.trans (.ite (fun _ => laws_tripCondition _ _) (laws_enterRun ?_)))
  rw [hfaults.2]
  decide

theorem laws_cooldownTimer : Laws s (judgeCooldown true (s.mapMc fun m => { m with cooldown := none, thermalDone := true })) :=
  (laws_mapMc ⟨rfl, rfl, rfl⟩).trans (laws_judgeCooldown _)

/-! ## The timers of a motion -/

/-- A timer's fate for the motion of an axis keeps every law. -/
theorem laws_motionFate {fate : State → Motion → Fate} (h : ∀ s m, (fate s m).Returns m.returnState) :
    Laws s (stepAxis ax (fun s => (s.lens.get ax).motion.elim s fun m => applyFate ax (fate s m) s) s) := by
  refine laws_stepAxis ?_
  cases hm : (s.lens.get ax).motion with
  | none => exact .refl s
  | some m => exact laws_applyFate hm (h s m)

end Sys2Proof.Machine
end

section
-- One declaration at a time: many proofs that wait at once hold a thread each.
set_option Elab.async false
/-! Every request keeps every law: the owning block's effect, handler by handler. -/

namespace Sys2Proof.Machine

variable {s t u : State} {ax b : Axis} {p : Payload}

/-! ## The checks -/

theorem laws_refuse (st : Status) : Laws s (refuse st s).2 := .refl s

theorem laws_if {c : Prop} [Decidable c] {r r' : Reply × State} (h : c → Laws s r.2) (k : ¬c → Laws s r'.2) :
    Laws s (if c then r else r').2 := by
  split
  · exact h ‹_›
  · exact k ‹_›

theorem laws_ofLength {n : Nat} {body : State → Reply × State} (h : p.length = n → Laws s (body s).2) :
    Laws s (ofLength n p body s).2 := laws_if h fun _ => .refl s

theorem laws_withSlot {body : Fin 24 → State → Reply × State} (h : ∀ i, Laws s (body i s).2) :
    Laws s (withSlot p body s).2 := by
  unfold withSlot
  split
  · exact .refl s
  · exact h _

theorem laws_withReady {body : Fin 24 → Placement → State → Reply × State}
    (h : ∀ i r, slotAt s.pt i = some r → Laws s (body i r s).2) : Laws s (withReady p body s).2 := by
  refine laws_withSlot fun i => ?_
  split
  · exact .refl s
  · exact h _ _ ‹_›

theorem laws_withAxis {body : Axis → State → Reply × State} (h : ∀ ax, Laws s (body ax s).2) :
    Laws s (withAxis p body s).2 := by
  unfold withAxis
  split
  · exact .refl s
  · exact h _

theorem laws_withFan {body : Fan → State → Reply × State} (h : ∀ fan, Laws s (body fan s).2) :
    Laws s (withFan p body s).2 := by
  unfold withFan
  split
  · exact .refl s
  · exact h _

/-! ## Placements -/

theorem slotAt_putSlot (i j : Fin 24) (r : Option Placement) (s : State) :
    slotAt (putSlot i r s).pt j = if j = i then r else slotAt s.pt j := by
  show (s.pt.slots.set i r)[j] = if j = i then r else s.pt.slots[j]
  rw [Fin.getElem_fin, Vector.getElem_set]
  simp only [Fin.ext_iff, eq_comm]
  rfl

/-- A slot takes a sound record. -/
theorem laws_putSlot {i : Fin 24} {r : Placement} (hr : s.PlacementLaw → r.Sound) : Laws s (putSlot i (some r) s) := by
  have ready (j : Fin 24) (h : (slotAt s.pt j).isSome = true) : (slotAt (putSlot i (some r) s).pt j).isSome = true := by
    rw [slotAt_putSlot]
    split
    · rfl
    · exact h
  exact {
    placement := fun h => by
      obtain ⟨hsound, hquiet, hpark, hsource⟩ := id h
      refine ⟨fun j r' hj => ?_, hquiet, fun j hj => ready j (hpark j hj), fun j hj => ready j (hsource j hj)⟩
      rw [slotAt_putSlot] at hj
      split at hj
      · rw [← Option.some_inj.mp hj]
        exact hr h
      · exact hsound j r' hj }

theorem storedRecord_sound (r : Raster) (hok : recordOk p = true) : (storedRecord r p).Sound := by
  simp only [recordOk, Bool.and_eq_true] at hok
  refine ⟨hok.1.2, Nat.min_le_right _ _, fun ax n hn => ?_⟩
  change (PerAxis.make fun ax => (recordTarget p ax).map (min · 4000)).get ax = some n at hn
  rw [PerAxis.get_make] at hn
  obtain ⟨m, -, rfl⟩ := Option.map_eq_some_iff.mp hn
  exact Nat.min_le_right _ _

theorem laws_storeFrame {i : Fin 24} (hok : recordOk p = true) : Laws s (storeFrame i p s).2 :=
  laws_putSlot fun _ => storedRecord_sound _ hok

theorem laws_recordChecked {valid : Nat → Bool} {body : State → Reply × State}
    (h : recordOk p = true → Laws s (body s).2) : Laws s (recordChecked valid p body s).2 := by
  unfold recordChecked
  refine laws_if (fun _ => .refl s) fun _ => laws_if (fun _ => .refl s) fun _ => laws_if (fun _ => .refl s) fun hok => ?_
  exact h (by simpa using hok)

theorem laws_plCreate (p : Payload) : Laws s (plCreate p s).2 := by
  refine laws_recordChecked fun hok => ?_
  split
  · exact laws_if (fun _ => .refl s) fun _ => laws_storeFrame hok
  · split
    · exact laws_storeFrame hok
    · exact .refl s

theorem laws_modifyIfSource (i : Fin 24) : Laws s (modifyIfSource i s) := {}

theorem laws_plWrite (p : Payload) : Laws s (plWrite p s).2 := by
  refine laws_recordChecked fun hok => ?_
  split
  · exact .refl s
  · exact laws_if (fun _ => .refl s) fun _ => (laws_modifyIfSource _).trans (laws_storeFrame hok)

theorem laws_plRead (p : Payload) : Laws s (plRead p s).2 := laws_ofLength fun _ => laws_withReady fun _ _ _ => .refl s

/-- A retired slot is FREE, and neither park nor source slot any more (R13). -/
theorem laws_retire (i : Fin 24) : Laws s (retire i s) := by
  have hslots (j : Fin 24) : slotAt (retire i s).pt j = if j = i then none else slotAt s.pt j := by
    rw [← slotAt_putSlot]
    unfold retire
    dsimp only [State.mapSetup, State.mapPt]
    split <;> rfl
  have hpark : (retire i s).pt.park = if s.pt.park = some i then none else s.pt.park := by
    unfold retire putSlot
    dsimp only [State.mapSetup, State.mapPt]
    split <;> rfl
  have hsetup : (retire i s).setup = if s.setup.source = some i then { s.setup with source := none, modified := true }
      else s.setup := rfl
  have hquiet : (retire i s).setup.quiet = s.setup.quiet := by rw [hsetup]; split <;> rfl
  have hbase : (retire i s).setup.base = s.setup.base := by rw [hsetup]; split <;> rfl
  exact {
    recalls := fun h => by
      unfold State.RecallLaw
      rw [hsetup]
      split <;> exact h
    placement := fun ⟨hsound, hquiet', hparked, hsource⟩ => by
      refine ⟨fun j r hj => ?_, hquiet ▸ hquiet', fun j hj => ?_, fun j hj => ?_⟩
      · rw [hslots] at hj
        split at hj
        · cases hj
        · exact hsound j r hj
      · rw [hpark] at hj
        split at hj
        · cases hj
        · next hne =>
          rw [hslots, if_neg (by rintro rfl; exact hne hj)]
          exact hparked j hj
      · rw [hsetup] at hj
        split at hj
        · cases hj
        · next hne =>
          rw [hslots, if_neg (by rintro rfl; exact hne hj)]
          exact hsource j hj
    focus := fun _ ⟨hcoefficients, hcomp, hcomp', happlied, happlied', htrim, hbases⟩ =>
      ⟨hcoefficients, hcomp, hcomp', happlied, happlied', htrim, hbase ▸ hbases⟩
    cap := fun h => by
      unfold State.CapLaw capInForce at *
      rw [hquiet]
      exact h }

theorem laws_plRetire (p : Payload) : Laws s (plRetire p s).2 :=
  laws_ofLength fun _ => laws_withReady fun i _ _ => laws_retire i

theorem laws_plList (p : Payload) : Laws s (plList p s).2 :=
  laws_ofLength fun _ => laws_withSlot fun _ => laws_if (fun _ => .refl s) fun _ => .refl s

theorem laws_setPark {park : Option (Fin 24)} (h : ∀ i, park = some i → (slotAt s.pt i).isSome = true) :
    Laws s (setPark park s).2 where
  placement := fun ⟨hsound, hquiet, _, hsource⟩ => ⟨hsound, hquiet, h, hsource⟩

theorem laws_plSetPark (p : Payload) : Laws s (plSetPark p s).2 := by
  refine laws_ofLength fun _ => laws_if (fun _ => laws_setPark nofun) fun _ => laws_withReady fun i r hi => ?_
  refine laws_setPark fun j hj => ?_
  rw [← Option.some_inj.mp hj, hi]
  rfl

/-! ## Recall and capture -/

theorem afterLens_of_not_cooldown (h : s.mc.mode ≠ .cooldown) : afterLens s = dispatch s := by
  have hmode : (dispatch s).mc.mode ≠ .cooldown := by rw [lensOnly_dispatch.mc]; exact h
  unfold afterLens judgeCooldown
  rw [if_neg (by simp [hmode])]

theorem lensOnly_stepAxis {f : State → State} (hmode : s.mc.mode ≠ .cooldown) (h : LensOnly s (f s)) :
    LensOnly s (stepAxis ax f s) := by
  refine .ite ?_ h
  rw [afterLens_of_not_cooldown (by rw [h.mc]; exact hmode)]
  exact h.trans lensOnly_dispatch

theorem lensOnly_clearAxis (hmode : s.mc.mode ≠ .cooldown) (ax : Axis) (st : Motion → EndStatus) (removal : EndStatus) :
    LensOnly s (clearAxis ax st removal s) := by
  have h : LensOnly s (stepAxis ax (requestEnd ax st) s) := lensOnly_stepAxis hmode (lensOnly_requestEnd _ _)
  exact .ite (h.trans ((lensOnly_removeEntry _ _).trans lensOnly_dispatch)) h

/-- Dispatch gives no axis an entry. -/
theorem entryOf_dispatch (h : s.entryOf b = none) : (dispatch s).entryOf b = none := by
  obtain ⟨n, hn, -⟩ := dispatch_entries (s := s)
  exact entryOf_eq_none_iff.mpr fun x hx => entryOf_eq_none_iff.mp h x (List.mem_of_mem_drop (hn ▸ hx))

theorem removeEntry_mq (ax : Axis) (st : EndStatus) (h : (s.entryOf ax).isSome = true) :
    (removeEntry ax st s).mq = dropEntries (· = ax) s.mq := by
  unfold removeEntry
  split
  · next hnone => rw [hnone] at h; cases h
  · exact handRemoved_mq _ _

theorem entryOf_removeEntry (ax : Axis) (st : EndStatus) : (removeEntry ax st s).entryOf ax = none := by
  by_cases h : (s.entryOf ax).isSome = true
  · refine entryOf_eq_none_iff.mpr ?_
    rw [removeEntry_mq _ _ h]
    intro e he
    simpa using (List.mem_filter.mp he).2
  · have hnone := Option.not_isSome_iff_eq_none.mp h
    unfold removeEntry
    rw [hnone]
    exact hnone

/-- A cleared axis has no entry (R85). -/
theorem entryOf_clearAxis (ax : Axis) (st : Motion → EndStatus) (removal : EndStatus) :
    (clearAxis ax st removal s).entryOf ax = none := by
  unfold clearAxis
  dsimp only
  split
  · exact entryOf_dispatch (entryOf_removeEntry _ _)
  · next h => exact Option.not_isSome_iff_eq_none.mp h

theorem laws_recallAxis (r : Placement) (tag : Nat) (hmode : s.mc.mode = .run) : Laws s (recallAxis r tag s ax) := by
  unfold recallAxis
  cases r.targets.get ax with
  | none => exact .refl s
  | some target =>
    have hclear : LensOnly s (clearAxis ax (fun _ => .retargeted) .retargeted s) :=
      lensOnly_clearAxis (by rw [hmode]; decide) _ _ _
    refine (laws_clearAxis _ _ _).trans (laws_appendEntry (.inl ?_) (entryOf_clearAxis _ _ _))
    rw [hclear.mc]
    exact hmode

theorem lensOnly_recallAxis (r : Placement) (tag : Nat) (hmode : s.mc.mode = .run) :
    LensOnly s (recallAxis r tag s ax) := by
  unfold recallAxis
  cases r.targets.get ax with
  | none => exact .refl s
  | some target => exact (lensOnly_clearAxis (by rw [hmode]; decide) _ _ _).trans (lensOnly_appendEntry _)

theorem laws_recallAxes (r : Placement) (tag : Nat) (l : List Axis) (hmode : s.mc.mode = .run) :
    Laws s (l.foldl (recallAxis r tag) s) ∧ LensOnly s (l.foldl (recallAxis r tag) s) := by
  induction l generalizing s with
  | nil => exact ⟨.refl s, .refl s⟩
  | cons ax l ih =>
    have hframe := lensOnly_recallAxis (ax := ax) r tag hmode
    obtain ⟨hlaws, hlens⟩ := ih (s := recallAxis r tag s ax) (by rw [hframe.mc]; exact hmode)
    exact ⟨(laws_recallAxis r tag hmode).trans hlaws, hframe.trans hlens⟩

theorem laws_supersede : Laws s (supersede s) := by
  unfold supersede
  split
  · exact .refl s
  · exact laws_endRecall _ _
  · exact laws_endRecall _ _

theorem lensOnly_supersede : LensOnly s (supersede s) := by
  unfold supersede
  split
  · exact .refl s
  · exact lensOnly_endRecall _ _
  · exact lensOnly_endRecall _ _

theorem laws_beginRecall (i : Fin 24) (r : Placement) : Laws s (beginRecall i r s) := by
  unfold beginRecall
  dsimp only
  exact laws_supersede.trans { recalls := fun _ => ⟨fun _ => rfl, Iff.intro nofun nofun⟩ }

theorem lensOnly_beginRecall (i : Fin 24) (r : Placement) : LensOnly s (beginRecall i r s) := by
  unfold beginRecall
  exact lensOnly_supersede.trans (lensOnly_mapSetup _)

theorem laws_takeFocusChoice (on : Bool) : Laws s (takeFocusChoice on s) := by
  unfold takeFocusChoice
  refine .ite (fun _ => ?_) (.refl s)
  have zero : -150 ≤ (0 : Int) ∧ (0 : Int) ≤ 150 := by decide
  exact { focus := fun _ ⟨hcoefficients, _, _, happlied, happlied', htrim, hbases⟩ =>
    ⟨hcoefficients, zero.1, zero.2, happlied, happlied', htrim, hbases⟩ }

/-- The copies of a stored record are within their limits, and the caps of its quiet level act at once (R28, R122). -/
theorem laws_takeCopies {i : Fin 24} {r : Placement} (hr : slotAt s.pt i = some r) : Laws s (capCut (takeCopies i r s)) := by
  have hblocks : BlockLaws s (takeCopies i r s) := {
    placement := fun ⟨hsound, _, hpark, _⟩ => ⟨hsound, (hsound i r hr).2.1, hpark, fun j hj => by
      rw [← Option.some_inj.mp hj]
      exact Option.isSome_iff_exists.mpr ⟨r, hr⟩⟩
    focus := fun ⟨hsound, _, _, _⟩ ⟨hcoefficients, hcomp, hcomp', happlied, happlied', htrim, hbases⟩ => by
      refine ⟨hcoefficients, hcomp, hcomp', happlied, happlied', htrim, fun ax n hn => ?_⟩
      change (PerAxis.make fun ax => (r.targets.get ax).or (s.setup.base.get ax)).get ax = some n at hn
      rw [PerAxis.get_make] at hn
      cases htarget : r.targets.get ax with
      | none => rw [htarget] at hn; exact hbases ax n hn
      | some m => rw [htarget] at hn; obtain rfl := Option.some_inj.mp hn; exact (hsound i r hr).2.2 ax m htarget }
  obtain ⟨c, a, heq⟩ := cooled_capCut (s := takeCopies i r s)
  exact {
    toBlockLaws := hblocks.trans blockLaws_capCut
    rest := fun h => by rw [heq]; exact h
    fast := fun h => by rw [heq]; exact h
    converter := fun h => by rw [heq]; exact h
    cap := fun _ => capLaw_capCut }

theorem laws_acceptRecall {i : Fin 24} {r : Placement} (hmode : s.mc.mode = .run) (hr : slotAt s.pt i = some r) :
    Laws s (acceptRecall i r s) := by
  unfold acceptRecall
  dsimp only
  have hbegin := lensOnly_beginRecall (s := s) i r
  obtain ⟨hlaws, hlens⟩ := laws_recallAxes (s := beginRecall i r s) r (beginRecall i r s).setup.tag axes
    (by rw [hbegin.mc]; exact hmode)
  have hpt : slotAt (takeFocusChoice r.focusOn (axes.foldl (recallAxis r (beginRecall i r s).setup.tag)
      (beginRecall i r s))).pt i = some r := by
    have hsame (u : State) : (takeFocusChoice r.focusOn u).pt = u.pt := by unfold takeFocusChoice; split <;> rfl
    rw [hsame, hlens.pt, hbegin.pt]
    exact hr
  have h := (laws_beginRecall (s := s) i r).trans (hlaws.trans ((laws_takeFocusChoice r.focusOn).trans (laws_takeCopies hpt)))
  split
  · exact h
  · refine h.trans ?_
    unfold axislessRecall
    split
    · exact .refl _
    · exact laws_axisPhaseEnd _

theorem laws_plRecall (p : Payload) : Laws s (plRecall p s).2 := by
  refine laws_ofLength fun _ => laws_withSlot fun i => laws_if (fun _ => .refl s) fun hmode => ?_
  split
  · exact .refl s
  · next r hr =>
    exact laws_if (fun _ => .refl s) fun _ => laws_if (fun _ => .refl s) fun _ => laws_acceptRecall (not_not.mp hmode) hr

theorem captured_sound {label : Option (List Byte)} (h : s.PlacementLaw) (hlabel : label.all labelOk = true) (i : Fin 24) :
    (captured label (slotAt s.pt i) s).Sound := by
  obtain ⟨hsound, hquiet, -, -⟩ := h
  refine ⟨?_, hquiet, fun ax n hn => ?_⟩
  · cases label with
    | some l => exact hlabel
    | none =>
      cases hold : slotAt s.pt i with
      | none => rfl
      | some r => exact (hsound i r hold).1
  · change (PerAxis.make (captureTarget s)).get ax = some n at hn
    rw [PerAxis.get_make] at hn
    obtain ⟨c, -, rfl⟩ := Option.map_eq_some_iff.mp hn
    dsimp only
    split
    · exact clampNat_le _ _
    · exact normalise_le _ _

theorem laws_afterCapture {i : Fin 24} {r : Placement} (hr : s.PlacementLaw → r.Sound) :
    Laws s (afterCapture i r (putSlot i (some r) s)) := by
  refine (laws_putSlot (i := i) hr).trans ?_
  have hput : slotAt (putSlot i (some r) s).pt i = some r := by rw [slotAt_putSlot, if_pos rfl]
  exact {
    placement := fun ⟨hsound, hquiet, hpark, _⟩ => ⟨hsound, hquiet, hpark, fun j hj => by
      rw [← Option.some_inj.mp hj]
      exact Option.isSome_iff_exists.mpr ⟨r, hput⟩⟩
    focus := fun ⟨hsound, _, _, _⟩ ⟨hcoefficients, hcomp, hcomp', happlied, happlied', htrim, _⟩ =>
      ⟨hcoefficients, hcomp, hcomp', happlied, happlied', htrim, fun ax n hn => (hsound i r hput).2.2 ax n hn⟩ }

theorem laws_plCapture (p : Payload) : Laws s (plCapture p s).2 := by
  refine laws_if (fun _ => .refl s) fun _ => laws_withSlot fun i => laws_if (fun _ => .refl s) fun hlabel =>
    laws_if (fun _ => .refl s) fun _ => laws_if (fun _ => .refl s) fun _ => laws_afterCapture fun h => ?_
  exact captured_sound h (by simpa using hlabel) i

/-! ## Lens requests -/

theorem laws_lnMove (p : Payload) : Laws s (lnMove p s).2 := by
  refine laws_ofLength fun _ => laws_withAxis fun ax => laws_if (fun _ => .refl s) fun hmode => ?_
  unfold ifHealthy
  refine laws_if (fun _ => .refl s) fun _ => laws_if (fun _ => .refl s) fun _ => ?_
  have hclear : LensOnly s (clearAxis ax (fun _ => .retargeted) .retargeted s) :=
    lensOnly_clearAxis (by rw [not_not.mp hmode]; decide) _ _ _
  refine (laws_clearAxis _ _ _).trans ((laws_appendAwaited (e := ⟨ax, .move _⟩) 4 (.inl ?_) (entryOf_clearAxis _ _ _)).trans
    (laws_base (Nat.min_le_right _ _)))
  rw [hclear.mc]
  exact not_not.mp hmode

theorem laws_refreshMotion (deadline : Time) (h : (s.lens.get ax).motion.isSome = true) :
    Laws s (refreshMotion ax deadline s) := by
  obtain ⟨m, hm⟩ := Option.isSome_iff_exists.mp h
  exact laws_carry (m' := { m with job := refreshJob deadline m.job }) hm rfl (by simp [hm]) rfl

theorem laws_refreshEntry (deadline : Time) : Laws s (refreshEntry ax deadline s) where
  queue := fun h => by
    unfold State.QueueLaw refreshEntry State.mapMq at *
    rw [List.map_map]
    convert h using 2
    funext e
    dsimp only [Function.comp_apply]
    split <;> rfl
  rest := fun h => by
    unfold State.RestLaw at *
    refine h.imp_right (Or.imp_right fun hrest => ?_)
    rw [lensAtRest_iff] at *
    refine ⟨hrest.1, ?_⟩
    show s.mq.entries.map _ = []
    rw [hrest.2]
    rfl

theorem laws_lnJog (p : Payload) : Laws s (lnJog p s).2 := by
  refine laws_ofLength fun _ => laws_withAxis fun ax => laws_if (fun _ => .refl s) fun _ => laws_if (fun _ => .refl s)
    fun hmode => ?_
  dsimp only
  have hmode : s.mc.mode = .run := not_not.mp hmode
  generalize hu : s.mapSetup (fun a => { a with modified := true }) = u
  have hmodified : Laws s u := hu ▸ {}
  have humode : u.mc.mode = .run := by rw [← hu]; exact hmode
  refine laws_if (fun h => hmodified.trans (laws_refreshMotion _ ?_)) fun _ => laws_if
    (fun _ => hmodified.trans (laws_refreshEntry _)) fun _ => hmodified.trans ((laws_clearAxis _ _ _).trans
      (laws_appendAwaited (e := ⟨ax, .jog _ _⟩) 3 (.inl ?_) (entryOf_clearAxis _ _ _)))
  · unfold refreshable endable at h
    cases hm : (u.lens.get ax).motion with
    | none => rw [hm] at h; cases h
    | some m => rfl
  · rw [(lensOnly_clearAxis (by rw [humode]; decide) _ _ _).mc]
    exact humode

theorem laws_stopAxis : Laws s (stopAxis s ax) := (laws_requestEnd _ _).trans (laws_removeEntry _ _)

theorem laws_stopAxes (axs : List Axis) (all : Bool) : Laws s (stopAxes axs all s) := by
  unfold stopAxes
  have h : Laws s (if all && s.setup.recallState = .moving then abandonRecall true s else s) :=
    .ite (fun _ => laws_abandonRecall _) (.refl s)
  exact h.trans (.trans (.fold _ (fun _ _ => laws_stopAxis) _ _) laws_afterLens)

theorem laws_lnStop (p : Payload) : Laws s (lnStop p s).2 := by
  refine laws_ofLength fun _ => ?_
  split
  · exact .refl s
  · exact laws_stopAxes _ _

theorem axisBusy_eq_false (h : ¬axisBusy s ax = true) : s.moving ax = false ∧ s.entryOf ax = none := by
  simpa [axisBusy] using h

theorem laws_lnLearn (p : Payload) : Laws s (lnLearn p s).2 := by
  refine laws_ofLength fun _ => laws_withAxis fun ax => laws_if (fun _ => .refl s) fun hmode => laws_if (fun _ => .refl s)
    fun hbusy => ?_
  exact laws_appendAwaited (e := ⟨ax, .learn⟩) 0 (.inl (not_not.mp hmode)) (axisBusy_eq_false hbusy).2

/-- An axis at rest is calibrated and IDLE (R60). -/
theorem laws_setRange {c : Calibration} (h : s.moving ax = false) :
    Laws s (s.mapAxis ax fun r => { r with state := .idle, cal := some c }) := by
  have hmoving (b : Axis) : (s.mapAxis ax fun r => { r with state := .idle, cal := some c }).moving b = s.moving b := by
    rw [moving_mapAxis]
    split
    · next hb => rw [hb]; rfl
    · rfl
  have hany : (s.mapAxis ax fun r => { r with state := .idle, cal := some c }).anyMoving = s.anyMoving := by
    rw [Bool.eq_iff_iff, anyMoving_iff, anyMoving_iff]
    simp only [hmoving]
  exact {
    budget := fun ⟨hb, hu⟩ => ⟨hb, (unitsHeld_mono fun b h => hmoving b ▸ h).trans hu⟩
    axis := fun haxis b => by
      rw [hmoving]
      by_cases hb : b = ax
      · subst hb
        have hnone : (s.lens.get b).motion = none := Option.not_isSome_iff_eq_none.mp (by rw [← State.moving, h]; decide)
        simp [State.mapAxis, h, hnone]
      · simpa [State.mapAxis, hb] using haxis b
    rest := fun h => by
      unfold State.RestLaw State.lensAtRest at *
      rw [hany]
      exact h
    fast := fun ⟨hoff, htriggered⟩ => ⟨hoff, hany ▸ htriggered⟩ }

theorem laws_lnSetRange (p : Payload) : Laws s (lnSetRange p s).2 :=
  laws_ofLength fun _ => laws_withAxis fun _ => laws_if (fun _ => .refl s) fun _ => laws_if (fun _ => .refl s) fun _ =>
    laws_if (fun _ => .refl s) fun hbusy => laws_setRange (axisBusy_eq_false hbusy).1

/-! ## Geometry requests -/

theorem laws_startCompute : Laws s (startCompute s) :=
  laws_inputs (active := s.ge.active) (raster := s.ge.raster) (orient := s.ge.orient) fun h => h.1

theorem laws_discardPending : Laws s (discardPending s) := by
  unfold discardPending
  refine .ite (fun _ => ?_) (.refl s)
  exact { recalls := fun h => ⟨nofun, h.2⟩ }

theorem laws_setInsets (top bottom tl tr bl br : Int) : Laws s (setInsets top bottom tl tr bl br s).2 := by
  unfold setInsets
  dsimp only
  have hactive : Laws s (s.mapGe fun e => { e with active := clampInsets s.ge.raster top bottom tl tr bl br }) := {
    geometry := fun h => ⟨⟨h.1.1, clampInsets_within _ _ _ _ _ _ _⟩, h.2⟩ }
  exact hactive.trans (laws_discardPending.trans (.trans { } laws_startCompute))

theorem laws_gmSet (p : Payload) : Laws s (gmSet p s).2 := laws_ofLength fun _ => laws_setInsets _ _ _ _ _ _

theorem laws_gmNudge (p : Payload) : Laws s (gmNudge p s).2 := laws_ofLength fun _ => laws_setInsets _ _ _ _ _ _

theorem clampRaster_sound (wp hp : Nat) : (clampRaster wp hp).Sound := by
  unfold Raster.Sound
  rw [clampRaster_eq]
  dsimp only
  omega

theorem laws_gmRaster (p : Payload) : Laws s (gmRaster p s).2 :=
  laws_ofLength fun _ => laws_inputs (orient := s.ge.orient) fun _ =>
    ⟨clampRaster_sound _ _, clampInsets_within _ _ _ _ _ _ _⟩

theorem laws_gmOrient (p : Payload) : Laws s (gmOrient p s).2 := by
  refine laws_ofLength fun _ => ?_
  split
  · exact .refl s
  · exact laws_if (fun _ => .refl s) fun _ => laws_inputs (active := s.ge.active) (raster := s.ge.raster) fun h => h.1

/-! ## Cooling and focus requests -/

theorem laws_thQuiet (p : Payload) : Laws s (thQuiet p s).2 := by
  refine laws_ofLength fun _ => ?_
  dsimp only
  obtain ⟨c, a, heq⟩ := cooled_capCut (s := s.mapSetup fun x =>
    { x with quiet := min (u8 p 0) 3, modified := x.modified || x.quiet ≠ min (u8 p 0) 3 })
  have hblocks : BlockLaws s (s.mapSetup fun x =>
      { x with quiet := min (u8 p 0) 3, modified := x.modified || x.quiet ≠ min (u8 p 0) 3 }) := {
    placement := fun ⟨hsound, _, hpark, hsource⟩ => ⟨hsound, Nat.min_le_right _ _, hpark, hsource⟩ }
  exact {
    toBlockLaws := hblocks.trans blockLaws_capCut
    rest := fun h => by rw [accept, heq]; exact h
    fast := fun h => by rw [accept, heq]; exact h
    converter := fun h => by rw [accept, heq]; exact h
    cap := fun _ => capLaw_capCut }

theorem frameCurve_sound (hrising : rising (frameCurve p) = true) : (frameCurve p).Sound := by
  refine ⟨hrising, ?_⟩
  simp only [Curve.points, frameCurve, framePoint, List.forall_mem_cons]
  exact ⟨Nat.min_le_right _ _, Nat.min_le_right _ _, Nat.min_le_right _ _, Nat.min_le_right _ _, Nat.min_le_right _ _,
    Nat.min_le_right _ _, fun _ h => nomatch h⟩

theorem laws_thCurve (p : Payload) : Laws s (thCurve p s).2 := by
  refine laws_ofLength fun _ => laws_withFan fun fan => laws_if (fun _ => .refl s) fun hrising => ?_
  have hsound := frameCurve_sound (p := p) (by simpa using hrising)
  exact {
    table := fun ⟨hlimits, hcurves⟩ => ⟨hlimits, fun f => ⟨by
      show ((s.cc.curves.set fan (frameCurve p)).get f).Sound
      rw [PerFan.get_set]
      split
      · exact hsound
      · exact (hcurves f).1, (hcurves f).2⟩⟩ }

theorem laws_thMask (p : Payload) : Laws s (thMask p s).2 := by
  refine laws_ofLength fun _ => laws_withFan fun fan => laws_if (fun _ => ?_) fun _ => laws_if (fun _ => ?_) fun _ => .refl s
  · exact {}
  · exact {}

theorem laws_thLimits (p : Payload) : Laws s (thLimits p s).2 := by
  refine laws_ofLength fun _ => ?_
  dsimp only
  split
  · exact .refl s
  · next sn _ =>
    refine laws_if (fun hordered => ?_) fun _ => .refl s
    obtain ⟨hhold, htrip⟩ := Bool.and_eq_true_iff.mp hordered
    have hbounds : 0 ≤ (frameLimits p).hold ∧ (frameLimits p).trip ≤ 1500 :=
      ⟨le_clampInt (by decide), clampInt_le (by decide)⟩
    exact {
      table := fun ⟨hlimits, hcurves⟩ => ⟨fun b => by
        have hget : ((s.mapCc fun c => { c with limits := c.limits.set sn (frameLimits p) }).cc.limits.get b)
            = if b = sn then frameLimits p else s.cc.limits.get b := PerSensor.get_set _ _ _ _
        rw [accept, hget]
        split
        · exact ⟨hbounds.1, of_decide_eq_true hhold, of_decide_eq_true htrip, hbounds.2⟩
        · exact hlimits b, hcurves⟩ }

theorem laws_fcTable (p : Payload) : Laws s (fcTable p s).2 := by
  refine laws_ofLength fun _ => ?_
  have hclamp (x : Int) : -200 ≤ clampCoefficient x ∧ clampCoefficient x ≤ 200 :=
    ⟨le_clampInt (by decide), clampInt_le (by decide)⟩
  exact {
    focus := fun _ ⟨hcoefficients, hrest⟩ => ⟨by
      simp only [List.forall_mem_cons] at hcoefficients
      obtain ⟨-, -, -, -, -, hcoef⟩ := hcoefficients
      simp only [List.forall_mem_cons]
      exact ⟨hclamp _, hclamp _, hclamp _, hclamp _, hclamp _, hcoef⟩, hrest⟩ }

theorem laws_setChoice (on : Bool) : Laws s (setChoice on s) := by
  unfold setChoice
  exact (laws_takeFocusChoice on).trans { }

theorem laws_fcEnable (p : Payload) : Laws s (fcEnable p s).2 :=
  laws_ofLength fun _ => laws_if (fun _ => .refl s) fun _ => laws_setChoice _

theorem laws_reference : Laws s (reference s) where
  focus := fun _ ⟨hcoefficients, _, _, happlied, happlied', htrim, hbases⟩ => by
    have zero : -150 ≤ (0 : Int) ∧ (0 : Int) ≤ 150 := by decide
    refine ⟨hcoefficients, zero.1, zero.2, ?_, ?_, htrim, hbases⟩
    · show -150 ≤ if (s.validTemp .s3).isSome then s.fc.applied else 0
      split
      · exact happlied
      · exact zero.1
    · show (if (s.validTemp .s3).isSome then s.fc.applied else 0) ≤ 150
      split
      · exact happlied'
      · exact zero.2

theorem laws_fcReference (p : Payload) : Laws s (fcReference p s).2 := laws_ofLength fun _ => laws_reference

/-! ## Mode requests and queries -/

theorem laws_mdWake (p : Payload) : Laws s (mdWake p s).2 :=
  laws_ofLength fun _ => laws_if laws_enterStarting fun _ => .refl s

theorem laws_mdDown (p : Payload) : Laws s (mdDown p s).2 := by
  refine laws_ofLength fun _ => laws_if (fun hmode => laws_enterCooldown true ?_) fun _ => .refl s
  intro hstandby
  simp [hstandby] at hmode

theorem laws_mdClearTrip (p : Payload) : Laws s (mdClearTrip p s).2 := by
  refine laws_ofLength fun _ => laws_if (fun hmode => laws_enterCooldown true ?_) fun _ => .refl s
  intro hstandby
  simp [hstandby] at hmode

theorem laws_rcQuery (p : Payload) : Laws s (rcQuery p s).2 := laws_ofLength fun _ => .refl s

theorem laws_gmQuery (p : Payload) : Laws s (gmQuery p s).2 := laws_ofLength fun _ => .refl s

theorem laws_mdQuery (p : Payload) : Laws s (mdQuery p s).2 := laws_ofLength fun _ => .refl s

theorem laws_lnQuery (p : Payload) : Laws s (lnQuery p s).2 := by
  refine laws_ofLength fun _ => ?_
  split <;> exact .refl s

theorem laws_thQuery (p : Payload) : Laws s (thQuery p s).2 := by
  refine laws_ofLength fun _ => ?_
  split
  · exact .refl s
  · exact laws_if (fun _ => .refl s) fun _ => .refl s

theorem laws_snQuery (p : Payload) : Laws s (snQuery p s).2 := by
  refine laws_ofLength fun _ => ?_
  split
  · exact .refl s
  · exact laws_if (fun _ => .refl s) fun _ => laws_if (fun _ => .refl s) fun _ => .refl s

theorem laws_checked {handler : Payload → State → Reply × State} (h : Laws s (handler p s).2) :
    Laws s (checked handler p s).2 := by
  unfold checked
  split
  · exact .refl s
  · exact h

end Sys2Proof.Machine
end

section
-- One declaration at a time: many proofs that wait at once hold a thread each.
set_option Elab.async false
/-! What a command can do to a state, once for all of them. -/

namespace Sys2Proof.Machine

variable {s t u : State} {i : Instr} {p : Payload}

/-! ## The soft reset -/

theorem enterCooldown_mode (flagged : Bool) : (enterCooldown flagged s).mc.mode = .cooldown := by
  have h : LensOnly (leaveForCooldown flagged s) (enterCooldown flagged s) :=
    LensOnly.fold _ (fun _ ax => lensOnly_parkEntry _ ax) _ _
  rw [h.mc, leaveForCooldown_mode]

theorem laws_softResetMode : Laws s (softResetMode s) := by
  unfold softResetMode
  split
  case h_1 h => exact laws_enterCooldown _ (by rw [h]; decide)
  case h_2 h => exact laws_enterCooldown _ (by rw [h]; decide)
  case h_3 h =>
    have haim : Laws s (cooldownTargets s) := laws_mapFans fun hrun => nomatch h.symm.trans hrun
    exact haim.trans (laws_judgeCooldown _)
  case h_4 h => exact laws_mapFans fun hrun => nomatch h.symm.trans hrun
  case h_5 h => exact laws_mapFans fun hrun => nomatch h.symm.trans hrun

theorem judgeCooldown_mode (flagged : Bool) (h : s.mc.mode ≠ .run) : (judgeCooldown flagged s).mc.mode ≠ .run := by
  unfold judgeCooldown
  split
  · obtain ⟨c, a, heq⟩ := standbyEntry_eq flagged s
    rw [enterStandby_eq, lensOnly_clearQueue.mc, heq]
    exact nofun
  · exact h

theorem softResetMode_mode : (softResetMode s).mc.mode ≠ .run := by
  unfold softResetMode
  split
  case h_1 => rw [enterCooldown_mode]; decide
  case h_2 => rw [enterCooldown_mode]; decide
  case h_3 h => exact judgeCooldown_mode _ fun hrun => nomatch h.symm.trans hrun
  case h_4 h => exact fun hrun => nomatch h.symm.trans hrun
  case h_5 h => exact fun hrun => nomatch h.symm.trans hrun

theorem laws_softResetLens : Laws s (softResetLens s) := (laws_abandonRecall _).trans (laws_clearQueue.trans laws_cutAll)

theorem blockLaws_light : BlockLaws s (s.mapCc fun c => { c with light := 100 }) where
  lines h := ⟨h.1, h.2.1, Nat.le_of_ble_eq_true rfl, Nat.le_of_ble_eq_true rfl⟩

theorem laws_lookup (f : LookupPort → LookupPort) : Laws s (s.mapLp f) := {}

theorem blockLaws_softResetBlocks : BlockLaws s (softResetBlocks s) :=
  (blockLaws_mapFans _).trans (blockLaws_light.trans (laws_lookup _).toBlockLaws)

theorem softResetBlocks_eq (s : State) : ∃ c l, softResetBlocks s = { s with cc := c, lp := l } := ⟨_, _, rfl⟩

/-- A soft reset but for the alert flags, which it takes last (R170, R184). -/
theorem laws_softReset : Laws s (softResetMode (softResetBlocks (softResetLens s))) := by
  have hlens := laws_softResetLens (s := s)
  generalize softResetLens s = u at hlens
  have hblocks := blockLaws_softResetBlocks (s := u)
  have hmode := laws_softResetMode (s := softResetBlocks u)
  obtain ⟨c, l, heq⟩ := softResetBlocks_eq u
  exact {
    toBlockLaws := hlens.toBlockLaws.trans (hblocks.trans hmode.toBlockLaws)
    rest := fun h => hmode.rest (by rw [heq]; exact hlens.rest h)
    fast := fun h => hmode.fast (by rw [heq]; exact hlens.fast h)
    converter := fun h => hmode.converter (by rw [heq]; exact hlens.converter h)
    cap := fun _ => capLaw_of_not_run softResetMode_mode }

/-! ## What a command can do -/

/-- The changes of the alert flags that are no occurrence (R180 to R182). -/
inductive AlertChange : (Alerts → Alerts) → Prop
  | read : AlertChange readIn
  | ack (mask : FlagSet) : AlertChange (ackIn mask)
  | enable (mask : FlagSet) : AlertChange (enableIn mask)

/-- A change of the link that starts and ends no execution (R174). -/
def KeepsSlot (f : CommandLink → CommandLink) : Prop :=
  ∀ c, (c.exec = .executing ↔ ∃ r, c.slot = .pending r) → ((f c).exec = .executing ↔ ∃ r, (f c).slot = .pending r)

/-- All that a command can do to a state. -/
inductive Effect (s : State) : State → Prop
  | event {t : State} (h : Laws s t) : Effect s t
  | answered {t : State} (h : Laws s t) (r : Reply) : Effect s (t.mapCl fun _ => executing r)
  | alerts {f : Alerts → Alerts} (hf : AlertChange f) (r : Reply) : Effect s ((s.mapAu f).mapCl fun _ => executing r)
  | softReset {t : State} (h : Laws s t) (mode : Mode) (r : Reply) :
      Effect s ((t.mapAu fun _ => softResetAlerts mode).mapCl fun _ => executing r)
  | link {f : CommandLink → CommandLink} (hf : KeepsSlot f) : Effect s (s.mapCl f)
  | formed : Effect s ((s.mapCl (formResponse s.mq.awaited)).mapMq fun q => { q with awaited := none })
  | reset : Effect s (inReset s)
  | resetEnd : Effect s (endReset s)

theorem keepsSlot_markOverrun : KeepsSlot markOverrun := by
  intro c h
  unfold markOverrun
  cases hslot : c.slot with
  | pending r =>
    rw [hslot] at h
    exact Iff.intro (fun _ => ⟨_, rfl⟩) fun _ => h.mpr ⟨r, rfl⟩
  | empty => simpa [hslot] using h
  | full r => simpa [hslot] using h

theorem keepsSlot_emptySlot : KeepsSlot emptySlot := by
  intro c h
  unfold emptySlot
  split
  · next hslot _ => simpa [hslot] using h
  · exact h

/-- A request's effect: nothing, the overrun marker, or its owner's effect with its response pending (R174). -/
theorem effect_takeFrame {f : State → Reply × State} (h : takeFrame f s = .next t)
    (heffect : Effect s ((f s).2.mapCl fun _ => executing (f s).1)) : Effect s t := by
  rw [takeFrame_eq] at h
  obtain rfl := Host.Outcome.next.inj h
  split
  · exact .event (.refl s)
  · split
    · exact .link keepsSlot_markOverrun
    · exact heffect

theorem effect_request {handler : Payload → State → Reply × State} (h : request handler p s = .next t)
    (hlaws : Laws s (handler p s).2) : Effect s t :=
  effect_takeFrame (f := checked handler p) h (.answered (laws_checked hlaws) _)

theorem effect_alertRequest {handler : Payload → State → Reply × State} (h : request handler p s = .next t)
    (heffect : handler p s = refuse .badLength s ∨ handler p s = refuse .badValue s
      ∨ ∃ f r, AlertChange f ∧ handler p s = (r, s.mapAu f)) : Effect s t := by
  refine effect_takeFrame (f := checked handler p) h ?_
  unfold checked
  split
  · exact .answered (.refl s) _
  · rcases heffect with heq | heq | ⟨f, r, hf, heq⟩
    · rw [heq]
      exact .answered (.refl s) _
    · rw [heq]
      exact .answered (.refl s) _
    · rw [heq]
      exact .alerts hf _

/-- An event that is not due, or not while RESET_N holds the part, changes nothing (log 2, log 8). -/
theorem effect_event {due : Bool} {effect : State → State} (h : event due effect s = .next t)
    (heffect : due = true → Effect s (effect s)) : Effect s t := by
  rw [event_eq] at h
  obtain rfl := Host.Outcome.next.inj h
  split
  · next hdue => exact heffect (Bool.and_eq_true_iff.mp hdue).2
  · exact .event (.refl s)

theorem effect_motionEvent {ax : Axis} {due : Time → Motion → Bool} {fate : State → Motion → Fate}
    (h : motionEvent ax due fate s = .next t) (hfate : ∀ s m, (fate s m).Returns m.returnState) : Effect s t :=
  effect_event h fun _ => .event (laws_motionFate hfate)

theorem laws_timing (x : Timing) : Laws s (s.mapGe fun g => { g with timing := x }) := {}

theorem laws_ready {i : Inputs} (hstaged : s.ge.staged = .computing i) :
    Laws s (s.mapGe fun g => { g with staged := .ready (computeTable i) }) where
  geometry h := ⟨h.1, nofun⟩
  bank h hb := ⟨hb.1, fun tb htb => by
    obtain rfl := Staged.ready.inj htb
    exact computeTable_sound (h.2 i hstaged)⟩

theorem laws_completeCompute (h : computing s.ge = true) : Laws s (s.mapGe completeCompute) := by
  unfold computing at h
  split at h
  · next i hstaged =>
    rw [State.mapGe, completeCompute_computing hstaged]
    exact laws_ready hstaged
  · cases h
  · cases h

theorem effect_alRead (h : exec (.alRead p) s = .next t) : Effect s t := by
  refine effect_alertRequest h ?_
  by_cases hp : p.length = 0
  · exact .inr (.inr ⟨readIn, _, .read, ofLength_of_length hp _⟩)
  · exact .inl (ofLength_of_length_ne hp _)

theorem effect_alAck (h : exec (.alAck p) s = .next t) : Effect s t := by
  refine effect_alertRequest h ?_
  by_cases hp : p.length = 2
  · cases hm : maskOf p with
    | none => exact .inr (.inl (alAck_badMask hp hm))
    | some m => exact .inr (.inr ⟨ackIn m, _, .ack m, alAck_mask hp hm⟩)
  · exact .inl (ofLength_of_length_ne hp _)

theorem effect_alEnable (h : exec (.alEnable p) s = .next t) : Effect s t := by
  refine effect_alertRequest h ?_
  by_cases hp : p.length = 2
  · cases hm : maskOf p with
    | none => exact .inr (.inl (alEnable_badMask hp hm))
    | some m => exact .inr (.inr ⟨enableIn m, _, .enable m, alEnable_mask hp hm⟩)
  · exact .inl (ofLength_of_length_ne hp _)

theorem effect_mdSoftReset (h : exec (.mdSoftReset p) s = .next t) : Effect s t := by
  refine effect_takeFrame (f := checked mdSoftReset p) h ?_
  unfold checked
  split
  · exact .answered (.refl s) _
  · by_cases hp : p.length = 0
    · rw [mdSoftReset, ofLength_of_length hp]
      exact .softReset laws_softReset _ _
    · rw [mdSoftReset, ofLength_of_length_ne hp]
      exact .answered (.refl s) _

/-- Every command has one of the effects. -/
theorem effect_exec (h : exec i s = .next t) : Effect s t := by
  cases i with
  | plCreate p => exact effect_request h (laws_plCreate p)
  | plWrite p => exact effect_request h (laws_plWrite p)
  | plRead p => exact effect_request h (laws_plRead p)
  | plRetire p => exact effect_request h (laws_plRetire p)
  | plList p => exact effect_request h (laws_plList p)
  | plCapture p => exact effect_request h (laws_plCapture p)
  | plRecall p => exact effect_request h (laws_plRecall p)
  | plSetPark p => exact effect_request h (laws_plSetPark p)
  | rcQuery p => exact effect_request h (laws_rcQuery p)
  | lnMove p => exact effect_request h (laws_lnMove p)
  | lnJog p => exact effect_request h (laws_lnJog p)
  | lnStop p => exact effect_request h (laws_lnStop p)
  | lnLearn p => exact effect_request h (laws_lnLearn p)
  | lnSetRange p => exact effect_request h (laws_lnSetRange p)
  | lnQuery p => exact effect_request h (laws_lnQuery p)
  | gmSet p => exact effect_request h (laws_gmSet p)
  | gmNudge p => exact effect_request h (laws_gmNudge p)
  | gmQuery p => exact effect_request h (laws_gmQuery p)
  | gmRaster p => exact effect_request h (laws_gmRaster p)
  | gmOrient p => exact effect_request h (laws_gmOrient p)
  | thQuiet p => exact effect_request h (laws_thQuiet p)
  | thCurve p => exact effect_request h (laws_thCurve p)
  | thMask p => exact effect_request h (laws_thMask p)
  | thLimits p => exact effect_request h (laws_thLimits p)
  | thQuery p => exact effect_request h (laws_thQuery p)
  | fcTable p => exact effect_request h (laws_fcTable p)
  | fcEnable p => exact effect_request h (laws_fcEnable p)
  | fcReference p => exact effect_request h (laws_fcReference p)
  | snQuery p => exact effect_request h (laws_snQuery p)
  | mdWake p => exact effect_request h (laws_mdWake p)
  | mdDown p => exact effect_request h (laws_mdDown p)
  | mdClearTrip p => exact effect_request h (laws_mdClearTrip p)
  | mdSoftReset p => exact effect_mdSoftReset h
  | mdQuery p => exact effect_request h (laws_mdQuery p)
  | alRead p => exact effect_alRead h
  | alAck p => exact effect_alAck h
  | alEnable p => exact effect_alEnable h
  | unknownRequest code p =>
    by_cases hcode : unknownCode code = true
    · rw [exec_unknownRequest hcode] at h
      exact effect_takeFrame h (.answered (.refl s) _)
    · obtain rfl := Host.Outcome.next.inj ((if_neg hcode).symm.trans h)
      exact .event (.refl s)
  | frameOverrun => exact effect_event (show execFrameOverrun s = _ from h) fun _ => .link keepsSlot_markOverrun
  | frameDiscarded => exact effect_event (show execFrameDiscarded s = _ from h) fun _ => .link fun _ h => h
  | responseFormed => exact effect_event (show execResponseFormed s = _ from h) fun _ => .formed
  | fetch => exact effect_event (show execFetch s = _ from h) fun _ => .link fun _ h => h
  | responseFetched => exact effect_event (show execResponseFetched s = _ from h) fun _ => .link keepsSlot_emptySlot
  | powerOnReset => obtain rfl := Host.Outcome.next.inj h; exact .reset
  | lookupTransactionStart =>
    exact effect_event (show execLookupTransactionStart s = _ from h) fun _ => .event (laws_lookup _)
  | lookupIndex index =>
    refine effect_event (show execLookupIndex index s = _ from h) fun _ => .event ?_
    unfold takeIndex
    split
    · exact laws_lookup _
    · exact laws_lookup _
  | recordComplete => exact effect_event (show execRecordComplete s = _ from h) fun _ => .event (laws_lookup _)
  | lookupTransactionEnd =>
    exact effect_event (show execLookupTransactionEnd s = _ from h) fun _ => .event (laws_lookup _)
  | frameStart =>
    exact effect_event (show execFrameStart s = _ from h) fun _ => .event ((laws_timing _).trans laws_swapIfReady)
  | timingTimerExpiry =>
    exact effect_event (show execTimingTimerExpiry s = _ from h) fun _ =>
      .event ((laws_timing _).trans ((laws_occur _).trans laws_swapIfReady))
  | computeComplete =>
    refine effect_event (show execComputeComplete s = _ from h) fun hdue => .event ?_
    exact .ite (fun _ => (laws_completeCompute hdue).trans laws_swapIfReady) (laws_completeCompute hdue)
  | slowConversionDue => exact effect_event (show execSlowConversionDue s = _ from h) fun _ => .event laws_slowDue
  | slowConversionEnd raw =>
    refine effect_event (show execSlowConversionEnd raw s = _ from h) fun _ => .event ?_
    cases slowEnding s with
    | none => exact .refl s
    | some sn => exact laws_endSlow sn raw
  | fastBurstDue => exact effect_event (show execFastBurstDue s = _ from h) fun _ => .event laws_burstDue
  | fastTrigger => exact effect_event (show execFastTrigger s = _ from h) fun _ => .event laws_takeTrigger
  | fastConversionEnd raw =>
    refine effect_event (show execFastConversionEnd raw s = _ from h) fun _ => .event ?_
    cases fastEnding s with
    | none => exact .refl s
    | some ch => exact laws_endFast ch raw
  | settleWaitExpiry ax => exact effect_motionEvent (show execSettleWaitExpiry ax s = _ from h) fun _ _ => rfl
  | moveTimeout ax => exact effect_motionEvent (show execMoveTimeout ax s = _ from h) fun _ _ => trivial
  | brakeEnd ax => exact effect_motionEvent (show execBrakeEnd ax s = _ from h) fun _ _ => trivial
  | resumeTimerExpiry ax =>
    exact effect_motionEvent (show execResumeTimerExpiry ax s = _ from h) fun _ _ => resumeMotion_returns _ _ _ _
  | pauseExpiry ax => exact effect_motionEvent (show execPauseExpiry ax s = _ from h) fun _ _ => trivial
  | jogStageChange ax => exact effect_motionEvent (show execJogStageChange ax s = _ from h) fun _ _ => rfl
  | jogDeadline ax => exact effect_motionEvent (show execJogDeadline ax s = _ from h) fun _ _ => endRequest_returns _ _ _
  | pendingJogExpiry ax =>
    exact effect_event (show execPendingJogExpiry ax s = _ from h) fun _ =>
      .event ((laws_removeEntry _ _).trans laws_dispatch)
  | learnLegTimeout ax => exact effect_motionEvent (show execLearnLegTimeout ax s = _ from h) fun _ _ => trivial
  | fanUpdate => exact effect_event (show execFanUpdate s = _ from h) fun _ => .event laws_fanUpdate
  | tachPulse fan => exact effect_event (show execTachPulse fan s = _ from h) fun _ => .event (laws_tachPulse fan)
  | tachWindowClose => exact effect_event (show execTachWindowClose s = _ from h) fun _ => .event laws_closeWindow
  | fanCheckExpiry =>
    exact effect_event (show execFanCheckExpiry s = _ from h) fun hdue =>
      .event (laws_endFanCheck (of_decide_eq_true (Bool.and_eq_true_iff.mp hdue).1))
  | cooldownTimerExpiry =>
    exact effect_event (show execCooldownTimerExpiry s = _ from h) fun _ => .event laws_cooldownTimer
  | powerOnResetEnd =>
    obtain rfl := Host.Outcome.next.inj h
    split
    · exact .resetEnd
    · exact .event (.refl s)

end Sys2Proof.Machine
end

section
-- One declaration at a time: many proofs that wait at once hold a thread each.
set_option Elab.async false
/-! The laws that every step keeps, and the state after reset, which has them. -/

namespace Sys2Proof.Machine

variable {s t u : State} {i : Instr}

/-! ## A law that every step keeps -/

/-- A law that looks at neither the surroundings, nor the link, nor the flags. -/
structure Inner (law : State → Prop) : Prop where
  outside : ∀ s pending now cl awaited, law s →
    law { s with pending := pending, now := now, cl := cl, mq := { s.mq with awaited := awaited } } := by
      exact fun _ _ _ _ _ h => h
  flags : ∀ s au, law s → law { s with au := au } := by exact fun _ _ h => h
  reset : ∀ s, law (inReset s)
  resetEnd : ∀ s, law s → law (endReset s) := by exact fun _ h => h

theorem kept_of_exec {law : State → Prop} (htick : ∀ s, law s → law s.tick) (hpending : ∀ s q, law s → law (s.withPending q))
    (hexec : ∀ s t i, law s → exec i s = .next t → law t) : Kept law := by
  intro s t hs hstep
  unfold step at hstep
  split at hstep
  · obtain rfl := Host.Outcome.next.inj hstep
    exact htick s hs
  · exact hexec _ _ _ (hpending _ _ hs) hstep

theorem kept {law : State → Prop} (hinner : Inner law) (hlaws : ∀ s t, Laws s t → law s → law t) : Kept law := by
  refine kept_of_exec (fun s h => hinner.outside s s.pending (s.now + 1) s.cl s.mq.awaited h)
    (fun s q h => hinner.outside s q s.now s.cl s.mq.awaited h) fun s t i hs h => ?_
  cases effect_exec h with
  | event hu => exact hlaws _ _ hu hs
  | answered hu r => exact hinner.outside _ _ _ _ _ (hlaws _ _ hu hs)
  | alerts hf r => exact hinner.outside _ _ _ _ _ (hinner.flags _ _ hs)
  | softReset hu mode r => exact hinner.outside _ _ _ _ _ (hinner.flags _ _ (hlaws _ _ hu hs))
  | link hf => exact hinner.outside _ _ _ _ _ hs
  | formed => exact hinner.outside s s.pending s.now (formResponse s.mq.awaited s.cl) none hs
  | reset => exact hinner.reset s
  | resetEnd => exact hinner.resetEnd s hs

/-- Settles O2: only the reset writes the two, and it writes them as they were. -/
theorem execKeepsQueueAndClock : Obligations.ExecKeepsQueueAndClock := by
  intro i s t h
  cases effect_exec h with
  | event hu => exact ⟨hu.outside.1, hu.outside.2.1⟩
  | answered hu r => exact ⟨hu.outside.1, hu.outside.2.1⟩
  | alerts hf r => exact ⟨rfl, rfl⟩
  | softReset hu mode r => exact ⟨hu.outside.1, hu.outside.2.1⟩
  | link hf => exact ⟨rfl, rfl⟩
  | formed => exact ⟨rfl, rfl⟩
  | reset => exact ⟨rfl, rfl⟩
  | resetEnd => exact ⟨rfl, rfl⟩

/-! ## The laws -/

theorem inner_lineLaw : Inner State.LineLaw where
  reset _ := ⟨rfl, rfl, Nat.le_of_ble_eq_true rfl, Nat.le_of_ble_eq_true rfl⟩

/-- Settles O8: the lines change only with the mode, and the light limit only within 40 to 100. -/
theorem linesKept : Obligations.LinesKept := kept inner_lineLaw fun _ _ h => h.lines

theorem inner_budgetLaw : Inner State.BudgetLaw where
  reset _ := ⟨.tail _ (.tail _ (.head _)), Nat.zero_le _⟩

/-- Settles O9: only a dispatch whose units fit the budget raises the units held. -/
theorem budgetKept : Obligations.BudgetKept := kept inner_budgetLaw fun _ _ h => h.budget

theorem inner_queueLaw : Inner State.QueueLaw where
  reset _ := List.nodup_nil

/-- Settles O10: an entry is appended only for an axis that has none. -/
theorem queueKept : Obligations.QueueKept := kept inner_queueLaw fun _ _ h => h.queue

theorem inner_restLaw : Inner State.RestLaw where
  reset _ := .inr (.inr rfl)

/-- Settles O11: entries join in RUN and COOLDOWN, and a change to another mode finds or puts the lens at rest. -/
theorem restKept : Obligations.RestKept := kept inner_restLaw fun _ _ h => h.rest

theorem inner_axisLaw : Inner State.AxisLaw where
  reset s ax := by
    have hax : (inReset s).lens.get ax = resetAxis := by cases ax <;> rfl
    simp [State.moving, hax, resetAxis]

/-- Settles O12: an entry starts on an axis at rest, and a motion's end returns its axis to the state before it. -/
theorem axesKept : Obligations.AxesKept := kept inner_axisLaw fun _ _ h => h.axis

theorem inner_scannerLaw : Inner fun s => s.FastLaw ∧ s.ConverterLaw where
  reset _ := ⟨⟨Iff.intro (fun _ => rfl) fun _ => rfl, Iff.intro nofun nofun⟩, fun _ => rfl⟩

theorem inner_ringLaw : Inner State.RingLaw where
  reset _ sn := by cases sn <;> exact ⟨Nat.zero_le _, nofun, Iff.intro nofun nofun, Nat.zero_le _⟩

/-- Settles O13: the fast list follows the axes at every start and end of a motion and the mode at every change; a free
converter has been granted; and a sample keeps its sensor's ring. -/
theorem scannerKept : Obligations.ScannerKept :=
  ⟨kept inner_scannerLaw fun _ _ h => And.imp h.fast h.converter, kept inner_ringLaw fun _ _ h => h.ring⟩

theorem inner_recallLaw : Inner State.RecallLaw where
  reset _ := ⟨nofun, Iff.intro (fun _ => rfl) fun _ => rfl⟩

/-- Settles O16: every rule of the recall keeps its state and its fields together. -/
theorem recallKept : Obligations.RecallKept := kept inner_recallLaw fun _ _ h => h.recalls

theorem placementLaw_inReset (s : State) : (inReset s).PlacementLaw := by
  refine ⟨fun i r h => ?_, Nat.le_of_ble_eq_true rfl, nofun, nofun⟩
  have hnone : slotAt (inReset s).pt i = none := Vector.getElem_replicate _
  rw [hnone] at h
  cases h

theorem focusLaw_inReset (s : State) : (inReset s).FocusLaw := by
  have hcoefficients : ∀ c ∈ [resetDrift.c0, resetDrift.c1, resetDrift.c2, resetDrift.c3, resetDrift.c4, resetFocus.coef],
      -200 ≤ c ∧ c ≤ 200 := by decide
  have zero : -150 ≤ (0 : Int) ∧ (0 : Int) ≤ 150 := by decide
  exact ⟨hcoefficients, zero.1, zero.2, zero.1, zero.2, nofun, fun ax => by cases ax <;> exact nofun⟩

theorem inner_placementLaw : Inner State.PlacementLaw where
  reset := placementLaw_inReset

theorem inner_focusLaw : Inner fun s => s.PlacementLaw ∧ s.FocusLaw where
  reset s := ⟨placementLaw_inReset s, focusLaw_inReset s⟩

/-- Settles O17: what is stored is clamped, and a retired slot is neither park nor source slot. -/
theorem placementsKept : Obligations.PlacementsKept :=
  ⟨kept inner_placementLaw fun _ _ h => h.placement,
    kept inner_focusLaw fun _ _ h ⟨hplacement, hfocus⟩ => ⟨h.placement hplacement, h.focus hplacement hfocus⟩⟩

theorem resetInputs_sound : resetInputs.Sound :=
  ⟨by unfold Raster.Sound; decide, by unfold Insets.Within; decide⟩

theorem inner_bankLaw : Inner fun s => s.GeometryLaw ∧ s.BankLaw where
  reset _ := ⟨⟨resetInputs_sound, nofun⟩, computeTable_sound resetInputs_sound, nofun⟩

/-- Settles O18: inputs are clamped before a compute copies them, and a table of sound inputs is sound. -/
theorem banksKept : Obligations.BanksKept :=
  kept inner_bankLaw fun _ _ h ⟨hgeometry, hbank⟩ => ⟨h.geometry hgeometry, h.bank hgeometry hbank⟩

theorem inner_capLaw : Inner State.CapLaw where
  reset _ := capLaw_of_not_run nofun

theorem resetCurves_sound (fan : Fan) : (resetCurves.get fan).Sound := by
  unfold Curve.Sound
  cases fan <;> decide

theorem inner_tableLaw : Inner State.TableLaw where
  reset _ := ⟨fun sn => by cases sn <;> exact of_decide_eq_true rfl, fun fan => by
    cases fan <;> exact ⟨resetCurves_sound _, resetCurves_sound _⟩⟩

/-- Settles O19: in RUN the caps are cut again wherever a fan or the quiet level changes, and limits and curves are
stored only in their order. -/
theorem capsKept : Obligations.CapsKept :=
  ⟨kept inner_capLaw fun _ _ h => h.cap, kept inner_tableLaw fun _ _ h => h.table⟩

/-! ## The link and the alert flags -/

/-- Settles O15: a request sets the slot and the state together, and no other command does one without the other. -/
theorem linkKept : Obligations.LinkKept := by
  refine kept_of_exec (fun _ h => h) (fun _ _ h => h) fun s t i hs h => ?_
  have pending (r : Reply) (u : State) : (u.mapCl fun _ => executing r).LinkLaw := Iff.intro (fun _ => ⟨_, rfl⟩) fun _ => rfl
  cases effect_exec h with
  | event hu =>
    unfold State.LinkLaw
    rw [hu.outside.2.2.2]
    exact hs
  | answered hu r => exact pending r _
  | alerts hf r => exact pending r _
  | softReset hu mode r => exact pending r _
  | link hf => exact hf s.cl hs
  | formed =>
    unfold State.LinkLaw State.mapMq State.mapCl formResponse
    dsimp only
    split
    · exact Iff.intro nofun nofun
    · exact hs
    · exact hs
  | reset => exact Iff.intro nofun nofun
  | resetEnd => exact hs

theorem softResetAlerts_sound (mode : Mode) : (softResetAlerts mode).armed &&& (softResetAlerts mode).set
      = (softResetAlerts mode).armed
    ∧ (softResetAlerts mode).armed &&& (softResetAlerts mode).enable = (softResetAlerts mode).armed
    ∧ (softResetAlerts mode).enable &&& flagBit .trip = flagBit .trip := by cases mode <;> decide

theorem alertLaw_change {f : Alerts → Alerts} (hf : AlertChange f) (h : s.AlertLaw) : (s.mapAu f).AlertLaw := by
  obtain ⟨hset, henable, htrip⟩ := h
  have sub (x y : FlagSet) (hxy : x &&& y = x) (k : Nat) : x.getLsbD k = true → y.getLsbD k = true := by
    intro hx
    rw [← hxy, BitVec.getLsbD_and] at hx
    exact (Bool.and_eq_true_iff.mp hx).2
  cases hf with
  | read => exact ⟨hset, henable, htrip⟩
  | ack m =>
    refine ⟨?_, ?_, htrip⟩
    · apply BitVec.eq_of_getLsbD_eq
      intro k hk
      have := sub _ _ hset k
      simp only [State.mapAu, ackIn, BitVec.getLsbD_and]
      grind
    · apply BitVec.eq_of_getLsbD_eq
      intro k hk
      have := sub _ _ henable k
      simp only [State.mapAu, ackIn, BitVec.getLsbD_and]
      grind
  | enable m =>
    refine ⟨?_, ?_, ?_⟩
    · apply BitVec.eq_of_getLsbD_eq
      intro k hk
      have := sub _ _ hset k
      simp only [State.mapAu, enableIn, BitVec.getLsbD_and]
      grind
    · apply BitVec.eq_of_getLsbD_eq
      intro k hk
      have := sub _ _ henable k
      simp only [State.mapAu, BitVec.getLsbD_and, getLsbD_enableIn_armed _ _ hk, getLsbD_enableIn_enable]
      grind
    · apply BitVec.eq_of_getLsbD_eq
      intro k hk
      simp only [State.mapAu, enableIn, BitVec.getLsbD_and, BitVec.getLsbD_or]
      grind

theorem alertLaw_kept : Kept State.AlertLaw := by
  refine kept_of_exec (fun _ h => h) (fun _ _ h => h) fun s t i hs h => ?_
  cases effect_exec h with
  | event hu => exact hu.alert hs
  | answered hu r => exact hu.alert hs
  | alerts hf r => exact alertLaw_change hf hs
  | softReset hu mode r => exact softResetAlerts_sound mode
  | link hf => exact hs
  | formed => exact hs
  | reset => exact softResetAlerts_sound .standby
  | resetEnd => exact hs

/-- An alert request sets no flag (R180 to R182). -/
theorem set_of_alertChange {g : Alerts → Alerts} {a : Alerts} {k : Nat} (hg : AlertChange g)
    (h : (g a).set.getLsbD k = true) : a.set.getLsbD k = true := by
  cases hg with
  | read => exact h
  | ack m =>
    rw [ackIn, BitVec.getLsbD_and] at h
    exact (Bool.and_eq_true_iff.mp h).1
  | enable m => exact h

/-- A soft reset sets no flag but TRIP, in TRIP, which then has occurred (R184). -/
theorem flagged_of_softReset {mode : Mode} {f : Flag} (hau : t.au = softResetAlerts mode)
    (h : t.au.set.getLsbD (flagNumber f) = true) : t.flagged f := by
  rw [hau] at h
  by_cases hmode : mode = .trip
  · subst hmode
    have htrip : f = .trip := by
      cases f
      case trip => rfl
      all_goals exact absurd h (by decide)
    subst htrip
    unfold State.flagged
    rw [hau]
    decide
  · rw [softResetAlerts, if_neg hmode] at h
    simp [resetAlerts] at h

/-- Settles O14: the flags change by occurrences and by the alert requests, each of which keeps the armed flags set and
enabled. -/
theorem alertsKept : Obligations.AlertsKept := by
  refine ⟨alertLaw_kept, fun f s => ⟨flagged_occur_self f s, differ_occurIn f s.au, rfl⟩, ?_, fun s => attentionLow_iff s.au⟩
  intro i s t f _ h hbefore hafter
  have hbefore : ¬s.au.set.getLsbD (flagNumber f) = true := by rw [hbefore]; decide
  have occurred {t : State} (hu : Laws s t) (hset : t.au.set.getLsbD (flagNumber f) = true) : t.flagged f :=
    (hu.occurs f hset).resolve_left hbefore
  cases effect_exec h with
  | event hu => exact occurred hu hafter
  | answered hu r =>
    have hflagged := occurred hu hafter
    exact hflagged
  | alerts hf r => exact absurd (set_of_alertChange hf hafter) hbefore
  | softReset hu mode r => exact flagged_of_softReset rfl hafter
  | link hf => exact absurd hafter hbefore
  | formed => exact absurd hafter hbefore
  | reset => simp [inReset, resetAlerts] at hafter
  | resetEnd => exact absurd hafter hbefore

/-! ## The state after reset -/

/-- Settles O5: the state after reset is the end of a power-on reset, whose state has every law. -/
theorem resetIsSound : Obligations.ResetIsSound := by
  have heq : State.reset = endReset (inReset State.reset) := rfl
  have law {law : State → Prop} (hinner : Inner law) : law State.reset := by
    rw [heq]
    exact hinner.resetEnd _ (hinner.reset _)
  obtain ⟨hfast, hconverter⟩ := law inner_scannerLaw
  obtain ⟨hgeometry, hbank⟩ := law inner_bankLaw
  obtain ⟨hplacement, hfocus⟩ := law inner_focusLaw
  have hlink : State.reset.LinkLaw := Iff.intro nofun nofun
  have halert : State.reset.AlertLaw := softResetAlerts_sound .standby
  exact ⟨law inner_lineLaw, law inner_budgetLaw, law inner_queueLaw, law inner_restLaw, law inner_axisLaw, hfast,
    hconverter, halert, hlink, law inner_recallLaw, hplacement, hgeometry, hbank, law inner_capLaw, law inner_tableLaw,
    law inner_ringLaw, hfocus⟩

end Sys2Proof.Machine
end

section
-- One declaration at a time: many proofs that wait at once hold a thread each.
set_option Elab.async false
/-! MD_WAKE, and the refusals of every request. -/

namespace Sys2Proof.Machine

variable {s t : State} {p : Payload} {r r' : Reply × State}

/-! ## MD_WAKE (R164) -/

theorem setLight_eq (l : Nat) (s : State) : setLight l s = { s with
    cc := { s.cc with light := l }, au := if l ≠ s.cc.light then occurIn .derate s.au else s.au } := by
  rw [setLight, occurIf_au]
  simp only [decide_eq_true_eq]
  rfl

theorem enterStarting_eq (s : State) : enterStarting s = { s with
    mc := { s.mc with mode := .starting, previous := some s.mc.mode, entered := s.now, lightPermit := false
                      thermTrip := false, fanCheck := some (s.now + fanCheckTime) }
    cc := { s.cc with fans := .make fun fan => fanOnStarting (s.cc.fans.get fan), light := 100, windowStart := some s.now }
    scan := scanOnWake s.now s.scan
    au := if 100 ≠ s.cc.light then occurIn .derate (occurIn .modeChange s.au) else occurIn .modeChange s.au } := by
  unfold enterStarting
  dsimp only
  rw [setLight_eq, setMode_eq]
  rfl

theorem flagged_enterStarting : (enterStarting s).flagged .modeChange
    ∧ (s.cc.light ≠ 100 → (enterStarting s).flagged .derate) := by
  have hmode := flagged_occur_self .modeChange s
  rw [enterStarting_eq]
  refine ⟨?_, fun hlight => ?_⟩
  · split
    · exact flagged_of_au (flagged_occur .derate hmode) rfl
    · exact flagged_of_au hmode rfl
  · rw [if_pos hlight.symm]
    exact flagged_of_au (flagged_occur_self .derate (occur .modeChange s)) rfl

/-- Settles O40: `enterStarting`, block by block. -/
theorem wakeStarts : Obligations.WakeStarts := by
  intro s hs
  refine ⟨fun hmode => ?_, fun p hp => request_of_badLength hs (ofLength_of_length_ne hp _), fun hmode => ?_⟩
  · exact request_of_reply hs (Nat.zero_le _) (if_neg hmode)
  · obtain ⟨hchange, hderate⟩ := flagged_enterStarting (s := s)
    refine ⟨enterStarting s, request_of_reply hs (Nat.zero_le _) ?_, ?_⟩
    · have h : mdWake [] s = accept .ok [modeByte (enterStarting s)] (enterStarting s) := if_pos hmode
      have hbyte : modeByte (enterStarting s) = 1 := by rw [modeByte, enterStarting_eq]; rfl
      rw [h, hbyte]
      rfl
    · refine ⟨?_, ?_, ?_, ?_, fun fan => ?_, ?_, ?_, ?_, ?_, ?_, ?_, ?_, hchange, hderate, ?_, ?_, ?_, ?_, ?_, ?_⟩
      case refine_1 => rw [enterStarting_eq, hmode]; rfl
      case refine_5 =>
        rw [enterStarting_eq]
        simp only [PerFan.get_make]
        exact ⟨rfl, rfl, rfl, rfl, rfl, rfl, rfl, rfl⟩
      case refine_13 =>
        rw [enterStarting_eq]
        exact ⟨rfl, rfl, rfl, rfl, rfl, rfl⟩
      all_goals
        rw [enterStarting_eq]
      all_goals
        rfl

/-! ## Refusals (R177) -/

/-- A reply is OK or CLAMPED, or it has no payload and changes nothing (R177). -/
def Refuses (s : State) (r : Reply × State) : Prop := r.1.status = .ok ∨ r.1.status = .clamped ∨ r = refuse r.1.status s

theorem refuses_refuse (st : Status) : Refuses s (refuse st s) := .inr (.inr rfl)

theorem refuses_ok (payload : List Byte) : Refuses s (accept .ok payload t) := .inl rfl

theorem refuses_clampedIf (b : Bool) (payload : List Byte) : Refuses s (accept (clampedIf b) payload t) := by
  cases b
  · exact .inl rfl
  · exact .inr (.inl rfl)

theorem refuses_ite {c : Prop} [Decidable c] (h : Refuses s r) (k : Refuses s r') : Refuses s (if c then r else r') := by
  split <;> assumption

theorem refuses_ofLength {n : Nat} {body : State → Reply × State} (h : Refuses s (body s)) :
    Refuses s (ofLength n p body s) := refuses_ite h (refuses_refuse _)

theorem refuses_withSlot {body : Fin 24 → State → Reply × State} (h : ∀ i, Refuses s (body i s)) :
    Refuses s (withSlot p body s) := by
  unfold withSlot
  split
  · exact refuses_refuse _
  · exact h _

theorem refuses_withReady {body : Fin 24 → Placement → State → Reply × State} (h : ∀ i r, Refuses s (body i r s)) :
    Refuses s (withReady p body s) := by
  refine refuses_withSlot fun i => ?_
  split
  · exact refuses_refuse _
  · exact h _ _

theorem refuses_withAxis {body : Axis → State → Reply × State} (h : ∀ ax, Refuses s (body ax s)) :
    Refuses s (withAxis p body s) := by
  unfold withAxis
  split
  · exact refuses_refuse _
  · exact h _

theorem refuses_withFan {body : Fan → State → Reply × State} (h : ∀ fan, Refuses s (body fan s)) :
    Refuses s (withFan p body s) := by
  unfold withFan
  split
  · exact refuses_refuse _
  · exact h _

theorem refuses_recordChecked {valid : Nat → Bool} {body : State → Reply × State} (h : Refuses s (body s)) :
    Refuses s (recordChecked valid p body s) :=
  refuses_ite (refuses_refuse _) (refuses_ite (refuses_refuse _) (refuses_ite (refuses_refuse _) h))

theorem refuses_storeFrame (i : Fin 24) : Refuses s (storeFrame i p t) := refuses_clampedIf _ _

theorem refuses_plCreate : Refuses s (plCreate p s) := by
  refine refuses_recordChecked ?_
  split
  · exact refuses_ite (refuses_refuse _) (refuses_storeFrame _)
  · split
    · exact refuses_storeFrame _
    · exact refuses_refuse _

theorem refuses_plWrite : Refuses s (plWrite p s) := by
  refine refuses_recordChecked ?_
  split
  · exact refuses_refuse _
  · exact refuses_ite (refuses_refuse _) (refuses_storeFrame _)

theorem refuses_plRecall : Refuses s (plRecall p s) := by
  refine refuses_ofLength (refuses_withSlot fun i => refuses_ite (refuses_refuse _) ?_)
  split
  · exact refuses_refuse _
  · exact refuses_ite (refuses_refuse _) (refuses_ite (refuses_refuse _) (refuses_clampedIf _ _))

theorem refuses_plCapture : Refuses s (plCapture p s) :=
  refuses_ite (refuses_refuse _) (refuses_withSlot fun _ => refuses_ite (refuses_refuse _) (refuses_ite (refuses_refuse _)
    (refuses_ite (refuses_refuse _) (refuses_clampedIf _ _))))

theorem refuses_lnMove : Refuses s (lnMove p s) :=
  refuses_ofLength (refuses_withAxis fun _ => refuses_ite (refuses_refuse _) (refuses_ite (refuses_refuse _)
    (refuses_ite (refuses_refuse _) (refuses_clampedIf _ _))))

theorem refuses_lnJog : Refuses s (lnJog p s) :=
  refuses_ofLength (refuses_withAxis fun _ => refuses_ite (refuses_refuse _) (refuses_ite (refuses_refuse _)
    (refuses_ite (refuses_ok _) (refuses_ite (refuses_ok _) (refuses_ok _)))))

theorem refuses_selected {body : List Axis → Reply × State} (h : ∀ axs, Refuses s (body axs)) (n : Nat) :
    Refuses s (match selected n with
      | none => refuse .badValue s
      | some axs => body axs) := by
  split
  · exact refuses_refuse _
  · exact h _

theorem refuses_gmOrient : Refuses s (gmOrient p s) := by
  refine refuses_ofLength ?_
  split
  · exact refuses_refuse _
  · exact refuses_ite (refuses_refuse _) (refuses_ok _)

theorem refuses_thLimits : Refuses s (thLimits p s) := by
  refine refuses_ofLength ?_
  dsimp only
  split
  · exact refuses_refuse _
  · exact refuses_ite (refuses_clampedIf _ _) (refuses_refuse _)

theorem refuses_thQuery : Refuses s (thQuery p s) := by
  refine refuses_ofLength ?_
  split
  · exact refuses_ok _
  · exact refuses_ite (refuses_ok _) (refuses_refuse _)

theorem refuses_snQuery : Refuses s (snQuery p s) := by
  refine refuses_ofLength ?_
  split
  · exact refuses_ok _
  · exact refuses_ite (refuses_ok _) (refuses_ite (refuses_ok _) (refuses_refuse _))

theorem refuses_masked {body : FlagSet → Reply × State} (h : ∀ m, Refuses s (body m)) :
    Refuses s (match maskOf p with
      | none => refuse .badValue s
      | some m => body m) := by
  split
  · exact refuses_refuse _
  · exact h _

theorem refuses_checked {handler : Payload → State → Reply × State} (h : Refuses s (handler p s)) :
    Refuses s (checked handler p s) := by
  unfold checked
  split
  · exact refuses_refuse _
  · exact h

theorem refuses_replyTo {i : Instr} {f : State → Reply × State} (h : replyTo i = some f) : Refuses s (f s) := by
  cases i
  case unknownRequest code p =>
    rw [replyTo] at h
    split at h
    · obtain rfl := Option.some_inj.mp h
      exact refuses_refuse _
    · cases h
  all_goals
    cases h
  all_goals
    apply refuses_checked
  case plCreate => exact refuses_plCreate
  case plWrite => exact refuses_plWrite
  case plRead => exact refuses_ofLength (refuses_withReady fun _ _ => refuses_ok _)
  case plRetire => exact refuses_ofLength (refuses_withReady fun _ _ => refuses_ok _)
  case plList => exact refuses_ofLength (refuses_withSlot fun _ => refuses_ite (refuses_ok _) (refuses_refuse _))
  case plCapture => exact refuses_plCapture
  case plRecall => exact refuses_plRecall
  case plSetPark => exact refuses_ofLength (refuses_ite (refuses_ok _) (refuses_withReady fun _ _ => refuses_ok _))
  case rcQuery => exact refuses_ofLength (refuses_ok _)
  case lnMove => exact refuses_lnMove
  case lnJog => exact refuses_lnJog
  case lnStop => exact refuses_ofLength (refuses_selected (fun _ => refuses_ok _) _)
  case lnLearn =>
    exact refuses_ofLength (refuses_withAxis fun _ => refuses_ite (refuses_refuse _) (refuses_ite (refuses_refuse _)
      (refuses_ok _)))
  case lnSetRange =>
    exact refuses_ofLength (refuses_withAxis fun _ => refuses_ite (refuses_refuse _) (refuses_ite (refuses_refuse _)
      (refuses_ite (refuses_refuse _) (refuses_ok _))))
  case lnQuery => exact refuses_ofLength (refuses_selected (fun _ => refuses_ok _) _)
  case gmSet => exact refuses_ofLength (refuses_clampedIf _ _)
  case gmNudge => exact refuses_ofLength (refuses_clampedIf _ _)
  case gmQuery => exact refuses_ofLength (refuses_ok _)
  case gmRaster => exact refuses_ofLength (refuses_clampedIf _ _)
  case gmOrient => exact refuses_gmOrient
  case thQuiet => exact refuses_ofLength (refuses_clampedIf _ _)
  case thCurve => exact refuses_ofLength (refuses_withFan fun _ => refuses_ite (refuses_refuse _) (refuses_clampedIf _ _))
  case thMask =>
    exact refuses_ofLength (refuses_withFan fun _ => refuses_ite (refuses_ok _) (refuses_ite (refuses_ok _)
      (refuses_refuse _)))
  case thLimits => exact refuses_thLimits
  case thQuery => exact refuses_thQuery
  case fcTable => exact refuses_ofLength (refuses_clampedIf _ _)
  case fcEnable => exact refuses_ofLength (refuses_ite (refuses_refuse _) (refuses_ok _))
  case fcReference => exact refuses_ofLength (refuses_ok _)
  case snQuery => exact refuses_snQuery
  case mdWake => exact refuses_ofLength (refuses_ite (refuses_ok _) (refuses_refuse _))
  case mdDown => exact refuses_ofLength (refuses_ite (refuses_ok _) (refuses_refuse _))
  case mdClearTrip => exact refuses_ofLength (refuses_ite (refuses_ok _) (refuses_refuse _))
  case mdSoftReset => exact refuses_ofLength (refuses_ok _)
  case mdQuery => exact refuses_ofLength (refuses_ok _)
  case alRead => exact refuses_ofLength (refuses_ok _)
  case alAck => exact refuses_ofLength (refuses_masked fun _ => refuses_ok _)
  case alEnable => exact refuses_ofLength (refuses_masked fun _ => refuses_ok _)

/-- Settles O60: every handler refuses by `refuse`, or answers OK or CLAMPED. -/
theorem refusalsChangeNothing : Obligations.RefusalsChangeNothing := by
  intro i code p s hi hframe hs
  obtain ⟨f, hf⟩ := replyTo_isSome_of_frameOf hi hframe
  refine ⟨_, _, (exec_of_replyTo hf s).trans (takeFrame_of_ready hs f), rfl, rfl, fun hok hclamped => ?_⟩
  have hrefuse := ((refuses_replyTo hf).resolve_left hok).resolve_left hclamped
  generalize f s = reply at hrefuse
  rw [hrefuse]
  rfl

end Sys2Proof.Machine
end

section
-- One declaration at a time: many proofs that wait at once hold a thread each.
set_option Elab.async false
/-! What the lens path leaves of the samples, of the axes that have no entry or that move, and of an entry that waits. -/

namespace Sys2Proof.Machine

variable {s t u : State} {ax b : Axis} {m : Motion} {e : Entry} {st : EndStatus}

/-! ## The samples (R47) -/

/-- The samples of the result table and the round count are the same (R47). -/
structure Sampled (s t : State) : Prop where
  pots : t.scan.pots = s.scan.pots
  supply : t.scan.supply = s.scan.supply
  therms : t.scan.therms = s.scan.therms
  rounds : t.scan.rounds = s.scan.rounds

theorem Sampled.refl (s : State) : Sampled s s := ⟨rfl, rfl, rfl, rfl⟩

theorem Sampled.trans (h : Sampled s t) (k : Sampled t u) : Sampled s u :=
  ⟨k.pots.trans h.pots, k.supply.trans h.supply, k.therms.trans h.therms, k.rounds.trans h.rounds⟩

theorem Sampled.ite {c : Prop} [Decidable c] (h : Sampled s t) (k : Sampled s u) : Sampled s (if c then t else u) := by
  split <;> assumption

theorem Sampled.fold {α : Type} (f : State → α → State) (h : ∀ s a, Sampled s (f s a)) (l : List α) (s : State) :
    Sampled s (l.foldl f s) := by
  induction l generalizing s with
  | nil => exact .refl s
  | cons a l ih => exact (h s a).trans (ih (f s a))

theorem sampled_of_scan (h : t.scan = s.scan) : Sampled s t := by
  constructor <;> rw [h]

theorem sampled_mapMq (f : MotionQueue → MotionQueue) : Sampled s (s.mapMq f) := ⟨rfl, rfl, rfl, rfl⟩

theorem sampled_grant (now : Time) (afterFast : Bool) : Sampled s (s.mapScan (grant now afterFast)) := by
  obtain ⟨-, -, -, htherms, hpots, hsupply, hrounds, -⟩ := grant_frame (now := now) (afterFast := afterFast) (c := s.scan)
  exact ⟨hpots, hsupply, htherms, hrounds⟩

theorem sampled_toTriggered : Sampled s (s.mapScan toTriggered) := by
  unfold State.mapScan toTriggered
  split <;> exact ⟨rfl, rfl, rfl, rfl⟩

theorem sampled_toPeriodic (now : Time) : Sampled s (s.mapScan (toPeriodic now)) := by
  have h := sampled_grant (s := s.mapScan fun c =>
    { c with fastMode := .periodic, nextBurst := some (now + burstPeriod) }) now false
  unfold State.mapScan toPeriodic at *
  split
  · exact ⟨h.pots, h.supply, h.therms, h.rounds⟩
  all_goals exact ⟨rfl, rfl, rfl, rfl⟩

theorem sampled_scanOnStandby (now : Time) : Sampled s (s.mapScan (scanOnStandby now)) := by
  have h := sampled_grant (s := s.mapScan fun c => { c with
    fastMode := .off, nextBurst := none, burstLeft := 0, burstWaiting := false, slowInterval := .one
    nextSlow := some (now + slowIntervalStandby) }) now false
  exact ⟨h.pots, h.supply, h.therms, h.rounds⟩

theorem sampled_endMotion (ax : Axis) (st : EndStatus) : Sampled s (endMotion ax st s) := by
  cases hm : (s.lens.get ax).motion with
  | none => rw [endMotion_none hm]; exact .refl s
  | some m =>
    rw [endMotion_eq hm]
    have hhand : Sampled s (handEnd ax m.job st (s.mapAxis ax (endedAxis m st (s.reading ax)))) :=
      sampled_of_scan (handEnd_frame _ _).1
    exact hhand.trans (.ite (.refl _) (sampled_toPeriodic _))

theorem sampled_applyFate (f : Fate) : Sampled s (applyFate ax f s) := by
  cases f with
  | goes m => exact sampled_of_scan rfl
  | ends st => exact sampled_endMotion _ _

theorem sampled_requestEnd (st : Motion → EndStatus) : Sampled s (requestEnd ax st s) := by
  unfold requestEnd
  split
  · exact .refl s
  · exact sampled_applyFate _

theorem sampled_cutMotion : Sampled s (cutMotion ax s) := by
  unfold cutMotion
  split
  · exact .refl s
  · exact sampled_endMotion _ _

theorem sampled_cutAll : Sampled s (cutAll s) := .fold _ (fun _ _ => sampled_cutMotion) _ _

theorem sampled_startEntry (e : Entry) (rest : List Entry) :
    Sampled s (startEntry e (s.mapMq (takeHead e rest))) := by
  rw [startEntry_takeHead]
  refine .trans ?_ (sampled_applyFate _)
  have hscan := (begun_frame e rest s).2.1
  have h := sampled_toTriggered (s := s)
  exact ⟨hscan ▸ h.pots, hscan ▸ h.supply, hscan ▸ h.therms, hscan ▸ h.rounds⟩

theorem sampled_dispatch : Sampled s (dispatch s) :=
  dispatch_keeps (Sampled s) (fun _ _ _ h _ _ => h.trans (sampled_startEntry _ _)) (.refl s)

theorem sampled_handRemoved (st : EndStatus) (e : Entry) : Sampled s (handRemoved st e s) := by
  unfold handRemoved
  split
  · exact sampled_of_scan (setupOnly_recordRecall _ _ _).scan
  all_goals exact sampled_of_scan rfl

theorem sampled_removeEntry (ax : Axis) (st : EndStatus) : Sampled s (removeEntry ax st s) := by
  unfold removeEntry
  split
  · exact .refl s
  · exact (sampled_mapMq _).trans (sampled_handRemoved _ _)

theorem sampled_clearQueue : Sampled s (clearQueue s) :=
  (sampled_mapMq _).trans (.fold _ (fun _ e => sampled_handRemoved _ e) _ _)

theorem sampled_appendEntry (e : Entry) : Sampled s (appendEntry e s) :=
  (sampled_mapMq _).trans sampled_dispatch

theorem sampled_enterStandby (flagged : Bool) : Sampled s (enterStandby flagged s) := by
  rw [enterStandby_eq]
  refine .trans ?_ sampled_clearQueue
  obtain ⟨c, a, heq⟩ := standbyEntry_eq flagged s
  have h := sampled_scanOnStandby (s := s) s.now
  rw [heq]
  exact ⟨h.pots, h.supply, h.therms, h.rounds⟩

theorem sampled_judgeCooldown (flagged : Bool) : Sampled s (judgeCooldown flagged s) := .ite (sampled_enterStandby _) (.refl s)

theorem sampled_afterLens : Sampled s (afterLens s) := sampled_dispatch.trans (sampled_judgeCooldown _)

theorem reading_eq (h : Sampled s t) (ax : Axis) : t.reading ax = s.reading ax := by
  unfold State.reading
  rw [h.pots]

theorem rawNow_eq (h : Sampled s t) (hnow : t.now = s.now) (ax : Axis) : t.rawNow ax = s.rawNow ax := by
  unfold State.rawNow
  rw [reading_eq h, hnow]

theorem position_eq (h : Sampled s t) (hcal : (t.lens.get ax).cal = (s.lens.get ax).cal) : t.position ax = s.position ax := by
  unfold State.position
  rw [reading_eq h, hcal]

theorem validTemp_eq (h : Sampled s t) (sn : Sensor) : t.validTemp sn = s.validTemp sn := by
  unfold State.validTemp
  rw [h.therms]

/-! ## Axes that dispatch leaves alone (R97) -/

/-- Dispatch leaves an axis without an entry alone. -/
theorem dispatch_get_of_noEntry (h : s.entryOf b = none) : (dispatch s).lens.get b = s.lens.get b := by
  have key := dispatch_keeps (s := s) (fun t => t.entryOf b = none ∧ t.lens.get b = s.lens.get b)
    (fun t e rest ⟨hnone, hget⟩ he _ => by
      have hnone := entryOf_eq_none_iff.mp hnone
      rw [he] at hnone
      refine ⟨entryOf_eq_none_iff.mpr fun x hx => hnone x ?_, ?_⟩
      · rw [startEntry_mq] at hx
        exact List.mem_cons_of_mem _ hx
      · rw [startEntry_get _ _ (hnone e (.head _)).symm]
        exact hget) ⟨h, rfl⟩
  exact key.2

/-- Dispatch leaves a MOVING axis alone. -/
theorem dispatch_get_of_moving (h : s.moving b = true) : (dispatch s).lens.get b = s.lens.get b := by
  refine dispatch_keeps (s := s) (fun t => t.lens.get b = s.lens.get b) (fun t e rest hget _ hcan => ?_) rfl
  have hrest := ((canDispatch_iff t e).mp hcan).2.1
  have hne : b ≠ e.axis := by
    rintro rfl
    unfold State.moving at h hrest
    rw [hget, h] at hrest
    cases hrest
  rw [startEntry_get _ _ hne]
  exact hget

/-! ## An entry that waits, or runs (R97, R98) -/

/-- A motion that goes on has this job; an end is that of a jog at its soft limit or past its deadline (R75, R89). -/
def Fate.Does (job : Job) (cal : Option Calibration) (now : Time) (raw : Raw) : Fate → Prop
  | .goes m => m.job = job
  | .ends st => st = .jogEnd ∧ ∃ up d, job = .jog up d ∧ (atSoftLimit cal up raw = true ∨ d ≤ now)

theorem chooseDuty_job (pos : Nat) (m : Motion) : (chooseDuty pos m).job = m.job := by
  unfold chooseDuty
  dsimp only
  split <;> rfl

theorem startLeg_job (now : Time) (phase : Phase) (target pos : Nat) (m : Motion) :
    (startLeg now phase target pos m).job = m.job := chooseDuty_job _ _

theorem startPositioning_job (ax : Axis) (o : Orientation) (now : Time) (pos target : Nat) (m : Motion) :
    (startPositioning ax o now pos target m).job = m.job := by
  unfold startPositioning
  dsimp only
  split
  · rfl
  · split <;> exact startLeg_job _ _ _ _ _

theorem pauseMotion_job (now : Time) (m : Motion) : (pauseMotion now m).job = m.job := by
  unfold pauseMotion
  split <;> rfl

theorem endRequest_cases (now : Time) (st : EndStatus) (m : Motion) :
    endRequest now st m = .ends st ∧ (m.phase = .settle ∨ m.phase = .paused)
      ∨ endRequest now st m = .goes m ∧ m.phase = .brake
      ∨ endRequest now st m = .goes (enterBrake now st m) ∧ driveOn m.phase = true := by
  unfold endRequest
  cases m.phase <;> simp [driveOn]

theorem firstPhase_does (ax : Axis) (o : Orientation) (cal : Option Calibration) (now : Time) (raw : Raw) (m : Motion) :
    (firstPhase ax o cal now raw m).Does m.job cal now raw := by
  cases hjob : m.job with
  | jog up d =>
    rw [firstPhase, hjob]
    dsimp only
    split
    · exact ⟨rfl, up, d, rfl, .inl ‹_›⟩
    · rfl
  | learn => rw [firstPhase, hjob]; rfl
  | move _ => rw [firstPhase, hjob]; exact (startPositioning_job _ _ _ _ _ _).trans hjob
  | ofRecall _ _ => rw [firstPhase, hjob]; exact (startPositioning_job _ _ _ _ _ _).trans hjob
  | trim _ => rw [firstPhase, hjob]; exact (startPositioning_job _ _ _ _ _ _).trans hjob
  | park _ => rw [firstPhase, hjob]; exact (startPositioning_job _ _ _ _ _ _).trans hjob

theorem afterDeadline_does (cal : Option Calibration) (now : Time) (raw : Raw) (m : Motion) :
    (afterDeadline now m).Does m.job cal now raw := by
  cases hjob : m.job with
  | jog up d =>
    rw [afterDeadline, hjob]
    dsimp only
    split
    · next hd =>
      obtain ⟨h, -⟩ | ⟨h, -⟩ | ⟨h, -⟩ := endRequest_cases now .jogEnd m
      · rw [h]; exact ⟨rfl, up, d, rfl, .inr hd⟩
      · rw [h]; exact hjob
      · rw [h]; exact hjob
    · exact hjob
  | learn => rw [afterDeadline, hjob]; exact hjob
  | move _ => rw [afterDeadline, hjob]; exact hjob
  | ofRecall _ _ => rw [afterDeadline, hjob]; exact hjob
  | trim _ => rw [afterDeadline, hjob]; exact hjob
  | park _ => rw [afterDeadline, hjob]; exact hjob

/-- A dispatched entry's motion has its job, unless it is a jog that ends at once (R61, R75, R89). -/
theorem dispatchMotion_does (ax : Axis) (o : Orientation) (cal : Option Calibration) (now : Time) (raw : Raw) (low : Bool)
    (ret : AxisState) (job : Job) : (dispatchMotion ax o cal now raw low ret job).Does job cal now raw := by
  have hfirst := firstPhase_does ax o cal now raw (newMotion now ret job)
  unfold dispatchMotion
  cases hf : firstPhase ax o cal now raw (newMotion now ret job) with
  | ends st => rw [hf] at hfirst; exact hfirst
  | goes m =>
    rw [hf] at hfirst
    have hjob : (if low then pauseMotion now m else m).job = job := by
      split
      · exact (pauseMotion_job _ _).trans hfirst
      · exact hfirst
    have h := afterDeadline_does cal now raw (if low then pauseMotion now m else m)
    rw [hjob] at h
    exact h

/-- An entry waits, or a motion with its job runs. -/
def Waits (e : Entry) (s : State) : Prop := e ∈ s.mq.entries ∨ ∃ m, (s.lens.get e.axis).motion = some m ∧ m.job = e.job

theorem Waits.has (h : Waits e s) : s.Has e.axis e.job := h.imp_left fun h => ⟨e, h, rfl, rfl⟩

theorem applyFate_goes_get (ax : Axis) (m : Motion) :
    (applyFate ax (.goes m) s).lens.get ax = { s.lens.get ax with motion := some m } := by
  simp [applyFate, State.mapAxis]

/-- An entry that is no jog waits or runs after dispatch. -/
theorem waits_dispatch (hjob : ∀ up d, e.job ≠ .jog up d) (h : Waits e s) : Waits e (dispatch s) := by
  refine dispatch_keeps (Waits e) (fun t x rest hwaits hentries hcan => ?_) h
  obtain hwaits | ⟨m, hm, hmjob⟩ := hwaits
  · rw [hentries] at hwaits
    rcases List.mem_cons.mp hwaits with rfl | hrest
    · right
      rw [startEntry_takeHead]
      have hdoes := dispatchMotion_does e.axis t.ge.orient (t.lens.get e.axis).cal t.now (t.rawNow e.axis) t.supplyIsLow
        (t.lens.get e.axis).state e.job
      cases hfate : entryFate e t with
      | goes m => rw [entryFate] at hfate; rw [hfate] at hdoes; exact ⟨m, by rw [applyFate_goes_get], hdoes⟩
      | ends st =>
        rw [entryFate] at hfate
        rw [hfate] at hdoes
        obtain ⟨-, up, d, hjog, -⟩ := hdoes
        exact absurd hjog (hjob up d)
    · left
      rw [startEntry_mq]
      exact hrest
  · right
    have hne : e.axis ≠ x.axis := by
      intro heq
      have := ((canDispatch_iff t x).mp hcan).2.1
      rw [State.moving, ← heq, hm] at this
      cases this
    rw [startEntry_get _ _ hne]
    exact ⟨m, hm, hmjob⟩

end Sys2Proof.Machine
end

section
-- One declaration at a time: many proofs that wait at once hold a thread each.
set_option Elab.async false
/-! The end of a motion, as the statements say it: what the Active Setup, the Focus Compensator and the fast list take of
it, and the end of a cooldown. -/

namespace Sys2Proof.Machine

variable {s t u : State} {ax b : Axis} {m : Motion} {e : Entry} {st : EndStatus} {rc : Recall} {now : Time}

/-! ## The recall in flight (R30, R31) -/

theorem allEnded_iff (r : Recall) : allEnded r = true ↔ ∀ b, unfinished (r.progress.get b) = false := by
  unfold allEnded
  rw [List.all_eq_true]
  exact ⟨fun h b => by simpa using h b (mem_axes b), fun h b _ => by simpa using h b⟩

theorem phaseOutcome_eq (r : Recall) :
    (∀ b, r.progress.get b = .notNamed ∨ r.progress.get b = .ended .arrived) ∧ phaseOutcome r = .complete
      ∨ (¬∀ b, r.progress.get b = .notNamed ∨ r.progress.get b = .ended .arrived) ∧ phaseOutcome r = .partly := by
  have hall : (axes.all fun ax => r.progress.get ax = .notNamed || r.progress.get ax = .ended .arrived) = true
      ↔ ∀ b, r.progress.get b = .notNamed ∨ r.progress.get b = .ended .arrived := by
    rw [List.all_eq_true]
    exact ⟨fun h b => by simpa using h b (mem_axes b), fun h b _ => by simpa using h b⟩
  unfold phaseOutcome
  by_cases h : ∀ b, r.progress.get b = .notNamed ∨ r.progress.get b = .ended .arrived
  · exact .inl ⟨h, if_pos (hall.mpr h)⟩
  · exact .inr ⟨h, if_neg fun hc => h (hall.mp hc)⟩

/-- The recall in flight counts an end of a tag on an axis (R30). -/
def Counts (s : State) (ax : Axis) (tag : Nat) (rc : Recall) : Prop :=
  s.setup.recallState = .moving ∧ rc.tag = tag ∧ unfinished (rc.progress.get ax) = true

theorem recordRecall_counts {tag : Nat} (hcurrent : s.setup.current = some rc) (h : Counts s ax tag rc) :
    recordRecall ax tag st s =
      let r := { rc with progress := rc.progress.set ax (.ended st) }
      if allEnded r then axisPhaseEnd r (s.mapSetup fun a => { a with current := some r })
      else s.mapSetup fun a => { a with current := some r } := by
  obtain ⟨hstate, htag, hun⟩ := h
  unfold recordRecall
  rw [hcurrent]
  exact if_pos (by simp [hstate, htag, hun])

theorem recordRecall_not_counts {tag : Nat} (h : ∀ rc, s.setup.current = some rc → ¬Counts s ax tag rc) :
    recordRecall ax tag st s = s := by
  unfold recordRecall
  cases hcurrent : s.setup.current with
  | none => rfl
  | some rc =>
    refine if_neg fun hc => h rc hcurrent ?_
    simpa [Counts, and_assoc] using hc

/-- The axis phase's end is that of R31, where its last status has been recorded. -/
theorem axisPhaseEnd_none (r : Recall) (h : s.setup.pendingGeometry = none) : ∃ a,
    axisPhaseEnd r (s.mapSetup fun a => { a with current := some r }) = { s with
      au := occurIn .recallDone a
      setup := { s.setup with
        modified := s.setup.modified || phaseOutcome r = .partly, report := some (reportOf (phaseOutcome r) r)
        current := none, recallState := .none, pendingGeometry := none } } := by
  refine ⟨s.au, ?_⟩
  unfold axisPhaseEnd
  dsimp only [State.mapSetup]
  rw [h, endRecall_eq]
  rfl

theorem axisPhaseEnd_some {g : Insets} (r : Recall) (h : s.setup.pendingGeometry = some g) :
    axisPhaseEnd r (s.mapSetup fun a => { a with current := some r }) = { s with
      setup := { s.setup with
        modified := s.setup.modified || phaseOutcome r = .partly, recallState := .applying, pendingGeometry := none
        current := some { r with applied := true, outcome := some (phaseOutcome r) } }
      ge := { s.ge with active := reclamp s.ge.raster g
                        staged := .computing ⟨reclamp s.ge.raster g, s.ge.raster, s.ge.orient⟩ } } := by
  unfold axisPhaseEnd
  dsimp only [State.mapSetup]
  rw [h]
  rfl

/-- A status that the recall counts is recorded as R30 and R31 say. -/
theorem recorded_recordRecall {tag : Nat} (hcurrent : s.setup.current = some rc) (h : Counts s ax tag rc) :
    Recorded ax st rc s (recordRecall ax tag st s) := by
  rw [recordRecall_counts hcurrent h]
  have hall := allEnded_iff { rc with progress := rc.progress.set ax (.ended st) }
  dsimp only
  split
  · next hended =>
    refine ⟨fun ⟨b, hb⟩ => ?_, fun _ => ⟨_, phaseOutcome_eq _, ?_⟩⟩
    · exact absurd hb (Bool.eq_false_iff.mp (hall.mp hended b))
    · cases hgeometry : s.setup.pendingGeometry with
      | none =>
        obtain ⟨a, heq⟩ := axisPhaseEnd_none (s := s) { rc with progress := rc.progress.set ax (.ended st) } hgeometry
        rw [heq]
        exact ⟨rfl, rfl, fun _ => ⟨rfl, rfl, rfl, flagged_of_au (flagged_occur_self .recallDone { s with au := a }) rfl, rfl⟩,
          nofun⟩
      | some g =>
        rw [axisPhaseEnd_some _ hgeometry]
        exact ⟨rfl, rfl, nofun, fun g' hg' => by obtain rfl := Option.some_inj.mp hg'; exact ⟨rfl, rfl, rfl⟩⟩
  · next hnot =>
    exact ⟨fun _ => ⟨rfl, h.1, rfl, rfl, rfl⟩, fun hended => absurd (hall.mpr hended) hnot⟩

/-- Besides the reference temperature, a later state holds the same setup and banks, and every flag that has occurred. -/
structure SetupStays (v t : State) : Prop where
  setup : t.setup = { v.setup with tref := t.setup.tref }
  ge : t.ge = v.ge
  flagged : ∀ f, v.flagged f → t.flagged f

theorem SetupStays.current {v : State} (h : SetupStays v t) : t.setup.current = v.setup.current
    ∧ t.setup.recallState = v.setup.recallState ∧ t.setup.pendingGeometry = v.setup.pendingGeometry
    ∧ t.setup.modified = v.setup.modified ∧ t.setup.report = v.setup.report ∧ t.setup.base = v.setup.base := by
  have hsetup := h.setup
  generalize t.setup.tref = x at hsetup
  rw [hsetup]
  exact ⟨rfl, rfl, rfl, rfl, rfl, rfl⟩

theorem Recorded.stays {v : State} (h : Recorded ax st rc s v) (hstays : SetupStays v t) : Recorded ax st rc s t := by
  obtain ⟨hcurrent, hstate, hpending, hmodified, hreport, -⟩ := hstays.current
  unfold Recorded at *
  rw [hcurrent, hstate, hpending, hmodified, hreport, hstays.ge]
  refine ⟨h.1, fun hall => ?_⟩
  obtain ⟨o, ho, hm, hp, hnone, hsome⟩ := h.2 hall
  refine ⟨o, ho, hm, hp, fun hg => ?_, hsome⟩
  obtain ⟨h1, h2, h3, hflag, h4⟩ := hnone hg
  exact ⟨h1, h2, h3, hstays.flagged _ hflag, h4⟩

/-! ## What the Active Setup takes (R73, R75) -/

theorem recordRecall_base {tag : Nat} : (recordRecall ax tag st s).setup.base = s.setup.base
    ∧ (recordRecall ax tag st s).setup.tref = s.setup.tref := by
  have hphase (r : Recall) (u : State) : (axisPhaseEnd r u).setup.base = u.setup.base
      ∧ (axisPhaseEnd r u).setup.tref = u.setup.tref := by
    unfold axisPhaseEnd
    dsimp only
    split
    · rw [endRecall_eq]
      exact ⟨rfl, rfl⟩
    · exact ⟨rfl, rfl⟩
  unfold recordRecall
  split
  · exact ⟨rfl, rfl⟩
  · dsimp only
    split
    · split
      · exact hphase _ _
      · exact ⟨rfl, rfl⟩
    · exact ⟨rfl, rfl⟩

theorem setupEnd_tref (cal : Option Calibration) (job : Job) : (setupEnd ax cal job st s).setup.tref = s.setup.tref := by
  cases job with
  | ofRecall _ tag => exact recordRecall_base.2
  | jog _ _ =>
    show (jogBase ax cal st s).setup.tref = _
    cases cal with
    | none => rfl
    | some c => rw [jogBase]; split <;> rfl
  | move _ => rfl
  | trim _ => rfl
  | park _ => rfl
  | learn => rfl

/-- A jog's end sets the base target, unless it is RETARGETED or without a calibration (R75). -/
theorem jogBase_eq (cal : Option Calibration) : jogBase ax cal st s = s ∧ (st = .retargeted ∨ cal = none)
    ∨ ∃ c, cal = some c ∧ st ≠ .retargeted
      ∧ jogBase ax cal st s = s.mapSetup fun a => { a with base := a.base.set ax (some (normalise c (s.rawNow ax))) } := by
  cases cal with
  | none => exact .inl ⟨rfl, .inr rfl⟩
  | some c =>
    by_cases h : st = .retargeted
    · exact .inl ⟨if_pos h, .inl h⟩
    · exact .inr ⟨c, rfl, h, if_neg h⟩

/-- The Active Setup takes a motion's end as R30, R73 and R75 say. -/
theorem setupHears_setupEnd (hcal : (t.lens.get ax).cal = (u.lens.get ax).cal) (hraw : t.rawNow ax = u.rawNow ax)
    (hsame : u.setup = s.setup ∧ u.ge = s.ge) (h : SetupStays (setupEnd ax (u.lens.get ax).cal m.job st u) t) :
    SetupHears ax m st s t := by
  obtain ⟨hsetup, hge⟩ := hsame
  have hcounts (tag : Nat) (rc : Recall) : Counts u ax tag rc ↔
      s.setup.recallState = .moving ∧ rc.tag = tag ∧ unfinished (rc.progress.get ax) = true := by
    rw [Counts, hsetup]
  have hnotJog (hjob : ∀ up d, m.job ≠ .jog up d) {base : PerAxis (Option Nat)} (hbase : t.setup.base = base) :
      (∀ up d c, m.job = .jog up d → st ≠ .retargeted → (t.lens.get ax).cal = some c →
          t.setup.base.get ax = some (normalise c (t.rawNow ax)))
        ∧ ((∀ up d, m.job ≠ .jog up d) ∨ st = .retargeted ∨ (t.lens.get ax).cal = none →
          t.setup.base.get ax = base.get ax) :=
    ⟨fun up d _ hj => absurd hj (hjob up d), fun _ => by rw [hbase]⟩
  have hidle (htag : jobTag m.job = none) (hjob : ∀ up d, m.job ≠ .jog up d) (hstays : SetupStays u t) :
      SetupHears ax m st s t := by
    obtain ⟨hcurrent, hstate, -, hmodified, hreport, hbase⟩ := hstays.current
    rw [hsetup] at hcurrent hstate hmodified hreport hbase
    refine ⟨fun rc _ hc => ?_, fun _ => ⟨hcurrent, hstate, hreport, hmodified, hstays.ge.trans hge⟩,
      fun b _ => by rw [hbase], hnotJog hjob hbase⟩
    rw [htag] at hc
    cases hc.1
  cases hjob : m.job with
  | ofRecall target tag =>
    rw [hjob] at h
    have h : SetupStays (recordRecall ax tag st u) t := h
    obtain ⟨hcurrent, hstate, -, hmodified, hreport, hbase⟩ := h.current
    rw [recordRecall_base.1, hsetup] at hbase
    refine ⟨fun rc hrc hc => ?_, fun hno => ?_, fun b _ => by rw [hbase], hnotJog (by simp [hjob]) hbase⟩
    · rw [hjob] at hc
      obtain ⟨htag, hmoving, hun⟩ := hc
      obtain rfl := Option.some_inj.mp htag
      have hrec := recorded_recordRecall (s := u) (st := st) (by rw [hsetup]; exact hrc)
        ((hcounts rc.tag rc).mpr ⟨hmoving, rfl, hun⟩)
      have hrec := hrec.stays h
      unfold Recorded at hrec ⊢
      rwa [hsetup, hge] at hrec
    · have hsame := recordRecall_not_counts (s := u) (ax := ax) (st := st) (tag := tag) fun rc hrc hc => by
        rw [hsetup] at hrc
        obtain ⟨hmoving, htag, hun⟩ := (hcounts tag rc).mp hc
        exact hno rc hrc ⟨by rw [hjob, htag]; rfl, hmoving, hun⟩
      rw [hsame, hsetup] at hcurrent hstate hmodified hreport
      exact ⟨hcurrent, hstate, hreport, hmodified, h.ge.trans (by rw [hsame, hge])⟩
  | jog up d =>
    rw [hjob] at h
    have h : SetupStays (jogBase ax (u.lens.get ax).cal st u) t := h
    obtain ⟨hcurrent, hstate, -, hmodified, hreport, hbase⟩ := h.current
    have hge' := h.ge
    have htag : ∀ rc : Recall, jobTag m.job ≠ some rc.tag := by
      rw [hjob]
      exact fun _ h => nomatch h
    obtain ⟨heq, hwhy⟩ | ⟨c, hc, hst, heq⟩ := jogBase_eq (s := u) (ax := ax) (st := st) (u.lens.get ax).cal
    · rw [heq] at hcurrent hstate hmodified hreport hbase hge'
      rw [hsetup] at hcurrent hstate hmodified hreport hbase
      refine ⟨fun rc _ hc => absurd hc.1 (htag rc), fun _ => ⟨hcurrent, hstate, hreport, hmodified, hge'.trans hge⟩,
        fun b _ => by rw [hbase], fun _ _ c _ hne hc => ?_, fun _ => by rw [hbase]⟩
      rw [hcal] at hc
      exact hwhy.elim (absurd · hne) fun hnone => nomatch hnone.symm.trans hc
    · rw [heq] at hcurrent hstate hmodified hreport hbase hge'
      have hbase : t.setup.base = s.setup.base.set ax (some (normalise c (u.rawNow ax))) := by
        rw [hbase, ← hsetup]
        rfl
      have hcurrent : t.setup.current = s.setup.current := by rw [hcurrent, ← hsetup]; rfl
      have hstate : t.setup.recallState = s.setup.recallState := by rw [hstate, ← hsetup]; rfl
      have hmodified : t.setup.modified = s.setup.modified := by rw [hmodified, ← hsetup]; rfl
      have hreport : t.setup.report = s.setup.report := by rw [hreport, ← hsetup]; rfl
      refine ⟨fun rc _ hc => absurd hc.1 (htag rc), fun _ => ⟨hcurrent, hstate, hreport, hmodified, hge'.trans hge⟩,
        fun b hb => by rw [hbase, PerAxis.get_set, if_neg hb], fun _ _ c' _ _ hc' => ?_, fun hor => ?_⟩
      · rw [hcal, hc] at hc'
        obtain rfl := Option.some_inj.mp hc'
        rw [hbase, PerAxis.get_set, if_pos rfl, hraw]
      · rcases hor with hno | hretargeted | hnone
        · exact absurd hjob (hno up d)
        · exact absurd hretargeted hst
        · rw [hcal, hc] at hnone
          cases hnone
  | move _ => exact hidle (by rw [hjob]; rfl) (by simp [hjob]) (by rw [hjob] at h; exact h)
  | trim _ => exact hidle (by rw [hjob]; rfl) (by simp [hjob]) (by rw [hjob] at h; exact h)
  | park _ => exact hidle (by rw [hjob]; rfl) (by simp [hjob]) (by rw [hjob] at h; exact h)
  | learn => exact hidle (by rw [hjob]; rfl) (by simp [hjob]) (by rw [hjob] at h; exact h)

/-! ## What the Focus Compensator takes (R103, R107) -/

/-- The Focus Compensator takes a FOCUS motion's end as R103 and R107 say. -/
theorem focusHears_focusEnd {v : State} (hv : v.fc = s.fc ∧ v.setup.tref = s.setup.tref)
    (htemp : v.validTemp .s3 = s.validTemp .s3) (hfc : t.fc = (focusEnd m.job st v).fc)
    (htref : t.setup.tref = (focusEnd m.job st v).setup.tref) : FocusHears m st s t := by
  obtain ⟨hvfc, hvtref⟩ := hv
  unfold FocusHears
  rw [hfc, htref, ← hvfc, ← hvtref, ← htemp]
  cases m.job with
  | move _ => dsimp only [focusEnd]; split <;> exact ⟨rfl, rfl⟩
  | ofRecall _ _ => dsimp only [focusEnd]; split <;> exact ⟨rfl, rfl⟩
  | trim _ =>
    dsimp only [focusEnd]
    refine ⟨rfl, ?_⟩
    by_cases h : st = .arrived <;> simp [h, State.mapFc, trimArrived]
  | jog _ _ => dsimp only [focusEnd]; split <;> exact ⟨rfl, rfl⟩
  | park _ => exact ⟨rfl, rfl⟩
  | learn => exact ⟨rfl, rfl⟩

theorem focusEnd_stays (job : Job) : SetupStays s (focusEnd job st s) := by
  cases job with
  | move _ => unfold focusEnd; dsimp only; split <;> exact ⟨rfl, rfl, fun _ h => h⟩
  | ofRecall _ _ => unfold focusEnd; dsimp only; split <;> exact ⟨rfl, rfl, fun _ h => h⟩
  | trim _ => exact ⟨rfl, rfl, fun _ h => h⟩
  | jog _ _ => unfold focusEnd; dsimp only; split <;> exact ⟨rfl, rfl, fun _ h => h⟩
  | park _ => exact ⟨rfl, rfl, fun _ h => h⟩
  | learn => exact ⟨rfl, rfl, fun _ h => h⟩

theorem SetupStays.trans {v w : State} (h : SetupStays v t) (k : SetupStays t w) : SetupStays v w where
  setup := by rw [k.setup, h.setup]
  ge := k.ge.trans h.ge
  flagged f hf := k.flagged f (h.flagged f hf)

theorem setupStays_occurIf (c : Bool) (f : Flag) : SetupStays s (occurIf c f s) where
  setup := by rw [occurIf_au]; rfl
  ge := by rw [occurIf_au]; rfl
  flagged _ h := flagged_occurIf _ _ h

theorem setupStays_settleFastMode : SetupStays s (settleFastMode s) := by
  unfold settleFastMode
  split <;> exact ⟨rfl, rfl, fun _ h => h⟩

end Sys2Proof.Machine
end

section
-- One declaration at a time: many proofs that wait at once hold a thread each.
set_option Elab.async false
/-! A motion ends, dispatch runs and a cooldown may end: `Ended`, and the timers of the lens. -/

namespace Sys2Proof.Machine

variable {s t u : State} {ax b : Axis} {m m' : Motion} {e : Entry} {st : EndStatus}

/-! ## Dispatch and the lens at rest -/

theorem dispatch_nil (h : s.mq.entries = []) : dispatch s = s := by
  rw [dispatch, h]
  rfl

theorem moving_dispatch (h : s.moving b = true) : (dispatch s).moving b = true := by
  rw [State.moving, dispatch_get_of_moving h]
  exact h

theorem not_rest_of_moving (h : s.moving b = true) : s.lensAtRest ≠ true := fun hrest => by
  have := (lensAtRest_iff.mp hrest).1
  rw [anyMoving_iff.mpr ⟨b, h⟩] at this
  cases this

theorem not_rest_of_waits (h : Waits e s) : s.lensAtRest ≠ true := by
  obtain h | ⟨m, hm, -⟩ := h
  · exact fun hrest => by
      rw [(lensAtRest_iff.mp hrest).2] at h
      cases h
  · exact not_rest_of_moving (b := e.axis) (by rw [State.moving, hm]; rfl)

theorem judgeCooldown_stays {flagged : Bool} (h : ¬(s.mc.mode = .cooldown ∧ s.mc.thermalDone = true ∧ s.lensAtRest = true)) :
    judgeCooldown flagged s = s := if_neg fun hc => h (by simpa [and_assoc] using hc)

theorem judgeCooldown_ends {flagged : Bool} (h : s.mc.mode = .cooldown ∧ s.mc.thermalDone = true ∧ s.lensAtRest = true) :
    judgeCooldown flagged s = enterStandby flagged s := if_pos (by simpa [and_assoc] using h)

/-! ## The end of a cooldown (R167) -/

theorem clearQueue_nil (h : s.mq.entries = []) : clearQueue s = s.mapMq (dropEntries fun _ => true) := by
  rw [clearQueue, h]
  rfl

theorem enterStandby_nil (flagged : Bool) (h : s.mq.entries = []) : enterStandby flagged s = { s with
    mc := { s.mc with mode := .standby, previous := some s.mc.mode, entered := s.now, lightPermit := false
                      thermTrip := false, cooldown := none }
    cc := { s.cc with fans := .make fun fan => fanOnStandby (s.cc.fans.get fan) }
    scan := scanOnStandby s.now s.scan
    mq := dropEntries (fun _ => true) s.mq
    au := if flagged then occurIn .modeChange s.au else s.au } := by
  have hentries : (standbyEntry flagged s).mq.entries = [] := by
    obtain ⟨c, a, heq⟩ := standbyEntry_eq flagged s
    rw [heq]
    exact h
  rw [enterStandby_eq, clearQueue_nil hentries, standbyEntry, setMode_eq]
  rfl

theorem lens_of_enterStandby_nil (flagged : Bool) (h : s.mq.entries = []) :
    (enterStandby flagged s).lens = s.lens ∧ (enterStandby flagged s).setup = s.setup
      ∧ (enterStandby flagged s).ge = s.ge ∧ (enterStandby flagged s).fc = s.fc := by
  rw [enterStandby_nil flagged h]
  exact ⟨rfl, rfl, rfl, rfl⟩

/-- The entry to STANDBY with the lens at rest is the end of a cooldown (R167). -/
theorem cooledDown_enterStandby (hmc : { u.mc with cooldown := none, thermalDone := true }
      = { s.mc with cooldown := none, thermalDone := true }) (hdone : u.mc.thermalDone = true)
    (hmode : s.mc.mode = .cooldown) (hlight : u.cc.light = s.cc.light)
    (hfans : ∀ fan, (u.cc.fans.get fan).faulted = (s.cc.fans.get fan).faulted
      ∧ (u.cc.fans.get fan).low = (s.cc.fans.get fan).low ∧ (u.cc.fans.get fan).good = (s.cc.fans.get fan).good)
    (houter : Outer s u) (hrest : u.lensAtRest = true) : CooledDown s (enterStandby true u) := by
  have hentries := (lensAtRest_iff.mp hrest).2
  have hmode' : u.mc.mode = .cooldown := (congrArg ModeController.mode hmc).trans hmode
  obtain ⟨hslow, hburst, hfast, -, -, -, -, hinterval⟩ := grant_frame (now := u.now) (afterFast := false)
    (c := { u.scan with fastMode := .off, nextBurst := none, burstLeft := 0, burstWaiting := false, slowInterval := .one
                        nextSlow := some (u.now + slowIntervalStandby) })
  have hnow := houter.now
  obtain ⟨hpending, -, hheld, hpt, hlp, hcl⟩ := houter
  rw [enterStandby_nil true hentries]
  refine ⟨?_, ?_, ?_, hlight, fun fan => ?_, hfast, hburst, hinterval, ?_, hpending, hnow, hheld, hpt, hlp, hcl⟩
  · dsimp only
    rw [hmode', hnow, ← hdone]
    have hrecord : ∀ a b : ModeController, { a with cooldown := none, thermalDone := true }
        = { b with cooldown := none, thermalDone := true } → a.thermalDone = true → ∀ (mo : Mode) (pr : Option Mode)
        (en : Time), { a with mode := mo, previous := pr, entered := en, lightPermit := false, thermTrip := false
                              cooldown := none }
          = { b with mode := mo, previous := pr, entered := en, cooldown := none, thermalDone := true, lightPermit := false
                     thermTrip := false } := by
      rintro ⟨⟩ ⟨⟩ hab hd mo pr en
      simp_all
    exact (hrecord u.mc s.mc hmc hdone _ _ _).trans (by rw [hdone])
  · refine lensAtRest_iff.mpr ⟨(lensAtRest_iff.mp hrest).1, ?_⟩
    simp [hentries]
  · exact flagged_of_au (flagged_occur_self .modeChange u) rfl
  · obtain ⟨hfaulted, hlow, hgood⟩ := hfans fan
    simp only [PerFan.get_make]
    exact ⟨rfl, rfl, rfl, rfl, rfl, rfl, hfaulted, hlow, hgood⟩
  · exact hslow.trans (by rw [hnow]; rfl)

/-! ## The end of a motion, with what follows -/

/-- The state in which the end of a motion is handed on. -/
def endedState (ax : Axis) (m : Motion) (st : EndStatus) (s : State) : State := s.mapAxis ax (endedAxis m st (s.reading ax))

theorem handEnd_stays (job : Job) : SetupStays (setupEnd ax (u.lens.get ax).cal job st u) (handEnd ax job st u) := by
  unfold handEnd
  refine .trans ?_ ((setupStays_occurIf true .motionEnd).trans (setupStays_occurIf _ _))
  split
  · exact focusEnd_stays job
  · exact ⟨rfl, rfl, fun _ h => h⟩

theorem endMotion_stays (hm : (s.lens.get ax).motion = some m) : SetupStays (setupEnd ax ((endedState ax m st s).lens.get ax).cal
    m.job st (endedState ax m st s)) (endMotion ax st s) := by
  rw [endMotion_eq hm]
  exact (handEnd_stays m.job).trans setupStays_settleFastMode

theorem endMotion_fc (hm : (s.lens.get ax).motion = some m) :
    if ax = .focus then FocusHears m st s (endMotion ax st s)
    else (endMotion ax st s).fc = s.fc ∧ (endMotion ax st s).setup.tref = s.setup.tref := by
  have hsettle (w : State) : (settleFastMode w).fc = w.fc ∧ (settleFastMode w).setup = w.setup := by
    unfold settleFastMode
    split <;> exact ⟨rfl, rfl⟩
  have hflag (c : Bool) (f : Flag) (w : State) : (occurIf c f w).fc = w.fc ∧ (occurIf c f w).setup = w.setup := by
    rw [occurIf_au]
    exact ⟨rfl, rfl⟩
  have hfc : ((setupEnd ax ((endedState ax m st s).lens.get ax).cal m.job st (endedState ax m st s))).fc = s.fc :=
    (setupOnly_setupEnd _ _ _ _).fc
  have htref : ((setupEnd ax ((endedState ax m st s).lens.get ax).cal m.job st (endedState ax m st s))).setup.tref
      = s.setup.tref := setupEnd_tref _ _
  rw [endMotion_eq hm, handEnd]
  split
  · next hax =>
    refine focusHears_focusEnd ⟨hfc, htref⟩ ?_ ?_ ?_
    · exact validTemp_eq (sampled_of_scan (setupOnly_setupEnd _ _ _ _).scan) _
    · rw [(hsettle _).1, (hflag _ _ _).1]; rfl
    · rw [(hsettle _).2, (hflag _ _ _).2]; rfl
  · next hax =>
    rw [(hsettle _).1, (hsettle _).2, (hflag _ _ _).1, (hflag _ _ _).2]
    exact ⟨hfc, htref⟩

theorem flagged_endMotion (hm : (s.lens.get ax).motion = some m) : (endMotion ax st s).flagged .motionEnd
    ∧ (st = .stalled ∨ st = .timeout → (endMotion ax st s).flagged .axisFault) := by
  rw [endMotion_eq hm, handEnd]
  refine ⟨setupStays_settleFastMode.flagged _ (flagged_occurIf _ _ (flagged_occur_self _ _)), fun h => ?_⟩
  exact setupStays_settleFastMode.flagged _ (flagged_occurIf_self (.inr (by simpa using h)))

theorem endMotion_ended (hm : (s.lens.get ax).motion = some m) :
    (endMotion ax st s).lens.get ax = endedAxis m st (s.reading ax) (s.lens.get ax) := by
  rw [(endMotion_lens_mq st hm).1, PerAxis.get_set, if_pos rfl]

theorem endMotion_anyMoving : (endMotion ax st s).anyMoving = true
    ↔ ∃ b, b ≠ ax ∧ s.moving b = true := by
  have hmoving (b : Axis) : (endMotion ax st s).moving b = if b = ax then false else s.moving b := by
    unfold State.moving
    split
    · next h => rw [h, endMotion_motion]; rfl
    · next h => rw [endMotion_get _ _ _ h]
  rw [anyMoving_iff]
  simp only [hmoving]
  constructor
  · rintro ⟨b, hb⟩
    split at hb
    · cases hb
    · exact ⟨b, ‹_›, hb⟩
  · rintro ⟨b, hne, hb⟩
    exact ⟨b, by rw [if_neg hne]; exact hb⟩

/-- The scan state in PERIODIC with its first burst 20 ms later (R42). -/
def turnedPeriodic (now : Time) (c : Scanner) : Scanner :=
  { c with fastMode := .periodic, nextBurst := some (now + burstPeriod) }

/-- The fast list follows the end of a motion (R41 to R43). -/
theorem fastListFollows_endMotion (hm : (s.lens.get ax).motion = some m) : FastListFollows ax s (endMotion ax st s) := by
  have hscan : (endMotion ax st s).scan
      = if (endMotion ax st s).anyMoving then s.scan else toPeriodic s.now s.scan := by
    have hany : (endMotion ax st s).anyMoving = (handEnd ax m.job st (endedState ax m st s)).anyMoving := by
      rw [endMotion_eq hm]
      exact anyMoving_congr settleFastMode_lens_mq.1
    have hhand : (handEnd ax m.job st (endedState ax m st s)).scan = s.scan := (handEnd_frame _ _).1
    have hnow : (handEnd ax m.job st (endedState ax m st s)).now = s.now := (lensOnly_handEnd _ _).now
    rw [hany, endMotion_eq hm]
    refine settleFastMode_scan.trans ?_
    unfold endedState at *
    rw [hhand, hnow]
  have hiff := endMotion_anyMoving (s := s) (ax := ax) (st := st)
  refine ⟨fun hother => ?_, fun hnone htriggered => ?_⟩
  · rw [hscan, if_pos (hiff.mpr hother)]
    exact ⟨rfl, rfl⟩
  · have hstill : ¬(endMotion ax st s).anyMoving = true := fun h => by
      obtain ⟨b, hb, hmoves⟩ := hiff.mp h
      rw [hnone b hb] at hmoves
      cases hmoves
    obtain ⟨-, hburst, hfast, -⟩ := grant_frame (now := s.now) (afterFast := false)
      (c := turnedPeriodic s.now s.scan)
    have hperiodic : toPeriodic s.now s.scan = grant s.now false (turnedPeriodic s.now s.scan) := by
      rw [toPeriodic, htriggered]
      rfl
    rw [hscan, if_neg hstill, hperiodic]
    refine ⟨hfast, hburst, fun hheld hleft hfree => ?_⟩
    rw [grant_slow (c := turnedPeriodic s.now s.scan) hfree hleft hheld (.inl nofun)]
    exact ⟨rfl, rfl⟩

theorem waits_endMotion (h : e ∈ s.mq.entries) : Waits e (endMotion ax st s) := .inl (by rw [endMotion_mq]; exact h)

theorem sameOuter_of_outer (h : Outer s t) : s.SameOuter t := ⟨h.pending, h.now, h.held, h.pt, h.lp, h.cl⟩

/-- A motion ends, dispatch runs and a cooldown may end: what the statements say of an end (R57, R73, R167). -/
theorem ended_afterLens (hm : (s.lens.get ax).motion = some m) : Ended ax m st s (afterLens (endMotion ax st s)) := by
  obtain ⟨hflag, hfault⟩ := flagged_endMotion (st := st) hm
  have hlaws := laws_afterLens (s := endMotion ax st s)
  have hlens := lensOnly_endMotion (s := s) ax st
  have hlens' := hlens.trans lensOnly_dispatch
  have hjudge (h : ¬(s.mc.mode = .cooldown ∧ s.mc.thermalDone = true
      ∧ (dispatch (endMotion ax st s)).lensAtRest = true)) :
      afterLens (endMotion ax st s) = dispatch (endMotion ax st s) :=
    judgeCooldown_stays (by rw [hlens'.mc]; exact h)
  have hlensSame : (afterLens (endMotion ax st s)).lens = (dispatch (endMotion ax st s)).lens := by
    unfold afterLens judgeCooldown
    split
    · next h =>
      have hrest := (Bool.and_eq_true_iff.mp h).2
      exact (lens_of_enterStandby_nil _ (lensAtRest_iff.mp hrest).2).1
    · rfl
  have hsampled : Sampled s (afterLens (endMotion ax st s)) := (sampled_endMotion _ _).trans sampled_afterLens
  refine ⟨hlaws.flagged _ hflag, fun h => hlaws.flagged _ (hfault h), fun hnone => ?axis, fun hempty => ?alone, fun hor => ?mode,
    sameOuter_of_outer (hlens.toOuter.trans outer_afterLens)⟩
  case axis =>
    have hget : (afterLens (endMotion ax st s)).lens.get ax = endedAxis m st (s.reading ax) (s.lens.get ax) := by
      rw [hlensSame, dispatch_get_of_noEntry, endMotion_ended hm]
      unfold State.entryOf
      rw [endMotion_mq]
      exact hnone
    refine ⟨by rw [hget]; rfl, by rw [hget]; rfl, ?_, by rw [hget]; rfl⟩
    rw [State.position, hget, reading_eq hsampled]
    rfl
  case mode =>
    have hsame : afterLens (endMotion ax st s) = dispatch (endMotion ax st s) := by
      refine hjudge fun ⟨hmode, hdone, hrest⟩ => ?_
      rcases hor with h | h | ⟨b, hb, h⟩ | ⟨e, he, h⟩
      · exact h hmode
      · rw [h] at hdone
        cases hdone
      · refine not_rest_of_moving (moving_dispatch (b := b) ?_) hrest
        rw [State.moving, endMotion_get _ _ _ hb]
        exact h
      · exact not_rest_of_waits (waits_dispatch h (waits_endMotion he)) hrest
    rw [hsame]
    exact ⟨hlens'.mc, hlens'.cc⟩
  case alone =>
    have hentries : (endMotion ax st s).mq.entries = [] := by rw [endMotion_mq]; exact hempty
    have hdispatch : dispatch (endMotion ax st s) = endMotion ax st s := dispatch_nil hentries
    have hafter : afterLens (endMotion ax st s) = judgeCooldown true (endMotion ax st s) := by rw [afterLens, hdispatch]
    have hblocks : (afterLens (endMotion ax st s)).lens = (endMotion ax st s).lens
        ∧ (afterLens (endMotion ax st s)).setup = (endMotion ax st s).setup
        ∧ (afterLens (endMotion ax st s)).ge = (endMotion ax st s).ge
        ∧ (afterLens (endMotion ax st s)).fc = (endMotion ax st s).fc := by
      rw [hafter, judgeCooldown]
      split
      · exact lens_of_enterStandby_nil _ hentries
      · exact ⟨rfl, rfl, rfl, rfl⟩
    obtain ⟨hl, hsetup, hge, hfc⟩ := hblocks
    have hstays : SetupStays (endMotion ax st s) (afterLens (endMotion ax st s)) :=
      ⟨by rw [hsetup], hge, hlaws.flagged⟩
    refine ⟨fun b hb => by rw [hl, endMotion_get _ _ _ hb], ?_, ?_, fun hnot => ?_, fun hmode hdone hstill => ?_⟩
    · refine setupHears_setupEnd (u := endedState ax m st s) ?_ ?_ ⟨rfl, rfl⟩ ((endMotion_stays hm).trans hstays)
      · rw [hl, endMotion_ended hm]
        simp [endedState, State.mapAxis]
      · exact rawNow_eq hsampled (hlens.toOuter.trans outer_afterLens).now _
    · have h := endMotion_fc (st := st) hm
      unfold FocusHears at *
      rw [hfc, hsetup]
      exact h
    · have hsame := hjudge fun h => hnot.elim (fun hne => hne h.1) fun hf => by rw [hf] at h; cases h.2.1
      rw [hdispatch] at hsame
      rw [hsame]
      exact fastListFollows_endMotion hm
    · have hrest : (endMotion ax st s).lensAtRest = true := by
        refine lensAtRest_iff.mpr ⟨?_, hentries⟩
        rw [Bool.eq_false_iff]
        intro h
        obtain ⟨b, hb, hmoves⟩ := endMotion_anyMoving.mp h
        rw [hstill b hb] at hmoves
        cases hmoves
      rw [hafter, judgeCooldown_ends ⟨by rw [hlens.mc]; exact hmode, by rw [hlens.mc]; exact hdone, hrest⟩]
      exact cooledDown_enterStandby (by rw [hlens.mc]) (by rw [hlens.mc]; exact hdone) hmode (by rw [hlens.cc])
        (fun fan => by rw [hlens.cc]; exact ⟨rfl, rfl, rfl⟩) hlens.toOuter hrest

end Sys2Proof.Machine
end

section
-- One declaration at a time: many proofs that wait at once hold a thread each.
set_option Elab.async false
/-! The course of one motion, as functions of its record: legs, settle, stall, jog, learn and the dispatch step (R61 to
R77). -/

namespace Sys2Proof.Machine

variable {s : State} {m : Motion} {now : Time} {raw : Raw} {cal : Option Calibration} {c : Calibration} {pos point : Nat}
  {first : Bool}

/-! ## Legs (R64) -/

/-- The phases of a leg. -/
def legPhases : List Phase := [.drive, .slow, .creep, .overshoot, .correct, .learnReturn]

/-- The duty class of a leg, and the phase of a final one, go by the distance to its end point (R64). -/
theorem chooseDuty_leg (hphase : m.phase ∈ legPhases) (hleg : m.legEnd = some point) : chooseDuty pos m = { m with
    phase := if m.phase ∈ [.overshoot, .correct, .learnReturn] then m.phase else legPhaseAt (distance pos point)
    duty := if m.phase = .correct then .creep else classAt (distance pos point) } := by
  unfold chooseDuty
  rw [hleg, Option.getD_some]
  simp only [legPhases, List.mem_cons, List.not_mem_nil, or_false] at hphase
  rcases hphase with h | h | h | h | h | h
  all_goals
    simp only [h, List.mem_cons, List.not_mem_nil, reduceCtorEq, or_self, or_false, or_true, if_true, if_false]
  all_goals
    rfl

theorem startLeg_eq {phase : Phase} (hphase : phase ∈ legPhases) : startLeg now phase point pos m =
    legFrom now (if phase ∈ [.overshoot, .correct, .learnReturn] then phase else legPhaseAt (distance pos point))
      (if phase = .correct then .creep else classAt (distance pos point)) point pos m := by
  unfold startLeg
  rw [chooseDuty_leg (point := point) hphase rfl]
  rfl

theorem legDone_iff (hleg : m.legEnd = some point) : legDone pos m = true ↔
    distance pos point ≤ 3 ∨ m.sense = .positive ∧ point ≤ pos ∨ m.sense = .negative ∧ pos ≤ point := by
  simp [legDone, hleg, or_assoc]

theorem legOff_eq (hphase : m.phase ∈ legPhases) : legOff now m =
    if m.phase = .overshoot then .goes { m with between := true, window := [] }
    else if m.phase = .learnReturn then .ends .learnOk
    else .goes (settling now m) := by
  unfold legOff
  simp only [legPhases, List.mem_cons, List.not_mem_nil, or_false] at hphase
  rcases hphase with h | h | h | h | h | h
  all_goals
    rw [h]
  all_goals
    rfl

theorem distance_comm (a b : Nat) : distance a b = distance b a := by unfold distance; omega

/-! ## Stall (R68) -/

theorem stalled_iff : stalled cal now raw m = true ↔ StallsAt (stallMeasure cal m.phase) now raw m := by
  unfold stalled StallsAt
  rw [Bool.and_eq_true, decide_eq_true_eq, Option.any_eq_true]
  simp only [decide_eq_true_eq]
  rfl

theorem stallMeasure_leg (hphase : m.phase ∈ legPhases) : stallMeasure (some c) m.phase = normalise c := by
  funext r
  simp only [legPhases, List.mem_cons, List.not_mem_nil, or_false] at hphase
  rcases hphase with h | h | h | h | h | h
  all_goals
    rw [h]
  all_goals
    rfl

/-! ## The samples of a motion -/

theorem settleSamples : SettleSamples := by
  intro c now raw first m st target hphase hsettle htarget
  have hsample : (sampleMotion (some c) now raw first m).fate = settleSample now (normalise c raw) target m := by
    unfold sampleMotion
    rw [hphase]
    dsimp only
    rw [htarget]
    rfl
  dsimp only
  rw [hsample]
  unfold settleSample
  rw [hsettle]
  dsimp only
  refine ⟨fun hwait => if_pos hwait, fun hwait hnear hcount => ?_, fun hwait hnear hcount => ?_,
    fun hwait hfar hless => ?_, fun hwait hfar hall => ?_⟩
  all_goals
    rw [if_neg (by simp [hwait])]
  · rw [if_pos hnear, if_neg (by omega)]
  · rw [if_pos hnear, if_pos (by omega)]
  · rw [if_neg (by omega), if_pos hless, startLeg_eq (by decide)]
    rfl
  · rw [if_neg (by omega), if_neg (by omega)]

theorem sampleMotion_leg (hphase : m.phase ∈ legPhases) (hbetween : m.phase = .overshoot → m.between = false) :
    (sampleMotion cal now raw first m).fate = legSample cal now raw first m := by
  unfold sampleMotion
  simp only [legPhases, List.mem_cons, List.not_mem_nil, or_false] at hphase
  rcases hphase with h | h | h | h | h | h
  case inr.inr.inr.inl =>
    rw [h]
    dsimp only
    rw [hbetween h]
    rfl
  all_goals
    rw [h]

theorem legSamples : LegSamples := by
  intro c now raw first m point hphase
  have hphase : m.phase ∈ legPhases := hphase
  dsimp only
  refine ⟨fun hbetween hleg => ?_, fun hover hbetween htarget hfar => ?_⟩
  · have hdone := legDone_iff (pos := normalise c raw) hleg
    have hstall : stalled (some c) now raw m = true ↔ StallsAt (normalise c) now raw m := by
      rw [stalled_iff, stallMeasure_leg hphase]
    rw [sampleMotion_leg hphase fun _ => hbetween, ← legOff_eq hphase, ← hdone, ← hstall]
    unfold legSample
    dsimp only [countsOf, Option.elim_some]
    cases hd : legDone (normalise c raw) m <;> cases hs : stalled (some c) now raw m
    · refine ⟨nofun, nofun, nofun, fun _ _ => ?_⟩
      simp only [Bool.false_and, if_false, Bool.false_eq_true]
      rw [pushSample, chooseDuty_leg hphase hleg]
    · exact ⟨nofun, fun _ _ => rfl, nofun, fun _ h => absurd rfl h⟩
    · exact ⟨fun _ _ => rfl, nofun, nofun, nofun⟩
    · refine ⟨fun _ h => absurd rfl h, fun h => absurd rfl h, fun _ _ => ?_, fun h => absurd rfl h⟩
      cases first
      · exact .inl rfl
      · exact .inr rfl
  · have hsample : (sampleMotion (some c) now raw first m).fate = finalLegSample now (normalise c raw) point m := by
      unfold sampleMotion
      rw [hover]
      dsimp only
      rw [hbetween, htarget]
      rfl
    have hleg : startLeg now .drive point (normalise c raw) m = legFrom now (legPhaseAt (distance (normalise c raw) point))
        (classAt (distance (normalise c raw) point)) point (normalise c raw) m := startLeg_eq (by decide)
    have hnot : ¬legDone (normalise c raw) (startLeg now .drive point (normalise c raw) m) = true := by
      have hsense : (startLeg now .drive point (normalise c raw) m).sense
          = if normalise c raw < point then .positive else .negative := by rw [hleg]; rfl
      rw [legDone_iff (point := point) (by rw [hleg]; rfl), hsense]
      unfold distance at hfar ⊢
      rintro (h | ⟨h, hle⟩ | ⟨h, hle⟩)
      · omega
      · split at h
        · omega
        · cases h
      · split at h
        · cases h
        · omega
    rw [hsample, finalLegSample, if_neg hnot, hleg]

theorem jogSamples : JogSamples := by
  intro cal now raw first m up d hphase hjob
  dsimp only
  have hmeasure : stallMeasure cal m.phase = fun x => cal.elim x.toNat fun c => normalise c x := by
    funext r
    simp only [List.mem_cons, List.not_mem_nil, or_false] at hphase
    rcases hphase with h | h | h
    all_goals
      rw [h]
    all_goals
      rfl
  have hsample : (sampleMotion cal now raw first m).fate = jogSample cal now raw first up m := by
    unfold sampleMotion
    rw [hjob]
    simp only [List.mem_cons, List.not_mem_nil, or_false] at hphase
    rcases hphase with h | h | h
    all_goals
      rw [h]
    all_goals
      simp [jobJog]
  have hlimit : (∃ c, cal = some c ∧ normalise c raw = if up = true then 4000 else 0) ↔ atSoftLimit cal up raw = true := by
    simp [atSoftLimit, Option.any_eq_true]
  have hend : endRequest now .jogEnd m = .goes { m with phase := .brake, brake := some ⟨.jogEnd, now⟩, window := [] } := by
    obtain ⟨-, h⟩ | ⟨-, h⟩ | ⟨h, -⟩ := endRequest_cases now .jogEnd m
    · rcases h with h | h <;> simp [h] at hphase
    · simp [h] at hphase
    · exact h
  rw [hsample, hlimit, ← hmeasure, ← stalled_iff, ← hend]
  unfold jogSample
  dsimp only
  cases atSoftLimit cal up raw <;> cases stalled cal now raw m
  · exact ⟨nofun, nofun, nofun, fun _ _ => rfl⟩
  · exact ⟨nofun, fun _ _ => rfl, nofun, fun _ h => absurd rfl h⟩
  · exact ⟨fun _ _ => rfl, nofun, nofun, nofun⟩
  · refine ⟨fun _ h => absurd rfl h, fun h => absurd rfl h, fun _ _ => ?_, fun h => absurd rfl h⟩
    cases first
    · exact .inl rfl
    · exact .inr rfl

theorem learnSample_eq {l : LearnReadings} (hlearn : m.learn = some l) : learnSample now raw m =
    if m.between then ⟨.goes (startLearnPos now m), none⟩
    else if stalled none now raw m then
      if m.phase = .learnNeg then ⟨.goes { m with learn := some { l with neg := some raw }, between := true, window := [] }, none⟩
      else learnSpan now raw m l
    else ⟨.goes (pushSample now raw m), none⟩ := by
  unfold learnSample
  rw [hlearn]

theorem learnSamples : LearnSamples := by
  intro cal now raw first m l hphase hlearn
  dsimp only
  have hphase : m.phase = .learnNeg ∨ m.phase = .learnPos := by simpa using hphase
  have hmeasure : stallMeasure none m.phase = (·.toNat) := by
    funext r
    rcases hphase with h | h
    all_goals
      rw [h]
    all_goals
      rfl
  have hsample : sampleMotion cal now raw first m = learnSample now raw m := by
    unfold sampleMotion
    rcases hphase with h | h
    all_goals
      rw [h]
  rw [hsample, ← hmeasure, ← stalled_iff, learnSample_eq hlearn]
  refine ⟨fun hbetween => if_pos hbetween, fun hbetween hstall => ?_, fun hbetween hstall hneg => ?_,
    fun neg hbetween hstall hpos hneg => ?_⟩
  all_goals
    rw [if_neg (by simp [hbetween])]
  · rw [if_neg hstall]
    rfl
  · rw [if_pos hstall, if_pos hneg]
  · have hnot : ¬m.phase = .learnNeg := by rw [hpos]; decide
    rw [if_pos hstall, if_neg hnot, learnSpan, hneg]
    dsimp only [Option.getD_some]
    refine ⟨fun hshort => ?_, fun hspan hnear => ?_, fun hspan hfar => ?_⟩
    · rw [if_neg (by simpa [validSpan] using hshort)]
    · rw [if_pos (show validSpan neg raw = true from decide_eq_true hspan), if_pos hnear]
    · rw [if_pos (show validSpan neg raw = true from decide_eq_true hspan), if_neg (by omega), startLeg_eq (by decide),
        distance_comm (normalise ⟨neg, raw⟩ raw)]
      rfl

theorem sampleMotion_off (h : m.phase = .paused ∨ m.phase = .brake) : sampleMotion cal now raw first m = ⟨.goes m, none⟩ := by
  unfold sampleMotion
  rcases h with h | h
  all_goals
    rw [h]

/-! ## The dispatch step (R61 to R63, R69, R74 to R76, R89) -/

theorem afterDeadline_goes (h : ∀ up d, m.job = .jog up d → now < d) : afterDeadline now m = .goes m := by
  unfold afterDeadline
  split
  · next up d hjob => exact if_neg (Nat.not_le.mpr (h up d hjob))
  all_goals rfl

theorem pauseMotion_eq (hbrake : m.phase ≠ .brake) (hpaused : m.phase ≠ .paused) :
    pauseMotion now m = { m with phase := .paused, pause := some ⟨m.phase, now, none⟩, window := [] } := by
  unfold pauseMotion
  split
  · contradiction
  · contradiction
  all_goals rfl

theorem overshootPoint_eq {target : Nat} (h : target ≤ 4000) (up : Bool) :
    overshootPoint up target = if up then min (target + 60) 4000 else target - 60 := by
  unfold overshootPoint clampNat
  rw [clampInt_eq_max_min (by decide)]
  cases up
  · simp only [Bool.false_eq_true, if_false]
    omega
  · simp only [if_true]
    omega

theorem approachUp_against (ax : Axis) (o : Orientation) (up : Bool) : (approachUp ax o).any (· ≠ up) = true ↔
    ax = .vshift ∧ up = isCeiling o ∨ (ax = .zoom ∨ ax = .focus) ∧ up = false := by
  cases ax <;> cases up <;> cases o <;> simp [approachUp, isCeiling]

/-- The first phase of a positioning motion (R62, R63). -/
theorem startPositioning_eq {ax : Axis} {o : Orientation} {target : Nat} (htarget : target ≤ 4000) (pos : Nat) (m : Motion) :
    let up := decide (pos < target)
    let against : Prop := ax = .vshift ∧ up = isCeiling o ∨ (ax = .zoom ∨ ax = .focus) ∧ up = false
    let beyond := if up then min (target + 60) 4000 else target - 60
    (distance pos target ≤ 3 → startPositioning ax o now pos target m = settling now m)
    ∧ (3 < distance pos target → against → beyond ≠ target → startPositioning ax o now pos target m
        = legFrom now .overshoot (classAt (distance pos beyond)) beyond pos m)
    ∧ (3 < distance pos target → ¬against ∨ beyond = target → startPositioning ax o now pos target m
        = legFrom now (legPhaseAt (distance pos target)) (classAt (distance pos target)) target pos m) := by
  dsimp only
  rw [← approachUp_against, ← overshootPoint_eq htarget]
  unfold startPositioning
  dsimp only
  refine ⟨fun hnear => if_pos hnear, fun hfar hagainst hbeyond => ?_, fun hfar hdirect => ?_⟩
  · rw [if_neg (by omega), if_pos (by rw [hagainst, decide_eq_true hbeyond]; rfl), startLeg_eq (by decide)]
    rfl
  · have hnot : ¬((approachUp ax o).any (· ≠ decide (pos < target))
        && decide (overshootPoint (decide (pos < target)) target ≠ target)) = true := by
      rw [Bool.and_eq_true, decide_eq_true_eq]
      exact fun ⟨hagainst, hbeyond⟩ => hdirect.elim (fun h => h hagainst) hbeyond
    rw [if_neg (by omega), if_neg hnot, startLeg_eq (by decide)]
    rfl

theorem firstPhase_positioning {ax : Axis} {o : Orientation} {target : Nat} (h : jobTarget m.job = some target) :
    firstPhase ax o cal now raw m = .goes (startPositioning ax o now (countsOf cal raw) target m) := by
  unfold firstPhase
  cases hjob : m.job with
  | move t => rw [hjob] at h; obtain rfl := Option.some_inj.mp h; rfl
  | ofRecall t tag => rw [hjob] at h; obtain rfl := Option.some_inj.mp h; rfl
  | trim t => rw [hjob] at h; obtain rfl := Option.some_inj.mp h; rfl
  | park t => rw [hjob] at h; obtain rfl := Option.some_inj.mp h; rfl
  | jog up d => rw [hjob] at h; cases h
  | learn => rw [hjob] at h; cases h

/-- A motion begins with its drive on or in SETTLE (R62, R74, R76). -/
theorem firstPhase_runs {ax : Axis} {o : Orientation} {m' : Motion} (h : firstPhase ax o cal now raw m = .goes m') :
    m'.phase ≠ .brake ∧ m'.phase ≠ .paused := by
  have hleg (phase : Phase) (target pos : Nat) (hphase : phase ∈ legPhases) :
      (startLeg now phase target pos m).phase ≠ .brake ∧ (startLeg now phase target pos m).phase ≠ .paused := by
    rw [startLeg_eq hphase]
    simp only [legPhases, List.mem_cons, List.not_mem_nil, or_false] at hphase
    unfold legFrom legPhaseAt
    dsimp only
    split
    · rcases hphase with h | h | h | h | h | h <;> simp [h]
    · split
      · simp
      · split <;> simp
  have hpositioning (target : Nat) : (startPositioning ax o now (countsOf cal raw) target m).phase ≠ .brake
      ∧ (startPositioning ax o now (countsOf cal raw) target m).phase ≠ .paused := by
    unfold startPositioning
    dsimp only
    split
    · simp [enterSettle]
    · split
      · exact hleg _ _ _ (by decide)
      · exact hleg _ _ _ (by decide)
  unfold firstPhase at h
  split at h
  case h_5 =>
    split at h
    · cases h
    · obtain rfl := Fate.goes.inj h
      simp
  case h_6 =>
    obtain rfl := Fate.goes.inj h
    simp
  all_goals
    obtain rfl := Fate.goes.inj h
    exact hpositioning _

theorem dispatchMotion_eq {ax : Axis} {o : Orientation} {low : Bool} {ret : AxisState} {job : Job}
    (h : firstPhase ax o cal now raw (newMotion now ret job) = .goes m) :
    dispatchMotion ax o cal now raw low ret job = afterDeadline now (if low then pauseMotion now m else m) := by
  rw [dispatchMotion, h]
  rfl

theorem dispatchMotion_ends {ax : Axis} {o : Orientation} {low : Bool} {ret : AxisState} {job : Job} {st : EndStatus}
    (h : firstPhase ax o cal now raw (newMotion now ret job) = .ends st) :
    dispatchMotion ax o cal now raw low ret job = .ends st := by
  rw [dispatchMotion, h]
  rfl

theorem firstPhase_jog {ax : Axis} {o : Orientation} {up : Bool} {d : Time} (h : m.job = .jog up d) :
    firstPhase ax o cal now raw m = if atSoftLimit cal up raw then .ends .jogEnd
      else .goes { m with phase := .jogCreep, duty := .creep, sense := if up then .positive else .negative } := by
  unfold firstPhase
  split
  case h_5 hjob => rw [hjob] at h; obtain ⟨rfl, rfl⟩ := Job.jog.inj h; rfl
  all_goals
    next hjob => exact nomatch hjob.symm.trans h

/-- What a positioning motion's first phase leaves as it was (R61). -/
theorem startPositioning_fields (ax : Axis) (o : Orientation) (pos target : Nat) (m : Motion) :
    let x := startPositioning ax o now pos target m
    x.returnState = m.returnState ∧ x.dispatched = m.dispatched ∧ x.corrections = m.corrections ∧ x.between = false
      ∧ x.pause = m.pause ∧ x.brake = m.brake ∧ x.learned = m.learned := by
  unfold startPositioning
  dsimp only
  split
  · exact ⟨rfl, rfl, rfl, rfl, rfl, rfl, rfl⟩
  · split
    · rw [startLeg_eq (by decide)]
      exact ⟨rfl, rfl, rfl, rfl, rfl, rfl, rfl⟩
    · rw [startLeg_eq (by decide)]
      exact ⟨rfl, rfl, rfl, rfl, rfl, rfl, rfl⟩

/-- A positioning motion's dispatch step (R62, R63). -/
theorem dispatchMotion_positioning {ax : Axis} {o : Orientation} {ret : AxisState} {job : Job} {target : Nat}
    (htarget : jobTarget job = some target) : dispatchMotion ax o (some c) now raw false ret job
      = .goes (startPositioning ax o now (normalise c raw) target (newMotion now ret job)) := by
  have hfirst := firstPhase_positioning (ax := ax) (o := o) (cal := some c) (now := now) (raw := raw)
    (m := newMotion now ret job) htarget
  refine (dispatchMotion_eq hfirst).trans (afterDeadline_goes fun up d h => ?_)
  have hjob : job = .jog up d := (startPositioning_job _ _ _ _ _ _).symm.trans h
  rw [hjob] at htarget
  cases htarget

theorem atSoftLimit_iff {up : Bool} : atSoftLimit cal up raw = true
    ↔ ∃ c, cal = some c ∧ normalise c raw = if up then 4000 else 0 := by
  simp [atSoftLimit, Option.any_eq_true]

theorem dispatchSteps : DispatchSteps := by
  intro ax o c cal now raw ret job
  dsimp only
  refine ⟨fun target htarget hle => ?positioning, fun up d hjob hd => ?jog, fun up d hjob hd hfree => ?late,
    fun hjob => ?learn, fun hd => ?low⟩
  case positioning =>
    obtain ⟨hnear, hover, hdirect⟩ := startPositioning_eq (ax := ax) (o := o) (now := now) hle (normalise c raw)
      (newMotion now ret job)
    obtain ⟨hret, hdispatched, hcorrections, hbetween, hpause, hbrake, hlearned⟩ := startPositioning_fields
      (now := now) ax o (normalise c raw) target (newMotion now ret job)
    refine ⟨_, dispatchMotion_positioning htarget, startPositioning_job _ _ _ _ _ _, hret, hdispatched, hcorrections,
      hbetween, hpause, hbrake, hlearned, fun h => ?_, fun h hagainst hbeyond => ?_, fun h hor => ?_⟩
    · rw [hnear h]
      rfl
    · rw [hover h hagainst hbeyond]
      rfl
    · rw [hdirect h hor]
      rfl
  case jog =>
    have hfirst := firstPhase_jog (ax := ax) (o := o) (cal := cal) (now := now) (raw := raw) (m := newMotion now ret job) hjob
    refine ⟨fun hlimit => ?_, fun hlimit => ?_⟩
    · rw [if_pos (atSoftLimit_iff.mpr hlimit)] at hfirst
      exact dispatchMotion_ends hfirst
    · rw [if_neg fun h => hlimit (atSoftLimit_iff.mp h)] at hfirst
      refine ⟨_, (dispatchMotion_eq hfirst).trans (afterDeadline_goes fun up' d' h => ?_), rfl, rfl, rfl, rfl, rfl, rfl⟩
      obtain ⟨rfl, rfl⟩ := Job.jog.inj (hjob.symm.trans h)
      exact hd
  case late =>
    have hfirst := firstPhase_jog (ax := ax) (o := o) (cal := cal) (now := now) (raw := raw) (m := newMotion now ret job) hjob
    have hlimit : ¬atSoftLimit cal up raw = true := fun h => by
      obtain ⟨c, hc, hat⟩ := atSoftLimit_iff.mp h
      exact hfree c hc hat
    rw [if_neg hlimit] at hfirst
    rw [dispatchMotion_eq hfirst, hjob]
    exact ⟨_, if_pos hd, rfl, rfl⟩
  case learn =>
    subst hjob
    exact ⟨_, rfl, rfl, rfl, rfl, rfl, rfl, rfl, rfl, rfl⟩
  case low =>
    cases hfirst : firstPhase ax o cal now raw (newMotion now ret job) with
    | ends st => rw [dispatchMotion_ends hfirst, dispatchMotion_ends hfirst]
    | goes m =>
      have hjob : m.job = job := by
        have h := firstPhase_does ax o cal now raw (newMotion now ret job)
        rw [hfirst] at h
        exact h
      obtain ⟨hbrake, hpaused⟩ := firstPhase_runs hfirst
      have hfalse : dispatchMotion ax o cal now raw false ret job = .goes m :=
        (dispatchMotion_eq hfirst).trans (afterDeadline_goes fun up d h => hd up d (hjob.symm.trans h))
      rw [hfalse, dispatchMotion_eq hfirst]
      dsimp only
      rw [← pauseMotion_eq hbrake hpaused]
      exact afterDeadline_goes fun up d h => hd up d (by rw [← hjob, ← pauseMotion_job now m]; exact h)

end Sys2Proof.Machine
end

section
-- One declaration at a time: many proofs that wait at once hold a thread each.
set_option Elab.async false
/-! The timers of a motion and of a pending jog, and dispatch (R65 to R78, R89, R97, R98). -/

namespace Sys2Proof.Machine

variable {s t : State} {ax b : Axis} {m m' : Motion} {st : EndStatus} {e : Entry} {rest : List Entry}
  {now : Time} {due : Time → Motion → Bool} {fate : State → Motion → Fate}

/-! ## A timer of a running motion -/

/-- The state with another record of an axis's running motion. -/
def withMotion (ax : Axis) (m : Motion) (s : State) : State :=
  { s with lens := s.lens.set ax { s.lens.get ax with motion := some m } }

theorem stepAxis_goes (m' : Motion) :
    stepAxis ax (applyFate ax (.goes m')) s = withMotion ax m' s := by
  have hmoves : (applyFate ax (.goes m') s).moving ax = true := by
    rw [State.moving, applyFate_goes_get]
    rfl
  rw [stepAxis, if_neg (by simp [hmoves])]
  rfl

theorem stepAxis_ends (hm : (s.lens.get ax).motion = some m) (st : EndStatus) :
    stepAxis ax (applyFate ax (.ends st)) s = afterLens (endMotion ax st s) := by
  have hmoves : s.moving ax = true := by rw [State.moving, hm]; rfl
  have hrests : (applyFate ax (.ends st) s).moving ax = false := by
    rw [State.moving]
    exact congrArg Option.isSome (endMotion_motion ax st)
  rw [stepAxis, if_pos (by rw [hmoves, hrests]; rfl)]
  rfl

theorem motionEvent_eq (hheld : s.held = false) (hm : (s.lens.get ax).motion = some m) (hdue : due s.now m = true) :
    motionEvent ax due fate s = .next (stepAxis ax (applyFate ax (fate s m)) s) := by
  have hany : (s.lens.get ax).motion.any (due s.now) = true := by rw [hm]; exact hdue
  rw [motionEvent, event_of_due hheld hany]
  simp only [stepAxis, hm, Option.elim_some]

theorem motionEvent_goes (hheld : s.held = false) (hm : (s.lens.get ax).motion = some m) (hdue : due s.now m = true)
    (hfate : fate s m = .goes m') : motionEvent ax due fate s = .next (withMotion ax m' s) := by
  rw [motionEvent_eq hheld hm hdue, hfate, stepAxis_goes]

theorem motionEvent_ends (hheld : s.held = false) (hm : (s.lens.get ax).motion = some m) (hdue : due s.now m = true)
    (hfate : fate s m = .ends st) : ∃ t, motionEvent ax due fate s = .next t ∧ Ended ax m st s t := by
  rw [motionEvent_eq hheld hm hdue, hfate, stepAxis_ends hm]
  exact ⟨_, rfl, ended_afterLens hm⟩

theorem brakeTime_eq : brakeTime = 50000 := by decide

theorem moveLimit_eq : moveLimit = 15000000 := by decide

theorem pauseLimit_eq : pauseLimit = 2000000 := by decide

theorem learnLegLimit_eq : learnLegLimit = 20000000 := by decide

theorem settleWait_eq : settleWait = 30000 := by decide

theorem resumeTime_eq : resumeTime = 100000 := by decide

theorem jogSlowAt_eq : jogSlowAt = 600000 := by decide

theorem jogFullAt_eq : jogFullAt = 1800000 := by decide

theorem brakeOver_iff : brakeOver now m = true ↔
    m.phase = .brake ∧ ∃ b, m.brake = some b ∧ b.start + brakeTime ≤ now := by
  simp [brakeOver, Option.any_eq_true]

theorem pauseOver_iff : pauseOver now m = true ↔
    m.phase = .paused ∧ ∃ x, m.pause = some x ∧ x.start + pauseLimit ≤ now := by
  simp [pauseOver, Option.any_eq_true]

/-- Settles O53: each of the four timers is due and ends the motion. -/
theorem timersThatEndMotions : Obligations.TimersThatEndMotions := by
  intro s ax m hheld hm
  refine ⟨fun b hphase hb hover => ?_, fun htarget hphase hover => ?_, fun x hphase hx hover => ?_,
    fun hjob hphase hbetween hover => ?_⟩
  · refine motionEvent_ends (due := brakeOver) hheld hm ?_ (by rw [cutStatus, hb]; rfl)
    exact brakeOver_iff.mpr ⟨hphase, b, hb, brakeTime_eq ▸ hover⟩
  · refine motionEvent_ends (due := moveTimedOut) hheld hm ?_ rfl
    have hsome : (jobTarget m.job).isSome = true := Option.isSome_iff_ne_none.mpr htarget
    simp [moveTimedOut, isPositioning, hsome, hphase, moveLimit_eq, hover]
  · refine motionEvent_ends (due := pauseOver) hheld hm ?_ rfl
    exact pauseOver_iff.mpr ⟨hphase, x, hx, pauseLimit_eq ▸ hover⟩
  · refine motionEvent_ends (due := learnLegOver) hheld hm ?_ rfl
    simp [learnLegOver, isLearn, hjob, hphase, hbetween, learnLegLimit_eq, hover]

/-! ## Timers that a motion outlives -/

theorem jogStage_eq (since : Time) :
    jogStage since = if since < 600000 then .jogCreep else if since < 1800000 then .jogSlow else .jogFull := by
  rw [jogStage, jogSlowAt_eq, jogFullAt_eq]

theorem atJogStage_eq (now : Time) (m : Motion) : atJogStage now m =
    let since := now - m.dispatched
    { m with
      phase := if since < 600000 then .jogCreep else if since < 1800000 then .jogSlow else .jogFull
      duty := if since < 600000 then .creep else if since < 1800000 then .slow else .full } := by
  unfold atJogStage
  rw [jogStage_eq]
  dsimp only
  split
  · rfl
  · split <;> rfl

/-- A paused motion as its drive turns on again, in the phase that it paused from (R70). -/
def unpaused (now : Time) (phase : Phase) (m : Motion) : Motion :=
  { m with pause := none, phase := phase, driveStart := now, window := [] }

theorem resumeMotion_leg {x : Pause} {c : Calibration} {now : Time} {raw : Raw} (hx : m.pause = some x)
    (hphase : x.phase ∈ legPhases) : resumeMotion (some c) now raw m =
      if legDone (normalise c raw) (unpaused now x.phase m) then legOff now (unpaused now x.phase m)
      else .goes (chooseDuty (normalise c raw) { unpaused now x.phase m with between := false }) := by
  unfold resumeMotion
  dsimp only
  rw [hx, Option.elim_some]
  simp only [legPhases, List.mem_cons, List.not_mem_nil, or_false] at hphase
  rcases hphase with h | h | h | h | h | h
  all_goals
    rw [h]
  all_goals
    rfl

/-- Settles O54: each timer is due, and its fate is a motion that goes on or, for a paused jog's deadline, an end. -/
theorem timersThatMotionsOutlive : Obligations.TimersThatMotionsOutlive := by
  intro s ax m hheld hm
  have hstage (up : Bool) (d : Time) (phase : Phase) (hjob : m.job = .jog up d) (hon : driveOn phase = true)
      (hphase : m.phase = phase) (hne : phase ≠ jogStage (s.now - m.dispatched)) : jogStageDue s.now m = true := by
    rw [jogStageDue, isJog, hjob, hphase, hon, decide_eq_true hne]
    rfl
  have hresume {x : Pause} {r : Time} (hphase : m.phase = .paused) (hx : m.pause = some x) (hr : x.resume = some r)
      (hover : r + 100000 ≤ s.now) : resumeDue s.now m = true := by
    simp [resumeDue, hphase, hx, hr, resumeTime_eq, hover]
  have hdeadline {up : Bool} {d : Time} (hjob : m.job = .jog up d) (hphase : m.phase ≠ .brake) (hd : d ≤ s.now) :
      jogDeadlineDue s.now m = true := by
    rw [jogDeadlineDue, decide_eq_true hphase, hjob]
    exact decide_eq_true hd
  refine ⟨fun x hphase hx hwait hover => ?settle, fun up d hjob hphase hlate hearly => ?slow,
    fun up d hjob hphase hlate => ?full, fun up d hjob hon hd => ?deadline, fun up d hjob hphase hd => ?pausedDeadline,
    fun x r hphase hx hr hover hlearn => ?learn, fun x r hphase hx hr hover hsettle => ?settleAgain,
    fun x r up d hphase hx hr hover hjog hjob => ?jog, fun x r c point hphase hx hr hover hleg hc hpoint => ?leg⟩
  case settle =>
    refine motionEvent_goes (due := settleWaitOver) hheld hm ?_ (by rw [endSettleWait, hx]; rfl)
    rw [settleWaitOver, hphase, hx]
    simpa [hwait, settleWait_eq] using hover
  case slow =>
    have hnow : jogStage (s.now - m.dispatched) = .jogSlow := by
      rw [jogStage_eq, if_neg (Nat.not_lt.mpr (Nat.le_sub_of_add_le' hlate)), if_pos (Nat.sub_lt_left_of_lt_add ?_ hearly)]
      exact (Nat.le_add_right _ _).trans hlate
    refine motionEvent_goes (due := jogStageDue) hheld hm (hstage up d .jogCreep hjob rfl hphase (by rw [hnow]; decide)) ?_
    rw [atJogStage, hnow]
    rfl
  case full =>
    have hnow : jogStage (s.now - m.dispatched) = .jogFull := by
      have hsince : 1800000 ≤ s.now - m.dispatched := Nat.le_sub_of_add_le' hlate
      rw [jogStage_eq, if_neg (Nat.not_lt.mpr (le_trans (by decide) hsince)), if_neg (Nat.not_lt.mpr hsince)]
    refine motionEvent_goes (due := jogStageDue) hheld hm (hstage up d .jogSlow hjob rfl hphase (by rw [hnow]; decide)) ?_
    rw [atJogStage, hnow]
    rfl
  case deadline =>
    have hbrake : m.phase ≠ .brake := fun h => by rw [h] at hon; cases hon
    refine motionEvent_goes (due := jogDeadlineDue) hheld hm (hdeadline hjob hbrake hd) ?_
    obtain ⟨-, h⟩ | ⟨-, h⟩ | ⟨h, -⟩ := endRequest_cases s.now .jogEnd m
    · rcases h with h | h <;> rw [h] at hon <;> cases hon
    · exact absurd h hbrake
    · exact h
  case pausedDeadline =>
    refine motionEvent_ends (due := jogDeadlineDue) hheld hm (hdeadline hjob (by rw [hphase]; decide) hd) ?_
    rw [endRequest, hphase]
  case learn =>
    refine motionEvent_goes (due := resumeDue) hheld hm (hresume hphase hx hr hover) ?_
    unfold resumeMotion
    dsimp only
    rw [hx, Option.elim_some]
    rcases hlearn with h | h
    all_goals
      rw [h]
  case settleAgain =>
    refine motionEvent_goes (due := resumeDue) hheld hm (hresume hphase hx hr hover) ?_
    unfold resumeMotion
    dsimp only
    rw [hx, Option.elim_some, hsettle]
    rfl
  case jog =>
    refine motionEvent_goes (due := resumeDue) hheld hm (hresume hphase hx hr hover) ?_
    unfold resumeMotion
    dsimp only
    rw [hx, Option.elim_some]
    simp only [List.mem_cons, List.not_mem_nil, or_false] at hjog
    rcases hjog with h | h | h
    all_goals
      rw [h]
      dsimp only
      rw [atJogStage_eq]
  case leg =>
    have hdone := legDone_iff (m := unpaused s.now x.phase m) (pos := normalise c (s.rawNow ax)) hpoint
    have hfate := resumeMotion_leg (m := m) (now := s.now) (c := c) (raw := s.rawNow ax) hx hleg
    refine ⟨fun hnot => ?_, fun hat hkind => ?_⟩
    · refine motionEvent_goes (due := resumeDue) hheld hm (hresume hphase hx hr hover) ?_
      rw [hc, hfate, if_neg fun h => hnot (hdone.mp h),
        chooseDuty_leg (m := { unpaused s.now x.phase m with between := false }) hleg hpoint]
      rfl
    · refine motionEvent_goes (due := resumeDue) hheld hm (hresume hphase hx hr hover) ?_
      have hover : x.phase ≠ .overshoot := fun h => by simp [h] at hkind
      have hreturn : x.phase ≠ .learnReturn := fun h => by simp [h] at hkind
      rw [hc, hfate, if_pos (hdone.mpr hat), legOff_eq (m := unpaused s.now x.phase m) hleg]
      exact (if_neg hover).trans (if_neg hreturn)

/-! ## Dispatch (R97, R98) -/

theorem dispatch_stops (hentries : s.mq.entries = e :: rest) (h : ¬canDispatch s e = true) : dispatch s = s := by
  rw [dispatch, hentries]
  show dispatchUpTo (rest.length + 1) s = s
  rw [dispatchUpTo, hentries]
  exact if_neg h

theorem dispatch_cons (hentries : s.mq.entries = e :: rest) (h : canDispatch s e = true) :
    dispatch s = dispatch (startEntry e (s.mapMq (takeHead e rest))) := by
  have hrest : (startEntry e (s.mapMq (takeHead e rest))).mq.entries = rest := by
    rw [startEntry_mq]
    rfl
  rw [dispatch, hentries, dispatch, hrest]
  show dispatchUpTo (rest.length + 1) s = _
  rw [dispatchUpTo, hentries]
  exact if_pos h

/-- The state in which an entry's motion takes its fate: the axis MOVING and the fast list TRIGGERED (R57, R61, R98). -/
def started (e : Entry) (s : State) : State := (markEntry e (s.mapAxis e.axis (movingAxis s.now e.job))).mapScan toTriggered

theorem startEntry_eq (e : Entry) (s : State) : startEntry e s = applyFate e.axis (entryFate e s) (started e s) := rfl

theorem started_lens (e : Entry) (s : State) :
    (started e s).lens.get e.axis = movingAxis s.now e.job (s.lens.get e.axis) := by
  have h : (started e s).lens = s.lens.set e.axis (movingAxis s.now e.job (s.lens.get e.axis)) :=
    (setupOnly_markEntry (s := s.mapAxis e.axis (movingAxis s.now e.job)) e).lens
  rw [h, PerAxis.get_set, if_pos rfl]

theorem sampled_started (e : Entry) (s : State) : Sampled s (started e s) :=
  have haxis : Sampled s (s.mapAxis e.axis (movingAxis s.now e.job)) := sampled_of_scan rfl
  have hmark := sampled_of_scan (setupOnly_markEntry (s := s.mapAxis e.axis (movingAxis s.now e.job)) e).scan
  (haxis.trans hmark).trans sampled_toTriggered

theorem markRunning_waiting {rc : Recall} {tag : Nat} (hcurrent : s.setup.current = some rc) (htag : rc.tag = tag)
    (hwaits : rc.progress.get ax = .waiting) :
    (markRunning ax tag s).setup.current = some { rc with progress := rc.progress.set ax .running } := by
  unfold markRunning
  rw [hcurrent]
  dsimp only
  rw [if_pos (by simp [htag, hwaits])]
  rfl

theorem dropEntries_axis (ax : Axis) (q : MotionQueue) : dropEntries (· = ax) q = { q with
    entries := q.entries.filter fun x => x.axis ≠ ax
    awaited := q.awaited.bind fun w => if w.axis = ax ∧ w.started = false then none else some w } := by
  unfold dropEntries Awaited.drop
  congr 1
  · simp
  · simp

theorem removeEntry_jog {up : Bool} {d : Time} (he : s.entryOf ax = some e) (hjob : e.job = .jog up d) (st : EndStatus) :
    removeEntry ax st s = s.mapMq (dropEntries (· = ax)) := by
  unfold removeEntry
  rw [he]
  dsimp only
  rw [handRemoved, hjob]

theorem entryOf_axis (h : s.entryOf ax = some e) : e.axis = ax ∧ e ∈ s.mq.entries :=
  ⟨by simpa using List.find?_some h, List.mem_of_find?_eq_some h⟩

/-- Settles O55: the jog leaves the queue; dispatch judges the head entry; an entry starts with its fate. -/
theorem pendingJogLeaves : Obligations.PendingJogLeaves := by
  refine ⟨fun s ax e up d hheld he hjob hd => ?expiry, fun s => dispatch_nil, fun s e rest hentries => ?head,
    fun s e hrest => ?start, dispatchSteps⟩
  case expiry =>
    have hdue : pendingJogDue s ax = true := by
      rw [pendingJogDue, he, Option.any_some, hjob]
      exact decide_eq_true hd
    have hleft : removeEntry ax .jogEnd s = { s with mq := { s.mq with
        entries := s.mq.entries.filter fun x => x.axis ≠ ax
        awaited := s.mq.awaited.bind fun w => if w.axis = ax ∧ w.started = false then none else some w } } := by
      rw [removeEntry_jog he hjob, State.mapMq, dropEntries_axis]
    dsimp only
    rw [← hleft]
    have hframe : LensOnly s (dispatch (removeEntry ax .jogEnd s)) := (lensOnly_removeEntry _ _).trans lensOnly_dispatch
    refine ⟨?_, ?_, sameOuter_of_outer hframe.toOuter, hframe.mc, hframe.cc, fun hone => dispatch_nil ?_⟩
    · show event (pendingJogDue s ax) (fun s => dispatch (removeEntry ax .jogEnd s)) s = _
      rw [event_of_due hheld hdue]
    · rw [dispatch_get_of_noEntry (entryOf_removeEntry _ _), removeEntry_jog he hjob]
      rfl
    · rw [hleft, hone]
      simp [(entryOf_axis he).1]
  case head =>
    refine ⟨fun hstops => dispatch_stops hentries fun hcan => ?_, fun hmode hrest hfits => ?_⟩
    · obtain ⟨hmode, hrest, hfits⟩ := (canDispatch_iff s e).mp hcan
      rcases hstops with h | h | h
      · exact hmode h
      · rw [h] at hrest
        cases hrest
      · omega
    · exact dispatch_cons hentries ((canDispatch_iff s e).mpr ⟨hmode, hrest, hfits⟩)
  case start =>
    refine ⟨startEntry_mq e, fun b hb => startEntry_get e b hb, fun m hfate => ?_, fun hfate => ?_⟩
    · have hfate : entryFate e s = .goes m := hfate
      rw [startEntry_eq, hfate]
      refine ⟨?_, fun hperiodic => ?_, fun rc g hcurrent htag hg hwaits => ?_⟩
      · rw [applyFate_goes_get, started_lens]
        rfl
      · have hscan : (applyFate e.axis (.goes m) (started e s)).scan = toTriggered s.scan := by
          show toTriggered _ = _
          rw [(setupOnly_markEntry (s := s.mapAxis e.axis (movingAxis s.now e.job)) e).scan]
          rfl
        rw [hscan, (toTriggered_frame _).2.2.2, if_pos hperiodic]
      · show (markEntry e (s.mapAxis e.axis (movingAxis s.now e.job))).setup.current = _
        rw [markEntry, htag]
        exact markRunning_waiting (s := s.mapAxis e.axis (movingAxis s.now e.job)) hcurrent hg hwaits
    · have hfate : entryFate e s = .ends .jogEnd := hfate
      have hm : ((started e s).lens.get e.axis).motion = some (newMotion s.now (s.lens.get e.axis).state e.job) := by
        rw [started_lens]
        rfl
      have hget := endMotion_ended (st := .jogEnd) hm
      rw [startEntry_eq, hfate]
      show ((endMotion e.axis .jogEnd (started e s)).lens.get e.axis).motion = none ∧ _
      change _ ∧ ((endMotion e.axis .jogEnd (started e s)).lens.get e.axis).state = _
        ∧ ((endMotion e.axis .jogEnd (started e s)).lens.get e.axis).lastEnd = _
        ∧ (endMotion e.axis .jogEnd (started e s)).flagged .motionEnd
      rw [hget, started_lens, reading_eq (sampled_started e s)]
      exact ⟨rfl, rfl, rfl, (flagged_endMotion hm).1⟩

end Sys2Proof.Machine
end

section
-- One declaration at a time: many proofs that wait at once hold a thread each.
set_option Elab.async false
/-! The end of a slow conversion, and the samples through a thermal evaluation (R46 to R52). -/

namespace Sys2Proof.Machine

variable {s t : State} {sn : Sensor} {raw : Raw} {old : Thermistor}

/-! ## An evaluation leaves the samples alone -/

theorem Cooled.sampled (h : Cooled s t) : Sampled s t := by
  obtain ⟨c, a, rfl⟩ := h
  exact sampled_of_scan rfl

theorem sampled_mapFc (f : FocusCompensator → FocusCompensator) : Sampled s (s.mapFc f) := ⟨rfl, rfl, rfl, rfl⟩

theorem sampled_mapMc (f : ModeController → ModeController) : Sampled s (s.mapMc f) := ⟨rfl, rfl, rfl, rfl⟩

theorem sampled_enterTrip (cause : TripCause) (atTrip : SensorSet) : Sampled s (enterTrip cause atTrip s) := by
  have hentry : Sampled s (tripEntry cause atTrip s) := by
    obtain ⟨c, a, heq⟩ := tripEntry_eq cause atTrip s
    exact sampled_of_scan (by rw [heq])
  have habandon : Sampled (tripEntry cause atTrip s) (abandonRecall true (tripEntry cause atTrip s)) := by
    unfold abandonRecall
    split
    · exact .refl _
    · exact sampled_of_scan (setupOnly_endRecall _ _).scan
  exact ((hentry.trans habandon).trans sampled_clearQueue).trans sampled_cutAll

theorem sampled_tripCondition (cause : TripCause) (atTrip : SensorSet) : Sampled s (tripCondition cause atTrip s) := by
  unfold tripCondition
  split
  case h_4 => exact .refl s
  case h_5 => exact .refl s
  all_goals exact sampled_enterTrip _ _

theorem cooled_modeWork : Cooled s (modeWork s) := by
  unfold modeWork
  split
  · exact cooled_runEvaluation
  · exact cooled_mapFans _
  all_goals exact .refl s

theorem sampled_evaluateCooling : Sampled s (evaluateCooling s) := by
  rw [evaluateCooling_eq]
  have h : Sampled s ((modeWork s).mapCc fun c => { c with sensorTrip := sensorsAtTrip (modeWork s) ≠ 0 }) :=
    (cooled_modeWork.trans (cooled_mapCc _)).sampled
  exact .ite (h.trans (sampled_tripCondition _ _)) h

theorem sampled_judgeTrim : Sampled s (judgeTrim s) := by
  unfold judgeTrim
  split
  · exact .refl s
  · exact .ite ((sampled_mapFc _).trans (sampled_appendEntry _)) (.refl s)

theorem sampled_receive (r : Receiver) : Sampled s (receive r s) := by
  cases r with
  | cooling => exact sampled_evaluateCooling
  | focus => exact (sampled_mapFc _).trans sampled_judgeTrim
  | queue => exact .ite ((sampled_mapMq _).trans sampled_dispatch) (sampled_mapMq _)
  | mode => exact .ite ((sampled_mapMc _).trans (sampled_judgeCooldown _)) (.refl s)

/-- An evaluation counts its round and leaves every sample alone (R46). -/
theorem sampled_evaluate : Sampled (signalled s) (evaluate s) := by
  rw [evaluate_eq]
  exact .fold _ (fun _ r => sampled_receive r) _ _

/-! ## A sample at its entry (R48 to R52) -/

theorem isGoodSample_iff : isGoodSample raw = true ↔ 41 ≤ raw.toNat ∧ raw.toNat ≤ 4054 := by
  simp [isGoodSample]

theorem applySample_raw : (applySample raw old).raw = some raw := by
  unfold applySample goodSample badSample emptyRing
  split
  · exact (apply_ite Thermistor.raw _ _ _).trans (ite_self _)
  · dsimp only
    split
    · rfl
    all_goals
      split <;> rfl

/-- A good sample joins the newest three (R48). -/
theorem applySample_good (hring : old.ring.length ≤ 4) (hgood : isGoodSample raw = true) :
    (applySample raw old).ring = (old.ring ++ [raw]).drop (old.ring.length + 1 - 4)
      ∧ (applySample raw old).count = min (old.count + 1) 255 ∧ (applySample raw old).bad = false
      ∧ (3 ≤ old.ring.length → (applySample raw old).state = .valid
          ∧ (applySample raw old).filtered = some (temperatureOf (((applySample raw old).ring.map (·.toNat)).sum / 4)))
      ∧ (old.ring.length < 3 →
          (applySample raw old).state = old.state ∧ (applySample raw old).filtered = old.filtered) := by
  have hdrop : (if old.ring.length < 4 then old.ring else old.ring.drop 1) ++ [raw]
      = (old.ring ++ [raw]).drop (old.ring.length + 1 - 4) := by
    split
    · rw [show old.ring.length + 1 - 4 = 0 by omega, List.drop_zero]
    · rw [show old.ring.length + 1 - 4 = 1 by omega, List.drop_append_of_le_length (by omega)]
  have hlength : ((old.ring ++ [raw]).drop (old.ring.length + 1 - 4)).length = 4 ↔ 3 ≤ old.ring.length := by
    rw [List.length_drop, List.length_append, List.length_singleton]
    omega
  have happly : applySample raw old = goodSample raw { old with raw := some raw } := if_pos hgood
  rw [happly, goodSample]
  dsimp only
  rw [hdrop]
  split
  · next hfull => exact ⟨rfl, rfl, rfl, fun _ => ⟨rfl, rfl⟩, fun hfew => absurd (hlength.mp hfull) (by omega)⟩
  · next hpart => exact ⟨rfl, rfl, rfl, fun hmany => absurd (hlength.mpr hmany) hpart, fun _ => ⟨rfl, rfl⟩⟩

theorem applySample_held (hbad : ¬isGoodSample raw = true) (hstate : old.state ≠ .faulted) (hmark : old.bad = false) :
    applySample raw old = { old with raw := some raw, bad := true } := by
  have happly : applySample raw old = badSample { old with raw := some raw } := if_neg hbad
  rw [happly, badSample]
  dsimp only
  split
  · contradiction
  all_goals exact if_neg (by simp [hmark])

theorem applySample_faults (hbad : ¬isGoodSample raw = true) (h : old.state = .faulted ∨ old.bad = true) :
    applySample raw old = ⟨.faulted, [], false, none, some raw, 0⟩ := by
  have happly : applySample raw old = badSample { old with raw := some raw } := if_neg hbad
  rw [happly, badSample]
  dsimp only
  split
  · rfl
  all_goals
    next hstate => exact if_pos (h.resolve_left (by simp [hstate]))

/-! ## The end of a slow conversion -/

theorem slowEnding_eq {start : Time} (h : s.scan.converting = some ⟨.slow sn, start⟩) (hover : start + 10 ≤ s.now) :
    slowEnding s = some sn := by
  rw [slowEnding, h]
  exact if_pos hover

theorem exec_slowConversionEnd {start : Time} (hheld : s.held = false)
    (h : s.scan.converting = some ⟨.slow sn, start⟩) (hover : start + 10 ≤ s.now) :
    exec (.slowConversionEnd raw) s = .next (endSlow sn raw s) := by
  have hdue := slowEnding_eq h hover
  rw [exec, execSlowConversionEnd, event_of_due hheld (by rw [hdue]; rfl), hdue]
  rfl

/-- A slow conversion's end counts a round after S7 and changes no sample but its own (R46, R47). -/
theorem endSlow_scan : (endSlow sn raw s).scan.therms = s.scan.therms.set sn (applySample raw (s.scan.therms.get sn))
    ∧ (endSlow sn raw s).scan.rounds = s.scan.rounds + (if sn = .s7 then 1 else 0)
    ∧ (endSlow sn raw s).scan.pots = s.scan.pots ∧ (endSlow sn raw s).scan.supply = s.scan.supply := by
  obtain ⟨a, htake⟩ := takeThermistor_eq sn raw s
  have hgrant (u : State) : Sampled u (u.mapScan (grant u.now false)) := sampled_grant _ _
  have hend : endSlow sn raw s = (if sn = .s7 then evaluate (takeThermistor sn raw s) else takeThermistor sn raw s).mapScan
      (grant (if sn = .s7 then evaluate (takeThermistor sn raw s) else takeThermistor sn raw s).now false) := rfl
  rw [hend]
  split
  · obtain ⟨hpots, hsupply, htherms, hrounds⟩ :=
      (sampled_evaluate (s := takeThermistor sn raw s)).trans (hgrant (evaluate (takeThermistor sn raw s)))
    exact ⟨htherms.trans (by rw [htake]; rfl), hrounds.trans (by rw [htake]; rfl), hpots.trans (by rw [htake]; rfl),
      hsupply.trans (by rw [htake]; rfl)⟩
  · obtain ⟨hpots, hsupply, htherms, hrounds⟩ := hgrant (takeThermistor sn raw s)
    refine ⟨htherms.trans (by rw [htake]), hrounds.trans ?_, hpots.trans (by rw [htake]),
      hsupply.trans (by rw [htake])⟩
    rw [htake]
    exact (BitVec.add_zero _).symm

theorem outer_endSlow : Outer s (endSlow sn raw s) := by
  have htake : Outer s (takeThermistor sn raw s) := ((lensOnly_mapScan _).trans (lensOnly_occurIf _ _)).toOuter
  unfold endSlow
  dsimp only
  exact (Outer.ite (htake.trans outer_evaluate) htake).trans (lensOnly_mapScan _).toOuter

theorem flagged_endSlow (hfault : faultsNow raw (s.scan.therms.get sn) = true) :
    (endSlow sn raw s).flagged .sensorFault := by
  have htake : (takeThermistor sn raw s).flagged .sensorFault := flagged_occurIf_self (.inr hfault)
  unfold endSlow
  dsimp only
  have heval : (if sn = .s7 then evaluate (takeThermistor sn raw s) else takeThermistor sn raw s).flagged .sensorFault := by
    split
    · exact laws_evaluate.flagged _ htake
    · exact htake
  exact heval

/-- Settles O51: the sample at its entry, and the evaluation and the grant that leave every sample alone. -/
theorem slowConversionEnds : Obligations.SlowConversionEnds := by
  intro s sn start raw hheld hconverting hover hring
  obtain ⟨htherms, hrounds, hpots, hsupply⟩ := endSlow_scan (s := s) (sn := sn) (raw := raw)
  have hnew : (endSlow sn raw s).scan.therms.get sn = applySample raw (s.scan.therms.get sn) := by
    rw [htherms, PerSensor.get_set, if_pos rfl]
  refine ⟨_, exec_slowConversionEnd hheld hconverting hover, fun other hother => ?_, ?_, hrounds, hpots, hsupply,
    sameOuter_of_outer outer_endSlow, fun hs7 => ?_⟩
  · rw [htherms, PerSensor.get_set, if_neg hother]
  · rw [hnew]
    dsimp only
    rw [← isGoodSample_iff]
    refine ⟨applySample_raw, applySample_good hring, applySample_held, applySample_faults, fun hbad hstate hmark => ?_⟩
    exact flagged_endSlow (by simp [faultsNow, hbad, hmark, hstate])
  · obtain ⟨a, htake⟩ := takeThermistor_eq sn raw s
    have hend : endSlow sn raw s = (takeThermistor sn raw s).mapScan (grant (takeThermistor sn raw s).now false) := by
      unfold endSlow
      dsimp only
      rw [if_neg hs7]
    rw [htherms, hend, htake]
    exact ⟨rfl, granted_grant rfl⟩

end Sys2Proof.Machine
end

section
-- One declaration at a time: many proofs that wait at once hold a thread each.
set_option Elab.async false
/-! The end of a fast conversion: the sample, the motion it carries on or ends, and the grant (R41, R44, R63 to R78). -/

namespace Sys2Proof.Machine

variable {s t u v : State} {ax b : Axis} {m m' : Motion} {st : EndStatus} {raw : Raw} {ch : FastChannel} {now : Time}

/-! ## An end between a stored sample and a grant -/

theorem CooledDown.grant {afterFast : Bool} (h : CooledDown s v) :
    CooledDown s (v.mapScan (grant v.now afterFast)) := by
  obtain ⟨hmc, hrest, hflag, hlight, hfans, hfast, hburst, hinterval, hslow, houter⟩ := h
  obtain ⟨hslow', hburst', hfast', -, -, -, -, hinterval'⟩ := grant_frame (now := v.now) (afterFast := afterFast) (c := v.scan)
  exact ⟨hmc, hrest, hflag, hlight, hfans, hfast'.trans hfast, hburst'.trans hburst, hinterval'.trans hinterval,
    hslow'.trans hslow, houter⟩

theorem FastListFollows.grant (hbusy : s.scan.converting ≠ none) (hfast : u.scan.fastMode = s.scan.fastMode)
    (hburst : u.scan.nextBurst = s.scan.nextBurst) (hlens : u.lens = s.lens) (hnow : u.now = s.now)
    (h : FastListFollows ax u v) : FastListFollows ax s (v.mapScan (grant v.now true)) := by
  obtain ⟨-, hburst', hfast', -⟩ := grant_frame (now := v.now) (afterFast := true) (c := v.scan)
  have hmoving (b : Axis) : u.moving b = s.moving b := by rw [State.moving, State.moving, hlens]
  unfold FastListFollows at h
  simp only [hmoving] at h
  refine ⟨fun hother => ?_, fun hstill htriggered => ?_⟩
  · obtain ⟨hf, hb⟩ := h.1 hother
    exact ⟨hfast'.trans (hf.trans hfast), hburst'.trans (hb.trans hburst)⟩
  · obtain ⟨hf, hb, -⟩ := h.2 hstill (hfast.trans htriggered)
    exact ⟨hfast'.trans hf, hburst'.trans (hb.trans (by rw [hnow])), fun _ _ hfree => absurd hfree hbusy⟩

/-- A sample stored before an end, and a grant after it, leave what the end does as it is. -/
theorem Ended.grant {c : Scanner} (hbusy : s.scan.converting ≠ none) (htherms : c.therms = s.scan.therms)
    (hfast : c.fastMode = s.scan.fastMode) (hburst : c.nextBurst = s.scan.nextBurst)
    (h : Ended ax m st { s with scan := c } v) : Ended ax m st s (v.mapScan (grant v.now true)) := by
  have hsampled : Sampled v (v.mapScan (Machine.grant v.now true)) := sampled_grant _ _
  have hraw : (v.mapScan (Machine.grant v.now true)).rawNow ax = v.rawNow ax := rawNow_eq hsampled rfl _
  have htemp : ({ s with scan := c } : State).validTemp .s3 = s.validTemp .s3 := by
    unfold State.validTemp
    dsimp only
    rw [htherms]
  obtain ⟨hflag, hfault, haxis, halone, hmode, houter⟩ := h
  refine ⟨hflag, hfault, fun hnone => ?_, fun hempty => ?_, hmode, houter⟩
  · obtain ⟨hmotion, hstate, hlast, hcal⟩ := haxis hnone
    exact ⟨hmotion, hstate, hlast.trans (by rw [position_eq hsampled rfl]), hcal⟩
  · obtain ⟨hother, hsetup, hfc, hfollows, hcooled⟩ := halone hempty
    refine ⟨hother, ?_, ?_, fun hnot => ?_, fun hcool hdone hstill => (hcooled hcool hdone hstill).grant⟩
    · obtain ⟨hcounts, hnot, hbase, hjog, hkeep⟩ := hsetup
      exact ⟨hcounts, hnot, hbase, fun up d c hj hst hc => (hjog up d c hj hst hc).trans (by rw [hraw]), hkeep⟩
    · unfold FocusHears at *
      rw [htemp] at hfc
      exact hfc
    · exact FastListFollows.grant (u := { s with scan := c }) hbusy hfast hburst rfl rfl (hfollows hnot)

/-! ## A position sample -/

theorem stepAxis_moves {f : State → State} (h : (f s).moving ax = true) : stepAxis ax f s = f s :=
  if_neg (by simp [h])

theorem stepAxis_rests {f : State → State} (hs : s.moving ax = true) (h : (f s).moving ax = false) :
    stepAxis ax f s = afterLens (f s) := if_pos (by simp [hs, h])

/-- What a position sample does to a running motion (R63 to R77). -/
def sampleAt (ax : Axis) (raw : Raw) (m : Motion) (s : State) : SampleResult :=
  sampleMotion (s.lens.get ax).cal s.now raw (Config.stallFirst (axisNumber ax) s.now) m

/-- The axis with the calibration that a learn has just set, if any (R77). -/
def withLearned (ax : Axis) (c : Option Calibration) (s : State) : State :=
  s.mapAxis ax fun a => { a with cal := c.or a.cal }

theorem withLearned_get (c : Option Calibration) : (withLearned ax c s).lens.get ax
    = { s.lens.get ax with cal := c.or (s.lens.get ax).cal } := by
  rw [withLearned, State.mapAxis, PerAxis.get_set, if_pos rfl]

theorem positionSample_none (hm : (s.lens.get ax).motion = none) : positionSample ax raw s = s := by
  rw [positionSample, hm]
  rfl

theorem positionSample_some (hm : (s.lens.get ax).motion = some m) : positionSample ax raw s
    = stepAxis ax (fun s' => applyFate ax (sampleAt ax raw m s).fate (withLearned ax (sampleAt ax raw m s).learned s')) s := by
  rw [positionSample, hm]
  rfl

theorem positionSample_goes (hm : (s.lens.get ax).motion = some m) (hfate : (sampleAt ax raw m s).fate = .goes m') :
    positionSample ax raw s = applyFate ax (.goes m') (withLearned ax (sampleAt ax raw m s).learned s) := by
  rw [positionSample_some hm, hfate]
  exact stepAxis_moves (by rw [State.moving, applyFate_goes_get]; rfl)

theorem positionSample_ends (hm : (s.lens.get ax).motion = some m) (hfate : (sampleAt ax raw m s).fate = .ends st) :
    positionSample ax raw s = afterLens (endMotion ax st (withLearned ax (sampleAt ax raw m s).learned s)) := by
  rw [positionSample_some hm, hfate]
  refine stepAxis_rests (by rw [State.moving, hm]; rfl) ?_
  rw [State.moving]
  exact congrArg Option.isSome (endMotion_motion ax st)

theorem sampled_stepAxis {f : State → State} (h : Sampled s (f s)) : Sampled s (stepAxis ax f s) :=
  .ite (h.trans sampled_afterLens) h

theorem sampled_positionSample : Sampled s (positionSample ax raw s) := by
  cases hm : (s.lens.get ax).motion with
  | none => rw [positionSample_none hm]; exact .refl s
  | some m =>
    rw [positionSample_some hm]
    have hlearned : Sampled s (withLearned ax (sampleAt ax raw m s).learned s) := sampled_of_scan rfl
    exact sampled_stepAxis (hlearned.trans (sampled_applyFate _))

theorem outer_positionSample : Outer s (positionSample ax raw s) := by
  cases hm : (s.lens.get ax).motion with
  | none => rw [positionSample_none hm]; exact .refl s
  | some m =>
    rw [positionSample_some hm]
    exact outer_stepAxis _ _ ((lensOnly_mapAxis _ _).trans (lensOnly_applyFate _ _)).toOuter

/-! ## A supply sample (R69, R70) -/

theorem supplySample_eq (mv : Nat) (s : State) : supplySample mv s = { s with
    lens := .make fun ax =>
      { s.lens.get ax with motion := (s.lens.get ax).motion.map (supplyAtMotion s.now mv) } } := rfl

theorem supplySample_get (mv : Nat) (ax : Axis) : (supplySample mv s).lens.get ax
    = { s.lens.get ax with motion := (s.lens.get ax).motion.map (supplyAtMotion s.now mv) } := by
  rw [supplySample_eq, PerAxis.get_make]

theorem supplyLow_eq : supplyLow = 10800 := by decide

theorem supplyGood_eq : supplyGood = 11200 := by decide

theorem supplyAtMotion_runs {mv : Nat} (h : m.phase ≠ .paused) :
    supplyAtMotion now mv m = if mv < 10800 then pauseMotion now m else m := by
  unfold supplyAtMotion
  rw [supplyLow_eq]
  split
  · contradiction
  · rfl

theorem supplyAtMotion_paused {mv : Nat} {x : Pause} (h : m.phase = .paused) (hx : m.pause = some x) :
    supplyAtMotion now mv m = { m with pause := some { x with
      resume := if 11200 ≤ mv then some (x.resume.getD now) else none } } := by
  unfold supplyAtMotion
  rw [h, hx, supplyGood_eq]

/-! ## The end of a fast conversion -/

theorem fastEnding_eq {start : Time} (h : s.scan.converting = some ⟨.fast ch, start⟩) (hover : start + 10 ≤ s.now) :
    fastEnding s = some ch := by
  rw [fastEnding, h]
  exact if_pos hover

theorem exec_fastConversionEnd {start : Time} (hheld : s.held = false)
    (h : s.scan.converting = some ⟨.fast ch, start⟩) (hover : start + 10 ≤ s.now) :
    exec (.fastConversionEnd raw) s = .next (endFast ch raw s) := by
  have hdue := fastEnding_eq h hover
  rw [exec, execFastConversionEnd, event_of_due hheld (by rw [hdue]; rfl), hdue]
  rfl

/-- The state with a reading stored and the converter free (R44). -/
def stored (ch : FastChannel) (raw : Raw) (s : State) : State := s.mapScan (storeChannel ch raw)

theorem stored_frame (ch : FastChannel) (raw : Raw) (s : State) :
    (stored ch raw s).scan.therms = s.scan.therms ∧ (stored ch raw s).scan.rounds = s.scan.rounds := by
  cases ch <;> exact ⟨rfl, rfl⟩

theorem sampled_handToLens : Sampled s (handToLens ch raw s) := by
  cases ch with
  | pot ax => exact sampled_positionSample
  | supply => exact sampled_of_scan (by rw [handToLens, supplySample_eq])

theorem outer_handToLens : Outer s (handToLens ch raw s) := by
  cases ch with
  | pot ax => exact outer_positionSample
  | supply =>
    rw [handToLens, supplySample_eq]
    exact ⟨rfl, rfl, rfl, rfl, rfl, rfl⟩

theorem endFast_eq : endFast ch raw s = (handToLens ch raw (stored ch raw s)).mapScan
    (grant (handToLens ch raw (stored ch raw s)).now true) := rfl

theorem sampled_endFast : Sampled (stored ch raw s) (endFast ch raw s) :=
  sampled_handToLens.trans (sampled_grant _ _)

theorem endFast_supply : (endFast .supply raw s).mq = s.mq ∧ (endFast .supply raw s).mc = s.mc
    ∧ (endFast .supply raw s).cc = s.cc ∧ (endFast .supply raw s).setup = s.setup := by
  rw [endFast_eq, handToLens, supplySample_eq]
  exact ⟨rfl, rfl, rfl, rfl⟩

/-- A motion that goes on keeps the rest of its axis, but for a calibration that it has just learned (R77). -/
theorem goes_withLearned (c : Option Calibration) : applyFate ax (.goes m') (withLearned ax c s) = { s with
    lens := s.lens.set ax { s.lens.get ax with motion := some m', cal := c.or (s.lens.get ax).cal } } := by
  have hget := withLearned_get (s := s) (ax := ax) c
  have hset : ((withLearned ax c s).lens.set ax { (withLearned ax c s).lens.get ax with motion := some m' })
      = s.lens.set ax { s.lens.get ax with motion := some m', cal := c.or (s.lens.get ax).cal } := by
    rw [hget]
    cases ax <;> rfl
  show ({ withLearned ax c s with lens := _ } : State) = _
  rw [hset]
  rfl

theorem sampleMotion_settle {cal : Option Calibration} {first : Bool} (h : m.phase = .settle) :
    (sampleMotion cal now raw first m).learned = none := by
  unfold sampleMotion
  rw [h]

/-- The end of a motion at a sample, with the sample stored before it and the grant after it. -/
theorem ended_endFast (hbusy : s.scan.converting ≠ none) (hm : (s.lens.get ax).motion = some m)
    (hfate : (sampleAt ax raw m s).fate = .ends st) :
    Ended ax m st (withLearned ax (sampleAt ax raw m s).learned s) (endFast (.pot ax) raw s) := by
  have hpos : handToLens (.pot ax) raw (stored (.pot ax) raw s)
      = afterLens (endMotion ax st (withLearned ax (sampleAt ax raw m s).learned (stored (.pot ax) raw s))) :=
    positionSample_ends (s := stored (.pot ax) raw s) hm hfate
  have hm' : ((withLearned ax (sampleAt ax raw m s).learned (stored (.pot ax) raw s)).lens.get ax).motion = some m := by
    rw [withLearned_get]
    exact hm
  rw [endFast_eq, hpos]
  exact Ended.grant (s := withLearned ax (sampleAt ax raw m s).learned s) (c := storeChannel (.pot ax) raw s.scan)
    hbusy rfl rfl rfl (ended_afterLens hm')

/-- Settles O52: the sample stored, the motion's fate, and the grant; the samples of each phase are their own lemmas. -/
theorem fastConversionEnds : Obligations.FastConversionEnds := by
  refine ⟨fun s ch start raw hheld hconverting hover => ?_, settleSamples, legSamples, jogSamples, learnSamples,
    fun cal now raw first m h => sampleMotion_off h⟩
  have hbusy : s.scan.converting ≠ none := by rw [hconverting]; nofun
  have hsampled := sampled_endFast (s := s) (ch := ch) (raw := raw)
  have houter : Outer s (endFast ch raw s) :=
    ((lensOnly_mapScan _).toOuter.trans outer_handToLens).trans (lensOnly_mapScan _).toOuter
  obtain ⟨htherms, hrounds⟩ := stored_frame ch raw s
  refine ⟨_, exec_fastConversionEnd hheld hconverting hover, sameOuter_of_outer houter,
    hsampled.therms.trans htherms, hsampled.rounds.trans hrounds, ?pot, ?supply⟩
  case pot =>
    rintro ax rfl
    have hpots : (endFast (.pot ax) raw s).scan.pots
        = s.scan.pots.set ax ⟨some raw, min ((s.scan.pots.get ax).count + 1) 255⟩ := hsampled.pots
    have hgranted {u : State} (h : u.scan = (stored (.pot ax) raw s).scan) : Granted s.now true
        { s.scan with pots := (endFast (.pot ax) raw s).scan.pots, converting := none }
        (u.mapScan (grant s.now true)).scan := by
      rw [hpots]
      show Granted _ _ _ (grant s.now true u.scan)
      rw [h]
      exact granted_grant rfl
    refine ⟨hpots, hsampled.supply, fun hstill => ?_, fun m target st c hm hc htarget hphase hst hwait hcount hnear => ?_,
      fun m hm => ⟨fun m' hfate => ?_, fun status hfate => ended_endFast hbusy hm hfate⟩⟩
    · have hnone : ((stored (.pot ax) raw s).lens.get ax).motion = none :=
        Option.isNone_iff_eq_none.mp (Option.isSome_eq_false_iff.mp hstill)
      have hend : endFast (.pot ax) raw s = (stored (.pot ax) raw s).mapScan (grant s.now true) := by
        rw [endFast_eq, handToLens, positionSample_none hnone]
        rfl
      refine ⟨by rw [hend]; rfl, ?_⟩
      have h := hgranted (u := stored (.pot ax) raw s) rfl
      rw [← hend] at h
      exact h
    · have hfate : (sampleAt ax raw m s).fate = .ends .arrived := by
        rw [sampleAt, hc]
        exact (settleSamples c s.now raw _ m st target hphase hst htarget).2.2.1 hwait hnear hcount
      have h := ended_endFast hbusy hm hfate
      have hlearned : (sampleAt ax raw m s).learned = none := sampleMotion_settle hphase
      have hself : withLearned ax none s = s := mapAxis_self rfl
      rw [hlearned, hself] at h
      exact h
    · have hend : endFast (.pot ax) raw s = (applyFate ax (.goes m')
          (withLearned ax (sampleAt ax raw m s).learned (stored (.pot ax) raw s))).mapScan (grant s.now true) := by
        have hpos : handToLens (.pot ax) raw (stored (.pot ax) raw s) = _ :=
          positionSample_goes (s := stored (.pot ax) raw s) hm hfate
        rw [endFast_eq, hpos]
        rfl
      have hscan := hgranted (u := applyFate ax (.goes m')
        (withLearned ax (sampleAt ax raw m s).learned (stored (.pot ax) raw s))) rfl
      rw [← hend] at hscan
      refine ⟨?_, hscan⟩
      rw [hend, goes_withLearned]
      rfl
  case supply =>
    rintro rfl
    have hsupply : (endFast .supply raw s).scan.supply = ⟨some raw, min (s.scan.supply.count + 1) 255⟩ := hsampled.supply
    have hget (ax : Axis) : (endFast .supply raw s).lens.get ax = { s.lens.get ax with
        motion := (s.lens.get ax).motion.map (supplyAtMotion s.now (supplyMillivolts raw)) } :=
      supplySample_get (s := stored .supply raw s) _ ax
    have hmotion {ax : Axis} {m : Motion} (hm : (s.lens.get ax).motion = some m) :
        ((endFast .supply raw s).lens.get ax).motion = some (supplyAtMotion s.now (supplyMillivolts raw) m) := by
      rw [hget, hm]
      rfl
    refine ⟨hsupply, hsampled.pots, ?_, fun ax hm => ?_, fun ax m hm hbrake hpaused hlow => ?_, fun ax m hm h => ?_,
      fun ax m x hm hpaused hx => ?_, endFast_supply⟩
    · rw [hsupply]
      exact granted_grant (c := (stored .supply raw s).scan) rfl
    · rw [hget, hm, Option.map_none, ← hm]
    · rw [hmotion hm, supplyAtMotion_runs hpaused, if_pos hlow, pauseMotion_eq hbrake hpaused]
    · have hsame : supplyAtMotion s.now (supplyMillivolts raw) m = m := by
        rcases h with h | ⟨h, hpaused⟩
        · rw [supplyAtMotion_runs (by rw [h]; nofun), pauseMotion, h]
          exact ite_self _
        · rw [supplyAtMotion_runs hpaused, if_neg (by omega)]
      rw [hget, hm, Option.map_some, hsame, ← hm]
    · rw [hmotion hm, supplyAtMotion_paused hpaused hx]

end Sys2Proof.Machine
end

section
-- One declaration at a time: many proofs that wait at once hold a thread each.
set_option Elab.async false
/-! What an entry that joins the queue becomes, and what dispatch leaves of the setup and of the response that waits
(R80, R85, R97, R98). -/

namespace Sys2Proof.Machine

variable {s t u : State} {ax b : Axis} {m : Motion} {st : EndStatus} {e x : Entry} {rest : List Entry} {r : AxisRecord}

/-! ## The entries of an axis -/

/-- The entries of an axis, oldest first. -/
def entriesOf (ax : Axis) (s : State) : List Entry := s.mq.entries.filter (·.axis = ax)

theorem entryOf_eq_head : s.entryOf ax = (entriesOf ax s).head? := List.head?_filter.symm

theorem entriesOf_eq_nil : entriesOf ax s = [] ↔ s.entryOf ax = none := by
  rw [entryOf_eq_head, List.head?_eq_none_iff]

theorem entriesOf_cons (hentries : s.mq.entries = x :: rest) :
    entriesOf ax s = if x.axis = ax then x :: rest.filter (·.axis = ax) else rest.filter (·.axis = ax) := by
  rw [entriesOf, hentries, List.filter_cons]
  simp only [decide_eq_true_eq]

theorem entriesOf_startEntry :
    entriesOf ax (startEntry x (s.mapMq (takeHead x rest))) = rest.filter (·.axis = ax) := by
  rw [entriesOf, startEntry_mq]
  rfl

/-- The start of another axis's entry leaves the entries of an axis. -/
theorem entriesOf_startEntry_other (hentries : s.mq.entries = x :: rest) (hne : x.axis ≠ ax) :
    entriesOf ax (startEntry x (s.mapMq (takeHead x rest))) = entriesOf ax s := by
  rw [entriesOf_startEntry, entriesOf_cons hentries, if_neg hne]

/-- The start of an axis's only entry leaves it none. -/
theorem entriesOf_startEntry_one (hentries : s.mq.entries = x :: rest) (hone : entriesOf ax s = [e]) (hax : x.axis = ax) :
    x = e ∧ entriesOf ax (startEntry x (s.mapMq (takeHead x rest))) = [] := by
  rw [entriesOf_cons hentries, if_pos hax] at hone
  obtain ⟨hx, hrest⟩ := List.cons.inj hone
  exact ⟨hx, entriesOf_startEntry.trans hrest⟩

/-! ## The start of an entry -/

/-- The axis of an entry that starts (R57, R75): a motion with its job runs, or a jog has ended at its dispatch. -/
theorem startEntry_axis (e : Entry) (s : State) : (∃ m, m.job = e.job
      ∧ (startEntry e s).lens.get e.axis = { s.lens.get e.axis with state := .moving, motion := some m })
    ∨ ∃ m up d, m.job = e.job ∧ e.job = .jog up d
      ∧ (startEntry e s).lens.get e.axis = endedAxis m .jogEnd (s.reading e.axis)
          { s.lens.get e.axis with state := .moving, motion := some m }
      ∧ (atSoftLimit (s.lens.get e.axis).cal up (s.rawNow e.axis) = true ∨ d ≤ s.now) := by
  have hdoes := dispatchMotion_does e.axis s.ge.orient (s.lens.get e.axis).cal s.now (s.rawNow e.axis) s.supplyIsLow
    (s.lens.get e.axis).state e.job
  rw [startEntry_eq]
  cases hfate : entryFate e s with
  | goes m =>
    rw [entryFate] at hfate
    rw [hfate] at hdoes
    exact .inl ⟨m, hdoes, by rw [applyFate_goes_get, started_lens]; rfl⟩
  | ends st =>
    rw [entryFate] at hfate
    rw [hfate] at hdoes
    obtain ⟨rfl, up, d, hjog, hwhy⟩ := hdoes
    refine .inr ⟨newMotion s.now (s.lens.get e.axis).state e.job, up, d, rfl, hjog, ?_, hwhy⟩
    have hm : ((started e s).lens.get e.axis).motion = some (newMotion s.now (s.lens.get e.axis).state e.job) := by
      rw [started_lens]
      rfl
    show (endMotion e.axis .jogEnd (started e s)).lens.get e.axis = _
    rw [endMotion_ended hm, started_lens, reading_eq (sampled_started e s)]
    rfl

/-! ## What an entry becomes -/

/-- How the only entry of an axis stands in a state reached from one whose axis has this record: it waits and the axis is
as it was; a motion with its job runs; or, a jog, it has ended at its dispatch (R75, R97, R98). -/
inductive Stands (e : Entry) (r : AxisRecord) (s t : State) : Prop where
  | waits (hone : entriesOf e.axis t = [e]) (hget : t.lens.get e.axis = r)
  | runs (m : Motion) (hnone : entriesOf e.axis t = []) (hfree : r.motion = none) (hjob : m.job = e.job)
      (hget : t.lens.get e.axis = { r with state := .moving, motion := some m })
  | ended (m : Motion) (up : Bool) (d : Time) (hnone : entriesOf e.axis t = []) (hfree : r.motion = none)
      (hm : m.job = e.job) (hjob : e.job = .jog up d)
      (hget : t.lens.get e.axis = endedAxis m .jogEnd (s.reading e.axis) { r with state := .moving, motion := some m })
      (hwhy : atSoftLimit r.cal up (s.rawNow e.axis) = true ∨ d ≤ s.now)

/-- What leaves an axis and its entries alone leaves alone how its entry stands. -/
theorem Stands.congr (h : Stands e r s t) (hentries : entriesOf e.axis u = entriesOf e.axis t)
    (hlens : u.lens.get e.axis = t.lens.get e.axis) : Stands e r s u := by
  cases h with
  | waits hone hget => exact .waits (hentries.trans hone) (hlens.trans hget)
  | runs m hnone hfree hjob hget => exact .runs m (hentries.trans hnone) hfree hjob (hlens.trans hget)
  | ended m up d hnone hfree hm hjob hget hwhy =>
    exact .ended m up d (hentries.trans hnone) hfree hm hjob (hlens.trans hget) hwhy

theorem stands_startEntry (hentries : t.mq.entries = x :: rest) (hcan : canDispatch t x = true) (hsampled : Sampled s t)
    (hnow : t.now = s.now) (h : Stands e r s t) : Stands e r s (startEntry x (t.mapMq (takeHead x rest))) := by
  by_cases hax : x.axis = e.axis
  · cases h with
    | waits hone hget =>
      obtain ⟨rfl, hnone⟩ := entriesOf_startEntry_one hentries hone hax
      have hfree : r.motion = none := by
        have hrest := ((canDispatch_iff t x).mp hcan).2.1
        rw [State.moving, hget] at hrest
        exact Option.isNone_iff_eq_none.mp (Option.isSome_eq_false_iff.mp hrest)
      have hget' : (t.mapMq (takeHead x rest)).lens.get x.axis = r := hget
      have hraw : (t.mapMq (takeHead x rest)).rawNow x.axis = s.rawNow x.axis := rawNow_eq hsampled hnow _
      have hreading : (t.mapMq (takeHead x rest)).reading x.axis = s.reading x.axis := reading_eq hsampled _
      obtain ⟨m, hjob, hstart⟩ | ⟨m, up, d, hm, hjob, hstart, hwhy⟩ := startEntry_axis x (t.mapMq (takeHead x rest))
      · exact .runs m hnone hfree hjob (by rw [hstart, hget'])
      · rw [hget', hreading] at hstart
        rw [hget', hraw] at hwhy
        exact .ended m up d hnone hfree hm hjob hstart (hnow ▸ hwhy)
    | runs m hnone =>
      rw [entriesOf_cons hentries, if_pos hax] at hnone
      cases hnone
    | ended m up d hnone =>
      rw [entriesOf_cons hentries, if_pos hax] at hnone
      cases hnone
  · exact h.congr (entriesOf_startEntry_other hentries hax) (startEntry_get _ _ (Ne.symm hax))

/-- Dispatch leaves an entry waiting, starts it, or finds it started (R97). -/
theorem Stands.dispatch (hsampled : Sampled s t) (hnow : t.now = s.now) (h : Stands e r s t) :
    Stands e r s (dispatch t) :=
  (dispatch_keeps (s := t) (fun u => Sampled s u ∧ u.now = s.now ∧ Stands e r s u)
    (fun _ _ _ ⟨hs, hn, hstands⟩ hentries hcan => ⟨hs.trans (sampled_startEntry _ _),
      ((lensOnly_mapMq _).trans (lensOnly_startEntry _)).now.trans hn, stands_startEntry hentries hcan hs hn hstands⟩)
    ⟨hsampled, hnow, h⟩).2.2

/-- An entry that joins for an axis without one waits, runs or has ended (R80, R97). -/
theorem stands_appendEntry (hsampled : Sampled s t) (hnow : t.now = s.now) (hnone : t.entryOf e.axis = none) :
    Stands e (t.lens.get e.axis) s (appendEntry e t) := by
  refine Stands.dispatch (hsampled.trans (sampled_mapMq _)) hnow (.waits ?_ rfl)
  have hnil := entriesOf_eq_nil.mpr hnone
  unfold entriesOf at *
  rw [State.mapMq, List.filter_append, hnil]
  simp

theorem Stands.has (hjob : ∀ up d, e.job ≠ .jog up d) (h : Stands e r s t) : t.Has e.axis e.job := by
  cases h with
  | waits hone _ =>
    have hmem : e ∈ entriesOf e.axis t := by rw [hone]; exact .head _
    exact .inl ⟨e, (List.mem_filter.mp hmem).1, rfl, rfl⟩
  | runs m _ _ hm hget => exact .inr ⟨m, by rw [hget], hm⟩
  | ended m up d _ _ _ hjog => exact absurd hjog (hjob up d)

/-- An axis that moved keeps its record while the entry for it waits. -/
theorem Stands.get_of_moving (hm : r.motion = some m) (h : Stands e r s t) : t.lens.get e.axis = r := by
  cases h with
  | waits _ hget => exact hget
  | runs _ _ hfree => rw [hfree] at hm; cases hm
  | ended _ _ _ _ hfree => rw [hfree] at hm; cases hm

/-! ## A response that waits for a dispatch (R85, R88, R91) -/

/-- The response says whether the entry for the axis, of which there is at most one, has been dispatched. -/
def Awaits (ax : Axis) (place : Nat) (t : State) : Prop :=
  t.mq.awaited = some ⟨ax, place, decide (t.entryOf ax = none)⟩ ∧ (entriesOf ax t).length ≤ 1

theorem awaits_dispatch {place : Nat} (h : Awaits ax place t) : Awaits ax place (dispatch t) := by
  refine dispatch_keeps (Awaits ax place) (fun t x rest ⟨hawaited, hlength⟩ hentries _ => ?_) h
  have hstart : (startEntry x (t.mapMq (takeHead x rest))).mq.awaited = t.mq.awaited.map (Awaited.start x.axis) := by
    rw [startEntry_mq]
    rfl
  rw [Awaits, hstart, hawaited, Option.map_some, Awaited.start]
  by_cases hax : x.axis = ax
  · have hcons := entriesOf_cons (ax := ax) hentries
    rw [if_pos hax] at hcons
    have hnil : rest.filter (·.axis = ax) = [] := by
      rw [hcons, List.length_cons] at hlength
      exact List.eq_nil_of_length_eq_zero (by omega)
    have hstarted := (entriesOf_startEntry (s := t) (ax := ax) (x := x)).trans hnil
    rw [hstarted, if_pos hax.symm, entriesOf_eq_nil.mp hstarted]
    exact ⟨rfl, Nat.zero_le _⟩
  · have hsame := entriesOf_startEntry_other (ax := ax) hentries hax
    have hentry : (startEntry x (t.mapMq (takeHead x rest))).entryOf ax = t.entryOf ax := by
      rw [entryOf_eq_head, hsame, ← entryOf_eq_head]
    rw [hsame, hentry, if_neg (Ne.symm hax)]
    exact ⟨rfl, hlength⟩

theorem awaited_appendAwaited {place : Nat} (hnone : t.entryOf e.axis = none) :
    (appendAwaited place e t).mq.awaited
      = some ⟨e.axis, place, decide ((appendAwaited place e t).entryOf e.axis = none)⟩ := by
  refine (awaits_dispatch (ax := e.axis) ⟨?_, ?_⟩).1
  · have hsome : (((t.mapMq fun q => { q with awaited := some ⟨e.axis, place, false⟩ }).mapMq
        fun q => { q with entries := q.entries ++ [e] }).entryOf e.axis) ≠ none := fun h =>
      entryOf_eq_none_iff.mp h e (List.mem_append_right _ (List.mem_singleton_self _)) rfl
    rw [decide_eq_false hsome]
    rfl
  · have hnil := entriesOf_eq_nil.mpr hnone
    unfold entriesOf at *
    simp only [State.mapMq, List.filter_append, hnil]
    exact List.length_filter_le _ _

/-! ## What dispatch leaves of the setup -/

/-- The banks are the same, and so is the live setup, but for base targets, Tref and the progress of a recall. -/
structure Carried (s t : State) : Prop where
  setup : t.setup = { s.setup with base := t.setup.base, tref := t.setup.tref, current := t.setup.current }
  ge : t.ge = s.ge

theorem Carried.refl (s : State) : Carried s s := ⟨rfl, rfl⟩

theorem Carried.trans (h : Carried s t) (k : Carried t u) : Carried s u :=
  ⟨k.setup.trans (by rw [h.setup]), k.ge.trans h.ge⟩

theorem Carried.modified (h : Carried s t) : t.setup.modified = s.setup.modified := by rw [h.setup]

theorem carried_of_setup (hsetup : t.setup = s.setup) (hge : t.ge = s.ge) : Carried s t := ⟨by rw [hsetup], hge⟩

theorem markRunning_current (tag : Nat) : ∃ o, (markRunning ax tag s) = s.mapSetup fun a => { a with current := o } := by
  unfold markRunning
  split
  · exact ⟨s.setup.current, rfl⟩
  · split
    · exact ⟨_, rfl⟩
    · exact ⟨s.setup.current, rfl⟩

theorem markEntry_eq (e : Entry) (s : State) : ∃ o, markEntry e s = s.mapSetup fun a => { a with current := o } := by
  unfold markEntry
  cases jobTag e.job with
  | none => exact ⟨s.setup.current, rfl⟩
  | some tag => exact markRunning_current tag

theorem setupEnd_jog {up : Bool} {d : Time} (cal : Option Calibration) : ∃ base, setupEnd ax cal (.jog up d) st s
      = s.mapSetup (fun a => { a with base := base }) ∧ ∀ b, b ≠ ax → base.get b = s.setup.base.get b := by
  obtain ⟨h, -⟩ | ⟨c, -, -, h⟩ := jogBase_eq (ax := ax) (st := st) (s := s) cal
  · exact ⟨s.setup.base, h, fun _ _ => rfl⟩
  · exact ⟨_, h, fun b hb => by rw [PerAxis.get_set, if_neg hb]⟩

/-- Only the end of a jog at its dispatch touches a base target, that of its own axis (R75). -/
theorem startEntry_setup (e : Entry) (s : State) : Carried s (startEntry e s)
    ∧ (startEntry e s).setup.current = (markEntry e s).setup.current
    ∧ (∀ b, b ≠ e.axis ∨ (∀ up d, e.job ≠ .jog up d) →
        (startEntry e s).setup.base.get b = s.setup.base.get b) := by
  have hdoes := dispatchMotion_does e.axis s.ge.orient (s.lens.get e.axis).cal s.now (s.rawNow e.axis) s.supplyIsLow
    (s.lens.get e.axis).state e.job
  have hstarted : (started e s).setup = (markEntry e s).setup ∧ (started e s).ge = s.ge := by
    unfold started markEntry
    cases jobTag e.job with
    | none => exact ⟨rfl, rfl⟩
    | some tag =>
      simp only [Option.elim_some, markRunning, State.mapScan, State.mapAxis]
      cases s.setup.current with
      | none => exact ⟨rfl, rfl⟩
      | some rc =>
        dsimp only
        split <;> exact ⟨rfl, rfl⟩
  obtain ⟨o, hmark⟩ := markEntry_eq e s
  rw [startEntry_eq]
  cases hfate : entryFate e s with
  | goes m =>
    have hsetup : (applyFate e.axis (.goes m) (started e s)).setup = (markEntry e s).setup := hstarted.1
    have hge : (applyFate e.axis (.goes m) (started e s)).ge = s.ge := hstarted.2
    refine ⟨⟨?_, hge⟩, by rw [hsetup], fun b _ => ?_⟩
    · rw [hsetup, hmark]
      rfl
    · rw [hsetup, hmark]
      rfl
  | ends st =>
    rw [entryFate] at hfate
    rw [hfate] at hdoes
    obtain ⟨rfl, up, d, hjog, -⟩ := hdoes
    have hm : ((started e s).lens.get e.axis).motion = some (newMotion s.now (s.lens.get e.axis).state e.job) := by
      rw [started_lens]
      rfl
    have hstays := endMotion_stays (st := .jogEnd) hm
    have hjob : (newMotion s.now (s.lens.get e.axis).state e.job).job = .jog up d := hjog
    rw [hjob] at hstays
    obtain ⟨base, hend, hbase⟩ := setupEnd_jog (ax := e.axis) (st := .jogEnd) (up := up) (d := d)
      (s := endedState e.axis (newMotion s.now (s.lens.get e.axis).state e.job) .jogEnd (started e s))
      ((endedState e.axis (newMotion s.now (s.lens.get e.axis).state e.job) .jogEnd (started e s)).lens.get e.axis).cal
    rw [hend] at hstays
    obtain ⟨hsetup, hge, -⟩ := hstays
    have hsame : (endedState e.axis (newMotion s.now (s.lens.get e.axis).state e.job) .jogEnd (started e s)).setup
        = (markEntry e s).setup := hstarted.1
    show Carried s (endMotion e.axis .jogEnd (started e s))
      ∧ (endMotion e.axis .jogEnd (started e s)).setup.current = _
      ∧ ∀ b, _ → (endMotion e.axis .jogEnd (started e s)).setup.base.get b = _
    simp only [State.mapSetup, hsame] at hsetup hbase
    generalize (endMotion e.axis .jogEnd (started e s)).setup.tref = tref at hsetup
    refine ⟨⟨?_, hge.trans hstarted.2⟩, by rw [hsetup], fun b hb => ?_⟩
    · rw [hsetup, hmark]
      rfl
    · rw [hsetup]
      refine (hbase b (hb.resolve_right fun h => h up d hjog)).trans ?_
      rw [hmark]
      rfl

theorem carried_dispatch : Carried s (dispatch s) :=
  dispatch_keeps (Carried s) (fun t _ _ h _ _ => (h.trans (carried_of_setup (t := t.mapMq _) rfl rfl)).trans
    (startEntry_setup _ _).1) (.refl s)

/-- Dispatch leaves the base target of an axis that has no jog waiting. -/
theorem dispatch_base (h : ∀ e ∈ s.mq.entries, e.axis = b → ∀ up d, e.job ≠ .jog up d) :
    (dispatch s).setup.base.get b = s.setup.base.get b := by
  refine (dispatch_keeps (s := s) (fun t => (∀ e ∈ t.mq.entries, e.axis = b → ∀ up d, e.job ≠ .jog up d)
    ∧ t.setup.base.get b = s.setup.base.get b) (fun t x rest ⟨hjobs, hbase⟩ hentries _ =>
      ⟨fun y hy => ?_, ?_⟩) ⟨h, rfl⟩).2
  · rw [startEntry_mq] at hy
    exact hjobs y (hentries ▸ List.mem_cons_of_mem _ hy)
  · refine ((startEntry_setup x (t.mapMq (takeHead x rest))).2.2 b ?_).trans hbase
    by_cases hax : x.axis = b
    · exact .inr (hjobs x (hentries ▸ .head _) hax)
    · exact .inl (Ne.symm hax)

theorem dispatch_base_of_noEntry (h : s.entryOf b = none) : (dispatch s).setup.base.get b = s.setup.base.get b :=
  dispatch_base fun e he hax => absurd hax (entryOf_eq_none_iff.mp h e he)

end Sys2Proof.Machine
end

section
-- One declaration at a time: many proofs that wait at once hold a thread each.
set_option Elab.async false
/-! An axis cleared for a new entry, and the requests that clear one: LN_MOVE, LN_JOG, LN_LEARN (R71, R85 to R92). -/

namespace Sys2Proof.Machine

variable {s t u : State} {ax b : Axis} {m : Motion} {e : Entry} {r : AxisRecord} {st : Motion → EndStatus}
  {rm status : EndStatus}

/-! ## What the steps of a clearing leave of another axis -/

/-- An axis that dispatch leaves alone: it has no entry, or it is MOVING. -/
def Aside (b : Axis) (s : State) : Prop := s.entryOf b = none ∨ s.moving b = true

theorem dispatch_get (h : Aside b s) : (dispatch s).lens.get b = s.lens.get b :=
  h.elim dispatch_get_of_noEntry dispatch_get_of_moving

theorem handRemoved_setup (st : EndStatus) (e : Entry) : (handRemoved st e s).lens = s.lens
    ∧ (handRemoved st e s).setup.base = s.setup.base := by
  unfold handRemoved
  split
  · exact ⟨(setupOnly_recordRecall _ _ _).lens, recordRecall_base.1⟩
  all_goals exact ⟨rfl, rfl⟩

/-- A removal leaves every axis and every base target alone, and the entries of the other axes (R83). -/
theorem removeEntry_frame (ax : Axis) (st : EndStatus) : (removeEntry ax st s).lens = s.lens
    ∧ (removeEntry ax st s).setup.base = s.setup.base
    ∧ ∀ b, b ≠ ax → entriesOf b (removeEntry ax st s) = entriesOf b s := by
  cases he : s.entryOf ax with
  | none =>
    have hsame : removeEntry ax st s = s := by unfold removeEntry; rw [he]
    rw [hsame]
    exact ⟨rfl, rfl, fun _ _ => rfl⟩
  | some e =>
    have hmq := removeEntry_mq ax st (s := s) (by rw [he]; rfl)
    have hsame : removeEntry ax st s = handRemoved st e (s.mapMq (dropEntries (· = ax))) := by unfold removeEntry; rw [he]
    obtain ⟨hlens, hbase⟩ := handRemoved_setup (s := s.mapMq (dropEntries (· = ax))) st e
    refine ⟨hsame ▸ hlens, hsame ▸ hbase, fun b hb => ?_⟩
    unfold entriesOf
    rw [hmq]
    simp only [dropEntries, List.filter_filter]
    refine List.filter_congr fun x _ => ?_
    by_cases h : x.axis = b
    · simp [h, hb]
    · simp [h]

theorem entryOf_removeEntry_other (hb : b ≠ ax) (st : EndStatus) : (removeEntry ax st s).entryOf b = s.entryOf b := by
  rw [entryOf_eq_head, (removeEntry_frame ax st).2.2 b hb, ← entryOf_eq_head]

/-- The end of a motion leaves the base targets of the other axes alone (R75). -/
theorem endMotion_base (hb : b ≠ ax) (st : EndStatus) : (endMotion ax st s).setup.base.get b = s.setup.base.get b := by
  cases hm : (s.lens.get ax).motion with
  | none => rw [endMotion_none hm]
  | some m =>
    obtain ⟨-, -, -, -, -, hbase⟩ := (endMotion_stays (st := st) hm).current
    rw [hbase]
    have hstate : (endedState ax m st s).setup.base = s.setup.base := rfl
    cases hjob : m.job with
    | jog up d =>
      obtain ⟨base, hend, hother⟩ := setupEnd_jog (ax := ax) (st := st) (up := up) (d := d) (s := endedState ax m st s)
        ((endedState ax m st s).lens.get ax).cal
      rw [hend]
      exact hother b hb
    | ofRecall _ tag => exact congrArg (PerAxis.get · b) recordRecall_base.1
    | move _ => rfl
    | trim _ => rfl
    | park _ => rfl
    | learn => rfl

theorem requestEnd_base (hb : b ≠ ax) : (requestEnd ax st s).setup.base.get b = s.setup.base.get b := by
  unfold requestEnd
  split
  · rfl
  · unfold applyFate
    split
    · rfl
    · exact endMotion_base hb _

theorem entriesOf_requestEnd : entriesOf b (requestEnd ax st s) = entriesOf b s := by
  unfold entriesOf
  rw [requestEnd_mq]

/-- The steps of a clearing, outside COOLDOWN: an end request, a removal, and dispatch between and after them (R85). -/
theorem clearAxis_keeps (hmode : s.mc.mode ≠ .cooldown) (P : State → Prop) (hrequest : P (requestEnd ax st s))
    (hdispatch : ∀ u, P u → P (dispatch u)) (hremove : ∀ u, P u → P (removeEntry ax rm u)) :
    P (clearAxis ax st rm s) := by
  have hstep : P (stepAxis ax (requestEnd ax st) s) := by
    unfold stepAxis
    split
    · rw [afterLens_of_not_cooldown (by rw [(lensOnly_requestEnd _ _).mc]; exact hmode)]
      exact hdispatch _ hrequest
    · exact hrequest
  unfold clearAxis
  dsimp only
  split
  · exact hdispatch _ (hremove _ hstep)
  · exact hstep

theorem sampled_clearAxis (hmode : s.mc.mode ≠ .cooldown) : Sampled s (clearAxis ax st rm s) :=
  clearAxis_keeps hmode (Sampled s) (sampled_requestEnd _) (fun _ h => h.trans sampled_dispatch)
    fun _ h => h.trans (sampled_removeEntry _ _)

/-- A clearing leaves an axis without an entry as it is. -/
theorem clearAxis_other (hmode : s.mc.mode ≠ .cooldown) (hb : b ≠ ax) (hnone : s.entryOf b = none) :
    (clearAxis ax st rm s).entryOf b = none ∧ (clearAxis ax st rm s).lens.get b = s.lens.get b
      ∧ (clearAxis ax st rm s).setup.base.get b = s.setup.base.get b := by
  refine clearAxis_keeps hmode
    (fun u => u.entryOf b = none ∧ u.lens.get b = s.lens.get b ∧ u.setup.base.get b = s.setup.base.get b)
    ⟨?_, requestEnd_get _ _ _ hb, requestEnd_base hb⟩ (fun u ⟨he, hl, hbase⟩ => ?_) fun u ⟨he, hl, hbase⟩ => ?_
  · rw [← entriesOf_eq_nil, entriesOf_requestEnd, entriesOf_eq_nil]
    exact hnone
  · exact ⟨entryOf_dispatch he, (dispatch_get (.inl he)).trans hl, (dispatch_base_of_noEntry he).trans hbase⟩
  · obtain ⟨hlens, hb', -⟩ := removeEntry_frame (s := u) ax rm
    exact ⟨(entryOf_removeEntry_other hb _).trans he, (by rw [hlens]; exact hl), by rw [hb']; exact hbase⟩

/-- A clearing leaves a MOVING axis as it is. -/
theorem clearAxis_moving (hmode : s.mc.mode ≠ .cooldown) (hb : b ≠ ax) (hmoves : s.moving b = true) :
    (clearAxis ax st rm s).lens.get b = s.lens.get b := by
  refine clearAxis_keeps hmode (fun u => u.lens.get b = s.lens.get b) (requestEnd_get _ _ _ hb) (fun u hl => ?_)
    fun u hl => by rw [(removeEntry_frame ax rm).1]; exact hl
  refine (dispatch_get (.inr ?_)).trans hl
  rw [State.moving, hl]
  exact hmoves

/-! ## What a clearing does to its axis (R71) -/

theorem requestEnd_eq (hm : (s.lens.get ax).motion = some m) :
    requestEnd ax st s = applyFate ax (endRequest s.now (st m) m) s := by
  rw [requestEnd, hm]

/-- A motion that goes on under its end request is all that a clearing makes of its axis. -/
theorem clearAxis_goes {m' : Motion} (hmode : s.mc.mode ≠ .cooldown) (hm : (s.lens.get ax).motion = some m)
    (hgoes : endRequest s.now (st m) m = .goes m') :
    (clearAxis ax st rm s).lens.get ax = { s.lens.get ax with motion := some m' } := by
  refine clearAxis_keeps hmode (fun u => u.lens.get ax = { s.lens.get ax with motion := some m' }) ?_ (fun u hl => ?_)
    fun u hl => by rw [(removeEntry_frame ax rm).1]; exact hl
  · rw [requestEnd_eq hm, hgoes, applyFate_goes_get]
  · refine (dispatch_get (.inr ?_)).trans hl
    rw [State.moving, hl]
    rfl

theorem endRequest_ends (h : m.phase = .settle ∨ m.phase = .paused) : endRequest s.now status m = .ends status := by
  unfold endRequest
  rcases h with h | h <;> rw [h]

theorem endRequest_brakes (h : driveOn m.phase = true) : endRequest s.now status m = .goes (enterBrake s.now status m) := by
  obtain ⟨-, h' | h'⟩ | ⟨-, h'⟩ | ⟨h', -⟩ := endRequest_cases s.now status m
  · rw [h'] at h; cases h
  · rw [h'] at h; cases h
  · rw [h'] at h; cases h
  · exact h'

/-- In SETTLE and PAUSED the motion ends, and where no entry waited the axis holds the ended record (R71, R73). -/
theorem clearAxis_ends (hmode : s.mc.mode ≠ .cooldown) (hm : (s.lens.get ax).motion = some m)
    (hphase : m.phase = .settle ∨ m.phase = .paused) : (clearAxis ax st rm s).flagged .motionEnd
      ∧ (s.entryOf ax = none →
          (clearAxis ax st rm s).lens.get ax = endedAxis m (st m) (s.reading ax) (s.lens.get ax)) := by
  have hrequest : requestEnd ax st s = endMotion ax (st m) s := by
    rw [requestEnd_eq hm, endRequest_ends hphase]
    rfl
  refine ⟨?_, fun hnone => ?_⟩
  · refine clearAxis_keeps hmode (fun u => u.flagged .motionEnd) ?_ (fun u => laws_dispatch.flagged _)
      fun u => (laws_removeEntry _ _).flagged _
    rw [hrequest]
    exact (flagged_endMotion hm).1
  · refine (clearAxis_keeps hmode (fun u => u.entryOf ax = none
      ∧ u.lens.get ax = endedAxis m (st m) (s.reading ax) (s.lens.get ax)) ⟨?_, ?_⟩ (fun u ⟨he, hl⟩ => ?_)
      fun u ⟨he, hl⟩ => ?_).2
    · rw [← entriesOf_eq_nil, entriesOf_requestEnd, entriesOf_eq_nil]
      exact hnone
    · rw [hrequest, endMotion_ended hm]
    · exact ⟨entryOf_dispatch he, (dispatch_get (.inl he)).trans hl⟩
    · exact ⟨entryOf_removeEntry _ _, by rw [(removeEntry_frame ax rm).1]; exact hl⟩

theorem endedAxis_lastEnd (h : status ≠ .learnFail) : (endedAxis m status (s.reading ax) (s.lens.get ax)).lastEnd
    = some ⟨originOf m.job, jobTag m.job, status, s.position ax⟩ := by
  simp only [endedAxis, if_neg h]
  rfl

/-- What a request displaces, whose own entry waits, runs or has ended by then (R71, R85, R88, R92). -/
theorem displaced_of_stands (hmode : s.mc.mode ≠ .cooldown) (hm : (s.lens.get e.axis).motion = some m)
    (hst : st m ≠ .learnFail) (hflag : ∀ f, (clearAxis e.axis st rm s).flagged f → t.flagged f)
    (h : Stands e ((clearAxis e.axis st rm s).lens.get e.axis) u t) : Displaced e.axis m (st m) s t := by
  refine ⟨fun hon => ?_, fun hbrake => ?_, fun hphase => ?_⟩
  · rw [clearAxis_goes hmode hm (endRequest_brakes hon)] at h
    rw [h.get_of_moving rfl]
    rfl
  · have hgoes : endRequest s.now (st m) m = .goes m := by rw [endRequest, hbrake]
    rw [clearAxis_goes hmode hm hgoes] at h
    rw [h.get_of_moving rfl]
  · obtain ⟨hended, hrecord⟩ := clearAxis_ends (st := st) (rm := rm) hmode hm hphase
    refine ⟨hflag _ hended, fun hnone hstands => ?_, fun hnone hwaits => ?_⟩
    · rw [hrecord hnone] at h
      rw [← endedAxis_lastEnd hst]
      cases h with
      | waits _ hget => rw [hget]
      | runs _ _ _ _ hget => rw [hget]
      | ended _ _ _ hnil _ _ _ hget =>
        rw [entriesOf_eq_nil.mp hnil, State.moving, hget] at hstands
        rcases hstands with h | h
        · exact absurd rfl h
        · cases h
    · rw [hrecord hnone] at h
      cases h with
      | waits _ hget => rw [hget]; exact ⟨rfl, rfl⟩
      | runs _ hnil => exact absurd (entriesOf_eq_nil.mp hnil) hwaits
      | ended _ _ _ hnil => exact absurd (entriesOf_eq_nil.mp hnil) hwaits

end Sys2Proof.Machine
end

section
-- One declaration at a time: many proofs that wait at once hold a thread each.
set_option Elab.async false
/-! LN_MOVE, LN_JOG, LN_LEARN and LN_SET_RANGE (R60, R85 to R88, R91). -/

namespace Sys2Proof.Machine

variable {s t u : State} {ax b : Axis} {m : Motion} {e : Entry} {st : Motion → EndStatus} {rm status : EndStatus}

/-! ## An entry that joins with a response that waits for it -/

/-- An entry that joins leaves an axis that has none alone, but for its own. -/
theorem appendEntry_other (hb : b ≠ e.axis) (hnone : s.entryOf b = none) : (appendEntry e s).entryOf b = none
    ∧ (appendEntry e s).lens.get b = s.lens.get b ∧ (appendEntry e s).setup.base.get b = s.setup.base.get b := by
  have hjoined : (s.mapMq fun q => { q with entries := q.entries ++ [e] }).entryOf b = none := by
    refine entryOf_eq_none_iff.mpr fun x hx => ?_
    rcases List.mem_append.mp hx with hx | hx
    · exact entryOf_eq_none_iff.mp hnone x hx
    · rw [List.mem_singleton.mp hx]
      exact hb.symm
  exact ⟨entryOf_appendEntry hb hnone, dispatch_get_of_noEntry hjoined, dispatch_base_of_noEntry hjoined⟩

/-- What a request's own entry becomes, and what stays, once its axis is cleared (R80, R85, R88). -/
theorem appendAwaited_cleared {place : Nat} (hmode : s.mc.mode = .run)
    (ht : t = appendAwaited place e (clearAxis e.axis st rm s)) :
    Stands e ((clearAxis e.axis st rm s).lens.get e.axis) s t ∧ LensOnly s t ∧ Sampled s t
      ∧ t.mq.awaited = some ⟨e.axis, place, decide (t.entryOf e.axis = none)⟩
      ∧ (∀ f, (clearAxis e.axis st rm s).flagged f → t.flagged f)
      ∧ ∀ b, b ≠ e.axis → s.entryOf b = none →
          t.lens.get b = s.lens.get b ∧ t.setup.base.get b = s.setup.base.get b := by
  subst ht
  have hrun : s.mc.mode ≠ .cooldown := by rw [hmode]; nofun
  have hclear := lensOnly_clearAxis hrun e.axis st rm
  have hsampled := sampled_clearAxis (ax := e.axis) (st := st) (rm := rm) hrun
  have hnone : (clearAxis e.axis st rm s).entryOf e.axis = none := entryOf_clearAxis _ _ _
  refine ⟨?_, hclear.trans (lensOnly_appendAwaited _ _), hsampled.trans ((sampled_mapMq _).trans (sampled_appendEntry _)),
    awaited_appendAwaited hnone,
    (laws_appendAwaited _ (.inl (by rw [hclear.mc]; exact hmode)) hnone).flagged, fun b hb hentry => ?_⟩
  · exact stands_appendEntry (t := (clearAxis e.axis st rm s).mapMq _) (hsampled.trans (sampled_mapMq _)) hclear.now hnone
  · obtain ⟨he, hl, hbase⟩ := clearAxis_other (st := st) (rm := rm) hrun hb hentry
    obtain ⟨-, hl', hbase'⟩ := appendEntry_other (e := e)
      (s := (clearAxis e.axis st rm s).mapMq fun q => { q with awaited := some ⟨e.axis, place, false⟩ }) hb he
    exact ⟨hl'.trans hl, hbase'.trans hbase⟩

theorem dispatchedMark_eq : dispatchedMark t ax = if t.entryOf ax = none then 1 else 0 := by
  rw [dispatchedMark, mark_eq]
  simp only [Option.isNone_iff_eq_none]

/-! ## LN_MOVE -/

theorem lnMove_run {v : Nat} (hv : v < 65536) (hmode : s.mc.mode = .run) (hcal : s.countsUncalibrated ax = false)
    (hfault : s.countsFaulted ax = false) (ht : t = setBase ax (min v 4000)
      (appendAwaited 4 ⟨ax, .move (min v 4000)⟩ (clearAxis ax (fun _ => .retargeted) .retargeted s))) :
    lnMove (byte (axisNumber ax) :: le16 v) s = (⟨if 4000 < v then .clamped else .ok,
      le16 (min v 4000) ++ displacedBytes s ax ++ [if t.entryOf ax = none then 1 else 0]⟩, t) := by
  have hvalue : u16 (byte (axisNumber ax) :: le16 v) 1 = v := u16_field hv rfl
  have hstatus : clampedIf (decide (4000 < v)) = if 4000 < v then .clamped else .ok := by
    unfold clampedIf
    simp only [decide_eq_true_eq]
  have hlength : (byte (axisNumber ax) :: le16 v).length = 3 := rfl
  rw [lnMove, ofLength_of_length hlength, withAxis_axis rfl, if_neg (not_not.mpr hmode), ifHealthy,
    if_neg (by simp [hcal]), if_neg (by simp [hfault])]
  dsimp only
  rw [hvalue, hstatus, ← ht, dispatchedMark_eq]
  rfl

/-- Settles O30: the axis cleared, the entry that joins, and the base target. -/
theorem moveQueuesTarget : Obligations.MoveQueuesTarget := by
  intro s ax v hs hv hmode hcal hfault
  obtain ⟨hstands, hlens, -, hawaited, hflag, hother⟩ := appendAwaited_cleared (st := fun _ => .retargeted)
    (rm := .retargeted) (e := ⟨ax, .move (min v 4000)⟩) (place := 4) hmode rfl
  refine ⟨_, request_of_reply hs (Nat.le_of_ble_eq_true rfl) (lnMove_run hv hmode hcal hfault rfl), hawaited,
    hstands.has (fun _ _ h => Job.noConfusion h), ?_, rfl, fun m hm => ?_, fun b hb hentry => ?_,
    sameOuter_of_outer (hlens.trans (lensOnly_mapSetup _)).toOuter, hlens.mc, hlens.cc⟩
  · show (PerAxis.set _ ax _).get ax = _
    rw [PerAxis.get_set, if_pos rfl]
  · exact displaced_of_stands (st := fun _ => .retargeted) (e := ⟨ax, .move (min v 4000)⟩) (by rw [hmode]; nofun) hm
      nofun hflag (hstands.congr rfl rfl)
  · obtain ⟨hl, hbase⟩ := hother b hb hentry
    refine ⟨hl, ?_⟩
    show (PerAxis.set _ ax _).get b = _
    rw [PerAxis.get_set, if_neg hb]
    exact hbase

/-! ## LN_LEARN and LN_SET_RANGE -/

theorem axisBusy_iff : axisBusy s ax = true ↔ s.moving ax = true ∨ s.entryOf ax ≠ none := by
  rw [axisBusy, Bool.or_eq_true, Option.isSome_iff_ne_none]

theorem lnLearn_eq (hmode : s.mc.mode = .run) : lnLearn [byte (axisNumber ax)] s =
    if axisBusy s ax then refuse .inMotion s
    else accept .ok [dispatchedMark (appendAwaited 0 ⟨ax, .learn⟩ s) ax] (appendAwaited 0 ⟨ax, .learn⟩ s) := by
  have hlength : [byte (axisNumber ax)].length = 1 := rfl
  rw [lnLearn, ofLength_of_length hlength, withAxis_axis rfl, if_neg (not_not.mpr hmode)]

/-- The checks of LN_SET_RANGE (R60), on an axis. -/
theorem lnSetRange_axis {n neg pos : Nat} (hn : n < 256) (hneg : neg < 65536) (hpos : pos < 65536)
    (hax : axisOf n = some ax) :
    lnSetRange (byte n :: le16 neg ++ le16 pos) s =
      if 4095 < neg ∨ 4095 < pos ∨ (pos - neg : Int).natAbs < 1000 then refuse .badValue s
      else if s.moving ax = true ∨ s.entryOf ax ≠ none then refuse .inMotion s
      else accept .ok [] (s.mapAxis ax fun r =>
        { r with state := .idle, cal := some ⟨BitVec.ofNat 12 neg, BitVec.ofNat 12 pos⟩ }) := by
  have hlength : (byte n :: le16 neg ++ le16 pos).length = 5 := rfl
  have hnumber : u8 (byte n :: le16 neg ++ le16 pos) 0 = n := u8_field hn rfl
  have h1 : u16 (byte n :: le16 neg ++ le16 pos) 1 = neg := u16_field hneg rfl
  have h3 : u16 (byte n :: le16 neg ++ le16 pos) 3 = pos := u16_field hpos rfl
  rw [lnSetRange, ofLength_of_length hlength, withAxis, hnumber, hax]
  dsimp only
  rw [h1, h3]
  by_cases hlimits : 4095 < neg ∨ 4095 < pos
  · rw [if_pos (by simpa using hlimits), if_pos (by omega)]
  · have hspan : validSpan (BitVec.ofNat 12 neg) (BitVec.ofNat 12 pos) = decide (1000 ≤ (pos - neg : Int).natAbs) := by
      rw [validSpan, BitVec.toNat_ofNat, BitVec.toNat_ofNat, Nat.mod_eq_of_lt (by omega), Nat.mod_eq_of_lt (by omega)]
    rw [if_neg (by simpa using hlimits), hspan]
    by_cases hshort : (pos - neg : Int).natAbs < 1000
    · exact (if_pos (by simpa using hshort)).trans (if_pos (.inr (.inr hshort))).symm
    · have hnot : ¬(4095 < neg ∨ 4095 < pos ∨ (pos - neg : Int).natAbs < 1000) := by tauto
      refine (if_neg (by simpa using hshort)).trans (.trans ?_ (if_neg hnot).symm)
      exact if_congr axisBusy_iff rfl rfl

/-- Settles O33: LN_LEARN's entry, and LN_SET_RANGE's checks in order. -/
theorem learnAndSetRange : Obligations.LearnAndSetRange := by
  intro s hs
  refine ⟨fun ax hstill hnone hmode => ?learn, fun ax hbusy hmode => ?busy, fun p hlength => ?length,
    fun n neg pos hn hneg hpos => ?range⟩
  case learn =>
    have hlens : LensOnly s (appendAwaited 0 ⟨ax, .learn⟩ s) := lensOnly_appendAwaited 0 ⟨ax, .learn⟩
    have hreply : lnLearn [byte (axisNumber ax)] s = (⟨.ok,
        [if (appendAwaited 0 ⟨ax, .learn⟩ s).entryOf ax = none then 1 else 0]⟩,
        appendAwaited 0 ⟨ax, .learn⟩ s) := by
      rw [lnLearn_eq hmode, if_neg (by rw [axisBusy_iff]; simp [hstill, hnone]), dispatchedMark_eq]
      rfl
    have hstands : Stands ⟨ax, .learn⟩ (s.lens.get ax) s (appendAwaited 0 ⟨ax, .learn⟩ s) :=
      stands_appendEntry (t := s.mapMq _) (sampled_mapMq _) rfl hnone
    have hcarried := (carried_dispatch (s := (s.mapMq fun q => { q with awaited := some ⟨ax, 0, false⟩ }).mapMq
      fun q => { q with entries := q.entries ++ [⟨ax, .learn⟩] }))
    refine ⟨_, request_of_reply hs (Nat.le_of_ble_eq_true rfl) hreply, awaited_appendAwaited hnone,
      hstands.has (fun _ _ h => Job.noConfusion h), ?_, ?_, sameOuter_of_outer hlens.toOuter, hlens.mc, hlens.cc⟩
    · exact hcarried.modified
    · refine dispatch_base fun e he hax up d => ?_
      rcases List.mem_append.mp he with he | he
      · exact absurd hax (entryOf_eq_none_iff.mp hnone e he)
      · rw [List.mem_singleton.mp he]
        nofun
  case busy =>
    exact request_of_reply hs (Nat.le_of_ble_eq_true rfl) ((lnLearn_eq hmode).trans (if_pos (axisBusy_iff.mpr hbusy)))
  case length => exact request_of_badLength hs (ofLength_of_length_ne hlength _)
  case range =>
    have hcheck : (byte n :: le16 neg ++ le16 pos).length ≤ 48 := Nat.le_of_ble_eq_true rfl
    cases hax : axisOf n with
    | none =>
      refine request_of_reply hs hcheck ?_
      have hnumber : u8 (byte n :: le16 neg ++ le16 pos) 0 = n := u8_field hn rfl
      have hlength : (byte n :: le16 neg ++ le16 pos).length = 5 := rfl
      rw [lnSetRange, ofLength_of_length hlength, withAxis, hnumber, hax]
      rfl
    | some ax =>
      have hreply := lnSetRange_axis (s := s) hn hneg hpos hax
      dsimp only
      split at hreply
      · next h => rw [if_pos h]; exact request_of_reply hs hcheck hreply
      · next h =>
        rw [if_neg h]
        split at hreply
        · next h => rw [if_pos h]; exact request_of_reply hs hcheck hreply
        · next h => rw [if_neg h]; exact request_of_reply hs hcheck hreply

end Sys2Proof.Machine
end

section
-- One declaration at a time: many proofs that wait at once hold a thread each.
set_option Elab.async false
/-! LN_JOG: the jog that runs or waits refreshed, and the new one (R86 to R88). -/

namespace Sys2Proof.Machine

variable {s t u : State} {ax b : Axis} {m : Motion} {e : Entry} {st : Motion → EndStatus} {rm status : EndStatus} {up : Bool}

/-! ## Modified stays (R23, R31) -/

theorem axisPhaseEnd_modified (rc : Recall) (h : s.setup.modified = true) : (axisPhaseEnd rc s).setup.modified = true := by
  unfold axisPhaseEnd
  dsimp only
  split
  · rw [endRecall_eq]
    show (s.setup.modified || _) = true
    rw [h, Bool.true_or]
  · show (s.setup.modified || _) = true
    rw [h, Bool.true_or]

theorem recordRecall_modified {tag : Nat} (h : s.setup.modified = true) :
    (recordRecall ax tag status s).setup.modified = true := by
  unfold recordRecall
  split
  · exact h
  · dsimp only
    split
    · split
      · exact axisPhaseEnd_modified _ h
      · exact h
    · exact h

theorem endMotion_modified (h : s.setup.modified = true) : (endMotion ax status s).setup.modified = true := by
  cases hm : (s.lens.get ax).motion with
  | none => rw [endMotion_none hm]; exact h
  | some m =>
    obtain ⟨-, -, -, hmodified, -⟩ := (endMotion_stays (st := status) hm).current
    rw [hmodified]
    have hstate : (endedState ax m status s).setup.modified = true := h
    cases hjob : m.job with
    | jog up d =>
      obtain ⟨base, hend, -⟩ := setupEnd_jog (ax := ax) (st := status) (up := up) (d := d) (s := endedState ax m status s)
        ((endedState ax m status s).lens.get ax).cal
      rw [hend]
      exact hstate
    | ofRecall _ tag => exact recordRecall_modified hstate
    | move _ => exact hstate
    | trim _ => exact hstate
    | park _ => exact hstate
    | learn => exact hstate

theorem requestEnd_modified (h : s.setup.modified = true) : (requestEnd ax st s).setup.modified = true := by
  unfold requestEnd
  split
  · exact h
  · unfold applyFate
    split
    · exact h
    · exact endMotion_modified h

theorem removeEntry_modified (h : s.setup.modified = true) : (removeEntry ax status s).setup.modified = true := by
  unfold removeEntry
  split
  · exact h
  · unfold handRemoved
    split
    · exact recordRecall_modified h
    all_goals exact h

theorem clearAxis_modified (hmode : s.mc.mode ≠ .cooldown) (h : s.setup.modified = true) :
    (clearAxis ax st rm s).setup.modified = true :=
  clearAxis_keeps hmode (fun u => u.setup.modified = true) (requestEnd_modified h)
    (fun _ h => carried_dispatch.modified.trans h) fun _ h => removeEntry_modified h

/-! ## Calibrations stay (R78) -/

theorem dispatch_cal : ((dispatch s).lens.get b).cal = (s.lens.get b).cal := by
  refine dispatch_keeps (s := s) (fun t => (t.lens.get b).cal = (s.lens.get b).cal) (fun t x rest hcal _ _ => ?_) rfl
  by_cases hax : b = x.axis
  · subst hax
    obtain ⟨m, -, hget⟩ | ⟨m, up, d, -, -, hget, -⟩ := startEntry_axis x (t.mapMq (takeHead x rest))
    · rw [hget]
      exact hcal
    · rw [hget]
      exact hcal
  · rw [startEntry_get _ _ hax]
    exact hcal

theorem requestEnd_cal (hst : ∀ m, st m ≠ .learnFail) : ((requestEnd ax st s).lens.get ax).cal = (s.lens.get ax).cal := by
  unfold requestEnd
  split
  · rfl
  · next m hm =>
    obtain ⟨h, -⟩ | ⟨h, -⟩ | ⟨h, -⟩ := endRequest_cases s.now (st m) m
    · rw [h]
      show ((endMotion ax (st m) s).lens.get ax).cal = _
      rw [endMotion_ended hm]
      exact if_neg (hst m)
    · rw [h, applyFate_goes_get]
    · rw [h, applyFate_goes_get]

theorem clearAxis_cal (hmode : s.mc.mode ≠ .cooldown) (hst : ∀ m, st m ≠ .learnFail) :
    ((clearAxis ax st rm s).lens.get ax).cal = (s.lens.get ax).cal :=
  clearAxis_keeps hmode (fun u => (u.lens.get ax).cal = (s.lens.get ax).cal) (requestEnd_cal hst)
    (fun _ h => dispatch_cal.trans h) fun _ h => by rw [(removeEntry_frame ax rm).1]; exact h

/-! ## LN_JOG -/

/-- The state with the setup modified (R23, R86). -/
def modifiedState (s : State) : State := s.mapSetup fun a => { a with modified := true }

theorem jogHold_eq : jogHold = 250000 := by decide

theorem refreshedPayload_eq : jogPayload 0 [0, byte (optOriginCode none)] 0 = [0, 0, 0xFF, 0, 250, 0] := by decide

theorem freshPayload_eq (displaced : List Byte) (dispatched : Byte) :
    jogPayload 1 displaced dispatched = 1 :: displaced ++ [dispatched, 250, 0] := by
  have hleft : le16 (inMs jogHold) = [250, 0] := by decide
  rw [jogPayload, hleft, List.append_assoc]
  rfl

theorem lnJog_run (hmode : s.mc.mode = .run) : lnJog [byte (axisNumber ax), if up then 1 else 0] s =
    if refreshable (modifiedState s) ax up then
      accept .ok [0, 0, 0xFF, 0, 250, 0] (refreshMotion ax (s.now + 250000) (modifiedState s))
    else if refreshableEntry (modifiedState s) ax up then
      accept .ok [0, 0, 0xFF, 0, 250, 0] (refreshEntry ax (s.now + 250000) (modifiedState s))
    else
      let t := appendAwaited 3 ⟨ax, .jog up (s.now + 250000)⟩ (clearAxis ax jogSupersedes .stopped (modifiedState s))
      accept .ok (1 :: displacedBytes s ax ++ [if t.entryOf ax = none then 1 else 0, 250, 0]) t := by
  have hlength : [byte (axisNumber ax), if up then 1 else 0].length = 2 := rfl
  have hup : u8 [byte (axisNumber ax), if up then 1 else 0] 1 = if up then 1 else 0 := by cases up <;> rfl
  have hdirection : decide ((if up then 1 else 0) = 1) = up := by cases up <;> rfl
  rw [lnJog, ofLength_of_length hlength, withAxis_axis rfl, hup, if_neg (by cases up <;> decide),
    if_neg (not_not.mpr hmode)]
  dsimp only
  rw [hdirection, jogHold_eq, refreshedPayload_eq, freshPayload_eq, dispatchedMark_eq]
  rfl

theorem refreshable_iff : refreshable s ax up = true ↔
    ∃ m d, (s.lens.get ax).motion = some m ∧ m.phase ≠ .brake ∧ m.job = .jog up d := by
  have hjogs (job : Job) : jogs up job = true ↔ ∃ d, job = .jog up d := by
    cases job <;> simp [jogs, jobJog, eq_comm]
  simp only [refreshable, endable, Option.any_eq_true, Option.filter_eq_some_iff, hjogs]
  constructor
  · rintro ⟨m, ⟨hm, hphase⟩, d, hd⟩
    exact ⟨m, d, hm, of_decide_eq_true hphase, hd⟩
  · rintro ⟨m, d, hm, hphase, hd⟩
    exact ⟨m, ⟨hm, decide_eq_true hphase⟩, d, hd⟩

theorem refreshableEntry_iff : refreshableEntry s ax up = true ↔ ∃ e d, s.entryOf ax = some e ∧ e.job = .jog up d := by
  have hjogs (job : Job) : jogs up job = true ↔ ∃ d, job = .jog up d := by
    cases job <;> simp [jogs, jobJog, eq_comm]
  simp only [refreshableEntry, Option.any_eq_true, hjogs]
  constructor
  · rintro ⟨e, he, d, hd⟩
    exact ⟨e, d, he, hd⟩
  · rintro ⟨e, d, he, hd⟩
    exact ⟨e, he, d, hd⟩

theorem not_refreshable (h : ∀ m, (s.lens.get ax).motion = some m → m.phase = .brake ∨ ∀ d, m.job ≠ .jog up d) :
    ¬refreshable s ax up = true := by
  rw [refreshable_iff]
  rintro ⟨m, d, hm, hphase, hd⟩
  exact (h m hm).elim hphase fun h => h d hd

/-- A new jog has its entry, or has ended at its soft limit (R75, R88). -/
theorem jog_stands {d : Time} (hd : s.now < d) {r : AxisRecord} (hcal : r.cal = (s.lens.get ax).cal) (hsampled : Sampled s t)
    (h : Stands ⟨ax, .jog up d⟩ r s t) : t.Has ax (.jog up d)
      ∨ atSoftLimit (s.lens.get ax).cal up (s.rawNow ax) = true ∧ t.entryOf ax = none ∧ (t.lens.get ax).motion = none
        ∧ (t.lens.get ax).lastEnd = some ⟨.jog, none, .jogEnd, t.position ax⟩ := by
  cases h with
  | waits hone _ =>
    have hmem : (⟨ax, .jog up d⟩ : Entry) ∈ entriesOf ax t := by
      have hone : entriesOf ax t = _ := hone
      rw [hone]
      exact .head _
    exact .inl (.inl ⟨_, (List.mem_filter.mp hmem).1, rfl, rfl⟩)
  | runs m _ _ hm hget =>
    have hget : t.lens.get ax = _ := hget
    exact .inl (.inr ⟨m, by rw [hget], hm⟩)
  | ended m up' d' hnil _ hm hjob hget hwhy =>
    obtain ⟨rfl, rfl⟩ : up = up' ∧ d = d' := by
      injection hjob with h1 h2
      exact ⟨h1, h2⟩
    have hget : t.lens.get ax = _ := hget
    have hm : m.job = .jog up d := hm
    refine .inr ⟨hcal ▸ hwhy.resolve_right (Nat.not_le.mpr hd), entriesOf_eq_nil.mp hnil, by rw [hget]; rfl, ?_⟩
    rw [State.position, hget, reading_eq hsampled]
    simp only [endedAxis, hm]
    rfl

/-- Settles O31: a refresh by the record it changes, and a new jog by the axis cleared and the entry that joins. -/
theorem jogRefreshesOrStarts : Obligations.JogRefreshesOrStarts := by
  intro s ax up hs hmode
  have hlength : [byte (axisNumber ax), if up then 1 else 0].length ≤ 48 := Nat.le_of_ble_eq_true rfl
  refine ⟨fun m d hm hjob hphase => ?running, fun e d hno he hjob => ?pending, fun hno hnoEntry => ?fresh⟩
  case running =>
    have hyes : refreshable (modifiedState s) ax up = true := refreshable_iff.mpr ⟨m, d, hm, hphase, hjob⟩
    have hstate : refreshMotion ax (s.now + 250000) (modifiedState s) = { s with
        setup := { s.setup with modified := true }
        lens := s.lens.set ax { s.lens.get ax with motion := some { m with job := .jog up (s.now + 250000) } } } := by
      have hm' : ((modifiedState s).lens.get ax).motion = some m := hm
      rw [refreshMotion, State.mapAxis, hm', Option.map_some, hjob]
      rfl
    exact request_of_reply hs hlength ((lnJog_run hmode).trans ((if_pos hyes).trans (by rw [hstate]; rfl)))
  case pending =>
    have hyes : refreshableEntry (modifiedState s) ax up = true := refreshableEntry_iff.mpr ⟨e, d, he, hjob⟩
    refine ⟨_, request_of_reply hs hlength ((lnJog_run hmode).trans ((if_neg (not_refreshable hno)).trans (if_pos hyes))),
      rfl, rfl, ?_, .inl ?_⟩
    · show (s.mq.entries.map _).map _ = _
      rw [List.map_map]
      refine List.map_congr_left fun x _ => ?_
      dsimp only [Function.comp_apply]
      split <;> rfl
    · obtain ⟨hax, hmem⟩ := entryOf_axis he
      refine ⟨_, List.mem_map.mpr ⟨e, hmem, rfl⟩, ?_, ?_⟩
      · rw [if_pos hax]
        exact hax
      · rw [if_pos hax, hjob]
        rfl
  case fresh =>
    have hnot : ¬refreshableEntry (modifiedState s) ax up = true := by
      rw [refreshableEntry_iff]
      rintro ⟨e, d, he, hd⟩
      exact hnoEntry e he d hd
    have hrun : (modifiedState s).mc.mode ≠ .cooldown := by
      have h : (modifiedState s).mc.mode = .run := hmode
      rw [h]
      nofun
    have hstatus (m : Motion) : jogSupersedes m ≠ .learnFail := by
      unfold jogSupersedes
      split <;> nofun
    obtain ⟨hstands, hlens, hsampled, hawaited, hflag, hother⟩ := appendAwaited_cleared (s := modifiedState s)
      (st := jogSupersedes) (rm := .stopped) (e := ⟨ax, .jog up (s.now + 250000)⟩) (place := 3) hmode rfl
    refine ⟨_, request_of_reply hs hlength ((lnJog_run hmode).trans ((if_neg (not_refreshable hno)).trans (if_neg hnot))),
      ?_, hawaited, ?_, fun m hm => ?_, hother,
      sameOuter_of_outer ((lensOnly_mapSetup _).trans hlens).toOuter, hlens.mc, hlens.cc⟩
    · exact carried_dispatch.modified.trans (clearAxis_modified hrun rfl)
    · exact jog_stands (s := modifiedState s) (Nat.lt_add_of_pos_right (by decide)) (clearAxis_cal hrun hstatus) hsampled
        hstands
    · exact displaced_of_stands (s := modifiedState s) (e := ⟨ax, .jog up (s.now + 250000)⟩) hrun hm (hstatus m) hflag hstands

end Sys2Proof.Machine
end

section
-- One declaration at a time: many proofs that wait at once hold a thread each.
set_option Elab.async false
/-! The lens path without a recall in flight, an abandonment, and a step taken at each of several axes (R22, R35, R71). -/

namespace Sys2Proof.Machine

variable {s t u : State} {ax b : Axis} {m m' : Motion} {e : Entry} {st : Motion → EndStatus} {status : EndStatus}
  {r : AxisRecord} {now : Time} {reading : Option Raw} {rc : Recall}

/-! ## Without a recall in flight -/

/-- Where no recall is in flight, the banks and the live setup are the same, but for base targets and Tref. -/
def Settled (s t : State) : Prop := s.setup.current = none →
  t.setup = { s.setup with base := t.setup.base, tref := t.setup.tref } ∧ t.ge = s.ge

theorem Settled.refl (s : State) : Settled s s := fun _ => ⟨rfl, rfl⟩

theorem Settled.trans (h : Settled s t) (k : Settled t u) : Settled s u := fun hnone => by
  obtain ⟨hsetup, hge⟩ := h hnone
  obtain ⟨hsetup', hge'⟩ := k (by rw [hsetup]; exact hnone)
  exact ⟨hsetup'.trans (by rw [hsetup]), hge'.trans hge⟩

theorem settled_of_setup (hsetup : t.setup = s.setup) (hge : t.ge = s.ge) : Settled s t := fun _ => ⟨by rw [hsetup], hge⟩

theorem Settled.ite {c : Prop} [Decidable c] (h : Settled s t) (k : Settled s u) : Settled s (if c then t else u) := by
  split <;> assumption

theorem Settled.fold {α : Type} (f : State → α → State) (h : ∀ s a, Settled s (f s a)) (l : List α) (s : State) :
    Settled s (l.foldl f s) := by
  induction l generalizing s with
  | nil => exact .refl s
  | cons a l ih => exact (h s a).trans (ih (f s a))

theorem settled_recordRecall {tag : Nat} : Settled s (recordRecall ax tag status s) := fun hnone => by
  have hsame : recordRecall ax tag status s = s := by unfold recordRecall; rw [hnone]
  rw [hsame]
  exact ⟨rfl, rfl⟩

theorem settled_setupEnd (cal : Option Calibration) (job : Job) : Settled s (setupEnd ax cal job status s) := by
  cases job with
  | ofRecall _ tag => exact settled_recordRecall
  | jog up d =>
    obtain ⟨base, hend, -⟩ := setupEnd_jog (ax := ax) (st := status) (up := up) (d := d) (s := s) cal
    rw [hend]
    exact fun _ => ⟨rfl, rfl⟩
  | move _ => exact .refl s
  | trim _ => exact .refl s
  | park _ => exact .refl s
  | learn => exact .refl s

theorem SetupStays.settled (h : SetupStays s t) : Settled s t := fun _ => by
  obtain ⟨hsetup, hge, -⟩ := h
  generalize t.setup.tref = tref at hsetup
  rw [hsetup]
  exact ⟨rfl, hge⟩

theorem settled_endMotion : Settled s (endMotion ax status s) := by
  cases hm : (s.lens.get ax).motion with
  | none => rw [endMotion_none hm]; exact .refl s
  | some m =>
    have hstate : Settled s (endedState ax m status s) := settled_of_setup rfl rfl
    exact (hstate.trans (settled_setupEnd _ _)).trans (endMotion_stays hm).settled

theorem settled_requestEnd : Settled s (requestEnd ax st s) := by
  unfold requestEnd
  split
  · exact .refl s
  · unfold applyFate
    split
    · exact settled_of_setup rfl rfl
    · exact settled_endMotion

theorem settled_cutMotion : Settled s (cutMotion ax s) := by
  unfold cutMotion
  split
  · exact .refl s
  · exact settled_endMotion

theorem settled_cutAll : Settled s (cutAll s) := .fold _ (fun _ _ => settled_cutMotion) _ _

theorem settled_handRemoved (status : EndStatus) (e : Entry) : Settled s (handRemoved status e s) := by
  unfold handRemoved
  split
  · exact settled_recordRecall
  all_goals exact settled_of_setup rfl rfl

theorem settled_mapMq (f : MotionQueue → MotionQueue) : Settled s (s.mapMq f) := settled_of_setup rfl rfl

theorem settled_removeEntry : Settled s (removeEntry ax status s) := by
  unfold removeEntry
  split
  · exact .refl s
  · exact (settled_mapMq _).trans (settled_handRemoved _ _)

theorem settled_clearQueue : Settled s (clearQueue s) :=
  (settled_mapMq _).trans (.fold _ (fun _ e => settled_handRemoved _ e) _ _)

theorem settled_startEntry (e : Entry) : Settled s (startEntry e s) := fun hnone => by
  obtain ⟨⟨hsetup, hge⟩, hcurrent, -⟩ := startEntry_setup e s
  have hmark : (markEntry e s).setup.current = none := by
    unfold markEntry
    cases jobTag e.job with
    | none => exact hnone
    | some tag =>
      show (markRunning e.axis tag s).setup.current = none
      rw [markRunning, hnone]
      exact hnone
  rw [hcurrent, hmark] at hsetup
  refine ⟨hsetup.trans ?_, hge⟩
  rw [← hnone]

theorem settled_dispatch : Settled s (dispatch s) :=
  dispatch_keeps (Settled s) (fun _ _ _ h _ _ => (h.trans (settled_mapMq _)).trans (settled_startEntry _)) (.refl s)

theorem settled_appendEntry : Settled s (appendEntry e s) := (settled_mapMq _).trans settled_dispatch

theorem settled_enterStandby (flagged : Bool) : Settled s (enterStandby flagged s) := by
  rw [enterStandby_eq]
  obtain ⟨c, a, heq⟩ := standbyEntry_eq flagged s
  exact (settled_of_setup (by rw [heq]) (by rw [heq])).trans settled_clearQueue

theorem settled_judgeCooldown (flagged : Bool) : Settled s (judgeCooldown flagged s) :=
  .ite (settled_enterStandby _) (.refl s)

theorem settled_afterLens : Settled s (afterLens s) := settled_dispatch.trans (settled_judgeCooldown _)

/-! ## An abandonment (R22, R35, R36) -/

theorem abandonedProgress_eq (s : State) (ax : Axis) (p : Progress) :
    abandonedProgress s ax p = stoppedProgress (s.lens.get ax).motion p := by
  cases p with
  | running =>
    rw [abandonedProgress, stoppedProgress]
    cases (s.lens.get ax).motion with
    | none => rfl
    | some m => rw [Option.elim_some, cutStatus, Option.bind_some]
  | _ => rfl

/-- The setup after an abandonment (R35): nothing of the recall in flight is left but its report. -/
theorem abandonRecall_setup (flagged : Bool) (hcurrent : s.setup.current = some rc) :
    (abandonRecall flagged s).setup = { s.setup with
      recallState := .none, current := none, pendingGeometry := none
      report := some (reportOf .abandoned { rc with
        progress := .make fun ax => stoppedProgress (s.lens.get ax).motion (rc.progress.get ax) }) } := by
  have hprogress : (PerAxis.make fun ax => abandonedProgress s ax (rc.progress.get ax))
      = .make fun ax => stoppedProgress (s.lens.get ax).motion (rc.progress.get ax) :=
    congrArg _ (funext fun ax => abandonedProgress_eq s ax _)
  rw [abandonRecall, hcurrent]
  dsimp only
  rw [hprogress, endRecall_eq]
  rfl

theorem abandonRecall_none (flagged : Bool) (hcurrent : s.setup.current = none) : abandonRecall flagged s = s := by
  rw [abandonRecall, hcurrent]

theorem abandonRecall_current (flagged : Bool) (s : State) : (abandonRecall flagged s).setup.current = none := by
  cases hcurrent : s.setup.current with
  | none => rw [abandonRecall_none _ hcurrent, hcurrent]
  | some rc => rw [abandonRecall_setup _ hcurrent]

theorem flagged_abandonRecall (hcurrent : s.setup.current = some rc) : (abandonRecall true s).flagged .recallDone := by
  rw [abandonRecall, hcurrent]
  exact flagged_occur_self _ _

/-- After an abandonment the lens path brings nothing of the recall back. -/
theorem Settled.abandoned {flagged : Bool} (hcurrent : s.setup.current = some rc)
    (h : Settled (abandonRecall flagged s) t) : Abandoned rc s t := by
  obtain ⟨hsetup, -⟩ := h (abandonRecall_current flagged s)
  rw [abandonRecall_setup flagged hcurrent] at hsetup
  generalize t.setup.base = base, t.setup.tref = tref at hsetup
  rw [Abandoned, hsetup]
  exact ⟨rfl, rfl, rfl, rfl⟩

theorem Abandoned.congr (hlens : u.lens = s.lens) (h : Abandoned rc u t) : Abandoned rc s t := by
  rw [Abandoned, ← hlens]
  exact h

theorem setupOnly_abandonRecall (flagged : Bool) : SetupOnly s (abandonRecall flagged s) := by
  unfold abandonRecall
  split
  · exact .refl s
  · exact (setupOnly_mapSetup _).trans (setupOnly_endRecall _ _)

/-! ## A step at each of several axes -/

/-- What a fold of a step over axes leaves of what is read at one of them: the step's effect, once, if it is named. -/
theorem foldl_read {α : Type} {f : State → Axis → State} (read : Axis → State → α) (F : Axis → α → α) (I : State → Prop)
    (hI : ∀ u ax, I u → I (f u ax)) (hself : ∀ u ax, I u → read ax (f u ax) = F ax (read ax u))
    (hother : ∀ u ax b, b ≠ ax → read b (f u ax) = read b u) (l : List Axis) (hl : l.Nodup) (s : State) (hs : I s)
    (b : Axis) : read b (l.foldl f s) = if b ∈ l then F b (read b s) else read b s := by
  induction l generalizing s with
  | nil => rfl
  | cons ax l ih =>
    obtain ⟨hnot, hl⟩ := List.nodup_cons.mp hl
    rw [List.foldl_cons, ih hl (f s ax) (hI s ax hs)]
    by_cases hb : b = ax
    · subst hb
      rw [if_neg hnot, if_pos (List.mem_cons_self ..), hself s b hs]
    · rw [hother s ax b hb]
      simp only [List.mem_cons, hb, false_or]

/-! ## An end request at an axis (R71) -/

/-- The record of an axis after an end request. -/
def requestedAxis (now : Time) (reading : Option Raw) (st : Motion → EndStatus) (r : AxisRecord) : AxisRecord :=
  match r.motion with
  | none => r
  | some m =>
    match endRequest now (st m) m with
    | .goes m' => { r with motion := some m' }
    | .ends status => endedAxis m status reading r

theorem requestEnd_self : (requestEnd ax st s).lens.get ax = requestedAxis s.now (s.reading ax) st (s.lens.get ax) := by
  unfold requestEnd requestedAxis
  cases hm : (s.lens.get ax).motion with
  | none => rfl
  | some m =>
    dsimp only
    cases endRequest s.now (st m) m with
    | goes m' => exact applyFate_goes_get _ _
    | ends status => exact endMotion_ended hm

theorem requestedAxis_goes (hm : r.motion = some m) (h : endRequest now (st m) m = .goes m') :
    requestedAxis now reading st r = { r with motion := some m' } := by
  rw [requestedAxis, hm]
  dsimp only
  rw [h]

theorem requestedAxis_on (hm : r.motion = some m) (hon : driveOn m.phase = true) :
    (requestedAxis now reading st r).motion
      = some { m with phase := .brake, brake := some ⟨st m, now⟩, window := [] } := by
  obtain ⟨-, h | h⟩ | ⟨-, h⟩ | ⟨h, -⟩ := endRequest_cases now (st m) m
  · rw [h] at hon; cases hon
  · rw [h] at hon; cases hon
  · rw [h] at hon; cases hon
  · rw [requestedAxis_goes hm h]
    rfl

theorem requestedAxis_brake (hm : r.motion = some m) (hbrake : m.phase = .brake) :
    requestedAxis now reading st r = r := by
  rw [requestedAxis_goes hm (m' := m) (by rw [endRequest, hbrake]), ← hm]

theorem requestedAxis_ends (hm : r.motion = some m) (hphase : m.phase = .settle ∨ m.phase = .paused) :
    requestedAxis now reading st r = endedAxis m (st m) reading r := by
  have h : endRequest now (st m) m = .ends (st m) := by
    rcases hphase with h | h <;> rw [endRequest, h]
  rw [requestedAxis, hm]
  dsimp only
  rw [h]

/-- What still runs after an end request is braking. -/
theorem requestedAxis_motion (h : (requestedAxis now reading st r).motion = some m') : m'.phase = .brake := by
  cases hm : r.motion with
  | none => rw [requestedAxis, hm] at h; dsimp only at h; rw [hm] at h; cases h
  | some m =>
    obtain ⟨-, hphase⟩ | ⟨-, hphase⟩ | ⟨-, hphase⟩ := endRequest_cases now (st m) m
    · rw [requestedAxis_ends hm hphase] at h
      cases h
    · rw [requestedAxis_brake hm hphase, hm] at h
      exact Option.some_inj.mp h ▸ hphase
    · rw [requestedAxis_on hm hphase] at h
      exact Option.some_inj.mp h ▸ rfl

/-- An end request leaves a motion running unless it is in SETTLE or PAUSED. -/
theorem requestedAxis_none (h : (requestedAxis now reading st r).motion = none) (hm : r.motion = some m) :
    m.phase = .settle ∨ m.phase = .paused := by
  obtain ⟨-, hphase⟩ | ⟨-, hphase⟩ | ⟨-, hphase⟩ := endRequest_cases now (st m) m
  · exact hphase
  · rw [requestedAxis_brake hm hphase, hm] at h
    cases h
  · rw [requestedAxis_on hm hphase] at h
    cases h

end Sys2Proof.Machine
end

section
-- One declaration at a time: many proofs that wait at once hold a thread each.
set_option Elab.async false
/-! LN_STOP (R35, R71, R90). -/

namespace Sys2Proof.Machine

variable {s t u : State} {ax b : Axis} {m : Motion} {e : Entry} {axs : List Axis} {all : Bool}

/-! ## What the end of a cooldown leaves of the lens -/

theorem judgeCooldown_lens (flagged : Bool) : (judgeCooldown flagged s).lens = s.lens := by
  unfold judgeCooldown
  split
  · next h => exact (lens_of_enterStandby_nil _ (lensAtRest_iff.mp (Bool.and_eq_true_iff.mp h).2).2).1
  · rfl

theorem entryOf_judgeCooldown (flagged : Bool) (h : s.entryOf b = none) : (judgeCooldown flagged s).entryOf b = none := by
  unfold judgeCooldown
  split
  · rw [enterStandby_eq]
    refine entryOf_eq_none_iff.mpr fun e he => ?_
    rw [clearQueue_entries] at he
    cases he
  · exact h

/-! ## The stop of several axes -/

/-- A recall in MOVING abandoned by a stop of all axes (R35). -/
def stopBegun (all : Bool) (s : State) : State := if all && s.setup.recallState = .moving then abandonRecall true s else s

/-- The state in which every named axis has been stopped (R90). -/
def stopped (axs : List Axis) (all : Bool) (s : State) : State := axs.foldl stopAxis (stopBegun all s)

theorem stopAxes_eq : stopAxes axs all s = judgeCooldown true (dispatch (stopped axs all s)) := rfl

theorem setupOnly_stopBegun : SetupOnly s (stopBegun all s) := .ite (setupOnly_abandonRecall _) (.refl s)

theorem lensOnly_stopBegun : LensOnly s (stopBegun all s) := .ite (lensOnly_abandonRecall _) (.refl s)

theorem lensOnly_stopAxis : LensOnly s (stopAxis s ax) := (lensOnly_requestEnd _ _).trans (lensOnly_removeEntry _ _)

theorem sampled_stopAxis : Sampled s (stopAxis s ax) := (sampled_requestEnd _).trans (sampled_removeEntry _ _)

theorem settled_stopAxis : Settled s (stopAxis s ax) := settled_requestEnd.trans settled_removeEntry

theorem lensOnly_stopped : LensOnly s (stopped axs all s) :=
  lensOnly_stopBegun.trans (.fold _ (fun _ _ => lensOnly_stopAxis) _ _)

/-- Each named axis takes its end request, and no other axis changes (R90). -/
theorem stopped_get (hl : axs.Nodup) : (stopped axs all s).lens.get b
    = if b ∈ axs then requestedAxis s.now (s.reading b) stopStatus (s.lens.get b) else s.lens.get b := by
  have hnow : (stopBegun all s).now = s.now := lensOnly_stopBegun.now
  have hsampled : Sampled s (stopBegun all s) := sampled_of_scan setupOnly_stopBegun.scan
  have h := foldl_read (f := stopAxis) (fun b u => u.lens.get b)
    (fun b => requestedAxis s.now (s.reading b) stopStatus) (fun u => Sampled s u ∧ u.now = s.now)
    (fun u ax ⟨hs, hn⟩ => ⟨hs.trans sampled_stopAxis, lensOnly_stopAxis.now.trans hn⟩)
    (fun u ax ⟨hs, hn⟩ => by rw [stopAxis, (removeEntry_frame _ _).1, requestEnd_self, hn, reading_eq hs])
    (fun u ax b hb => by rw [stopAxis, (removeEntry_frame _ _).1, requestEnd_get _ _ _ hb])
    axs hl (stopBegun all s) ⟨hsampled, hnow⟩ b
  rw [setupOnly_stopBegun.lens] at h
  exact h

/-- No named axis keeps an entry, and every other axis keeps its own (R90). -/
theorem stopped_entries (hl : axs.Nodup) : entriesOf b (stopped axs all s) = if b ∈ axs then [] else entriesOf b s := by
  have h := foldl_read (f := stopAxis) (fun b u => entriesOf b u) (fun _ _ => []) (fun _ => True) (fun _ _ _ => trivial)
    (fun u ax _ => entriesOf_eq_nil.mpr (entryOf_removeEntry _ _))
    (fun u ax b hb => by rw [stopAxis, (removeEntry_frame _ _).2.2 b hb, entriesOf_requestEnd])
    axs hl (stopBegun all s) trivial b
  have hsame : entriesOf b (stopBegun all s) = entriesOf b s := by
    unfold entriesOf
    rw [setupOnly_stopBegun.mq]
  rw [hsame] at h
  exact h

theorem stopAxes_get (hl : axs.Nodup) (hb : b ∈ axs) : (stopAxes axs all s).entryOf b = none
    ∧ (stopAxes axs all s).lens.get b = requestedAxis s.now (s.reading b) stopStatus (s.lens.get b) := by
  have hnone : (stopped axs all s).entryOf b = none :=
    entriesOf_eq_nil.mp ((stopped_entries hl).trans (if_pos hb))
  rw [stopAxes_eq]
  refine ⟨entryOf_judgeCooldown _ (entryOf_dispatch hnone), ?_⟩
  rw [judgeCooldown_lens, dispatch_get_of_noEntry hnone, stopped_get hl, if_pos hb]

theorem settled_stopAxes : Settled (stopBegun all s) (stopAxes axs all s) :=
  .trans (.fold _ (fun _ _ => settled_stopAxis) _ _) settled_afterLens

theorem laws_afterStopBegun : Laws (stopBegun all s) (stopAxes axs all s) :=
  .trans (.fold _ (fun _ _ => laws_stopAxis) _ _) laws_afterLens

/-- A motion that a stop leaves running: its axis is not named, or it is neither in SETTLE nor in PAUSED. -/
theorem stopped_moving (hl : axs.Nodup) (hm : (s.lens.get ax).motion = some m)
    (h : ¬(ax ∈ axs ∧ (m.phase = .settle ∨ m.phase = .paused))) : (stopped axs all s).moving ax = true := by
  rw [State.moving, stopped_get hl]
  split
  · next hax =>
    rw [Option.isSome_iff_ne_none]
    exact fun hnone => h ⟨hax, requestedAxis_none hnone hm⟩
  · rw [hm]
    rfl

theorem mem_stopped_entries (hl : axs.Nodup) (he : e ∈ s.mq.entries) (hnot : e.axis ∉ axs) :
    e ∈ (stopped axs all s).mq.entries := by
  have hmem : e ∈ entriesOf e.axis (stopped axs all s) := by
    rw [stopped_entries hl, if_neg hnot]
    exact List.mem_filter.mpr ⟨he, by simp⟩
  exact (List.mem_filter.mp hmem).1

/-- A stop after which nothing moves and nothing waits. -/
theorem stopped_rest (hl : axs.Nodup)
    (hmotions : ∀ ax m, (s.lens.get ax).motion = some m → ax ∈ axs ∧ (m.phase = .settle ∨ m.phase = .paused))
    (hentries : ∀ e ∈ s.mq.entries, e.axis ∈ axs) : (stopped axs all s).lensAtRest = true := by
  refine lensAtRest_iff.mpr ⟨?_, ?_⟩
  · rw [Bool.eq_false_iff, Ne, anyMoving_iff]
    rintro ⟨b, hb⟩
    rw [State.moving, stopped_get hl] at hb
    cases hm : (s.lens.get b).motion with
    | none =>
      have hsame : requestedAxis s.now (s.reading b) stopStatus (s.lens.get b) = s.lens.get b := by rw [requestedAxis, hm]
      rw [hsame, ite_self, hm] at hb
      cases hb
    | some m =>
      obtain ⟨hax, hphase⟩ := hmotions b m hm
      rw [if_pos hax, requestedAxis_ends hm hphase] at hb
      cases hb
  · rw [List.eq_nil_iff_forall_not_mem]
    intro e he
    have hmem : e ∈ entriesOf e.axis (stopped axs all s) := List.mem_filter.mpr ⟨he, by simp⟩
    rw [stopped_entries hl] at hmem
    split at hmem
    · cases hmem
    · next hnot => exact hnot (hentries e (List.mem_filter.mp hmem).1)

/-! ## LN_STOP -/

/-- The axes that a selector of 0 to 4 names (R79, R90). -/
theorem selected_names {n : Nat} (hn : n ≤ 4) : ∃ axs, selected n = some axs ∧ axs.Nodup
    ∧ (∀ ax, ax ∈ axs ↔ n = 4 ∨ axisNumber ax = n)
    ∧ ∀ f : Axis → List Byte, axs.flatMap f = if n = 4 then axes.flatMap f else (axisOf n).elim [] f := by
  interval_cases n
  · exact ⟨[.vshift], rfl, by decide, fun ax => by cases ax <;> decide, fun f => List.append_nil _⟩
  · exact ⟨[.hshift], rfl, by decide, fun ax => by cases ax <;> decide, fun f => List.append_nil _⟩
  · exact ⟨[.zoom], rfl, by decide, fun ax => by cases ax <;> decide, fun f => List.append_nil _⟩
  · exact ⟨[.focus], rfl, by decide, fun ax => by cases ax <;> decide, fun f => List.append_nil _⟩
  · exact ⟨axes, rfl, by decide, fun ax => by cases ax <;> decide, fun f => rfl⟩

theorem lnStop_eq {n : Nat} (hn : n ≤ 4) (haxs : selected n = some axs) :
    lnStop [byte n] s = (⟨.ok, axs.flatMap (displacedBytes s)⟩, stopAxes axs (n = 4) s) := by
  have hlength : [byte n].length = 1 := rfl
  have hnumber : u8 [byte n] 0 = n := u8_byte (by omega)
  rw [lnStop, ofLength_of_length hlength, hnumber, haxs]
  rfl

/-- Settles O32: the end request and the removal at each named axis, the recall abandoned, and the end of a cooldown. -/
theorem stopStopsAxes : Obligations.StopStopsAxes := by
  intro s n hs hn
  obtain ⟨axs, haxs, hl, hnamed, hbytes⟩ := selected_names hn
  have hreply := lnStop_eq (s := s) hn haxs
  rw [hbytes] at hreply
  have hlens : LensOnly s (stopped axs (n = 4) s) := lensOnly_stopped
  have houter : Outer s (stopAxes axs (n = 4) s) := hlens.toOuter.trans outer_afterLens
  refine ⟨_, request_of_reply hs (Nat.le_of_ble_eq_true rfl) hreply, fun ax hax => ?axis,
    fun rc hall hmoving hcurrent => ?abandon,
    ⟨fun ⟨hmode, hdone⟩ hmotions hentries => ?cooled, fun hor => ?stays⟩, sameOuter_of_outer houter⟩
  case axis =>
    obtain ⟨hnone, hget⟩ := stopAxes_get (s := s) (all := decide (n = 4)) hl ((hnamed ax).mpr hax)
    refine ⟨hnone, fun m hm => ?_, fun m hm hon => ?_, fun m hm hbrake => ?_, fun m hm hphase => ?_⟩
    · rw [hget] at hm
      exact requestedAxis_motion hm
    · rw [hget, requestedAxis_on hm hon]
      rfl
    · rw [hget, requestedAxis_brake hm hbrake, hm]
    · rw [hget, requestedAxis_ends hm hphase]
      exact ⟨rfl, rfl⟩
  case abandon =>
    have hbegun : stopBegun (decide (n = 4)) s = abandonRecall true s := if_pos (by simp [hall, hmoving])
    have hsettled : Settled (stopBegun (decide (n = 4)) s) (stopAxes axs (n = 4) s) := settled_stopAxes
    have hlaws : Laws (stopBegun (decide (n = 4)) s) (stopAxes axs (n = 4) s) := laws_afterStopBegun
    rw [hbegun] at hsettled hlaws
    exact ⟨hsettled.abandoned hcurrent, hlaws.flagged _ (flagged_abandonRecall hcurrent)⟩
  case cooled =>
    have hrest : (stopped axs (n = 4) s).lensAtRest = true :=
      stopped_rest hl (fun ax m hm => (hmotions ax m hm).imp_left (hnamed ax).mpr) fun e he => (hnamed _).mpr (hentries e he)
    have hdispatch : dispatch (stopped axs (n = 4) s) = stopped axs (n = 4) s := dispatch_nil (lensAtRest_iff.mp hrest).2
    rw [stopAxes_eq, hdispatch, judgeCooldown_ends ⟨by rw [hlens.mc]; exact hmode, by rw [hlens.mc]; exact hdone, hrest⟩]
    exact cooledDown_enterStandby (by rw [hlens.mc]) (by rw [hlens.mc]; exact hdone) hmode (by rw [hlens.cc])
      (fun fan => by rw [hlens.cc]; exact ⟨rfl, rfl, rfl⟩) hlens.toOuter hrest
  case stays =>
    have hdispatched := hlens.trans (lensOnly_dispatch (s := stopped axs (n = 4) s))
    rw [stopAxes_eq, judgeCooldown_stays]
    · exact ⟨hdispatched.mc, hdispatched.cc⟩
    · rw [hdispatched.mc]
      rintro ⟨hmode, hdone, hrest⟩
      rcases hor with h | ⟨ax, m, hm, h⟩ | ⟨e, he, hnot, hjob⟩
      · exact h ⟨hmode, hdone⟩
      · refine not_rest_of_moving (moving_dispatch (stopped_moving hl hm ?_)) hrest
        rw [hnamed]
        exact h
      · exact not_rest_of_waits (waits_dispatch hjob (.inl (mem_stopped_entries hl he (by rw [hnamed]; exact hnot)))) hrest

end Sys2Proof.Machine
end

section
-- One declaration at a time: many proofs that wait at once hold a thread each.
set_option Elab.async false
/-! The entry to COOLDOWN: the fans aimed, what leaves, and the PARK entries (R84, R93, R123, R166). -/

namespace Sys2Proof.Machine

variable {s t u v : State} {ax b : Axis} {m : Motion} {e : Entry} {fan : Fan} {now : Time} {sn : Sensor} {x : Int}
  {mask : SensorSet} {temps : PerSensor (Option Int)} {l : List (Sensor × Int)} {g : Governing}

/-! ## The hottest sensor (R121) -/

theorem mem_governedBy : (sn, x) ∈ governedBy mask temps ↔ inSet mask sn = true ∧ temps.get sn = some x := by
  rw [governedBy, List.mem_filterMap]
  constructor
  · rintro ⟨y, -, hy⟩
    split at hy
    · next hin =>
      obtain ⟨z, hz, heq⟩ := Option.map_eq_some_iff.mp hy
      obtain ⟨rfl, rfl⟩ := Prod.mk.inj heq
      exact ⟨hin, hz⟩
    · cases hy
  · rintro ⟨hin, hx⟩
    exact ⟨sn, by cases sn <;> decide, by rw [if_pos hin, hx]; rfl⟩

theorem hotter_fold (now : Time) (l : List (Sensor × Int)) (best : Governing) :
    ((l.foldl (hotter now) best) = best ∨ ((l.foldl (hotter now) best).sensor, (l.foldl (hotter now) best).temp) ∈ l)
      ∧ best.temp ≤ (l.foldl (hotter now) best).temp ∧ ∀ p ∈ l, p.2 ≤ (l.foldl (hotter now) best).temp := by
  induction l generalizing best with
  | nil => exact ⟨.inl rfl, le_refl _, nofun⟩
  | cons p l ih =>
    have hstep : (hotter now best p = best ∧ p.2 ≤ best.temp) ∨ (hotter now best p = ⟨p.2, p.1⟩ ∧ best.temp ≤ p.2) := by
      unfold hotter
      split
      · next h =>
        refine .inr ⟨rfl, ?_⟩
        simp only [Bool.or_eq_true, Bool.and_eq_true, decide_eq_true_eq] at h
        omega
      · next h =>
        refine .inl ⟨rfl, ?_⟩
        simp only [Bool.or_eq_true, Bool.and_eq_true, decide_eq_true_eq, not_or] at h
        omega
    obtain ⟨hin, hbest, hall⟩ := ih (hotter now best p)
    rw [List.foldl_cons]
    obtain ⟨h, hle⟩ | ⟨h, hle⟩ := hstep
    · rw [h] at hin hbest hall ⊢
      refine ⟨hin.imp_right (List.mem_cons_of_mem _), hbest, fun q hq => ?_⟩
      rcases List.mem_cons.mp hq with rfl | hq
      · exact hle.trans hbest
      · exact hall q hq
    · rw [h] at hin hbest hall ⊢
      refine ⟨.inr ?_, hle.trans hbest, fun q hq => ?_⟩
      · rcases hin with hin | hin
        · rw [hin]
          exact List.mem_cons_self ..
        · exact List.mem_cons_of_mem _ hin
      · rcases List.mem_cons.mp hq with rfl | hq
        · exact hbest
        · exact hall q hq

/-- The governing temperature is the hottest of the valid sensors, recorded with one that has it (R121). -/
theorem governingOf_some (h : governingOf now l = some g) : (g.sensor, g.temp) ∈ l ∧ ∀ p ∈ l, p.2 ≤ g.temp := by
  cases l with
  | nil => cases h
  | cons p l =>
    obtain ⟨hin, hbest, hall⟩ := hotter_fold now l ⟨p.2, p.1⟩
    rw [Option.some_inj.mp h] at hin hbest hall
    refine ⟨?_, fun q hq => ?_⟩
    · rcases hin with hin | hin
      · rw [hin]
        exact List.mem_cons_self ..
      · exact List.mem_cons_of_mem _ hin
    · rcases List.mem_cons.mp hq with rfl | hq
      · exact hbest
      · exact hall q hq

theorem governingOf_none : governingOf now l = none ↔ l = [] := by
  cases l with
  | nil => exact ⟨fun _ => rfl, fun _ => rfl⟩
  | cons p l => exact ⟨nofun, nofun⟩

/-- With a hottest reading, the governing temperature is that reading. -/
theorem governingOf_hottest (hx : (sn, x) ∈ l) (hmost : ∀ p ∈ l, p.2 ≤ x) :
    ∃ g, governingOf now l = some g ∧ g.temp = x := by
  cases hg : governingOf now l with
  | none => rw [governingOf_none.mp hg] at hx; cases hx
  | some g =>
    obtain ⟨hin, hall⟩ := governingOf_some hg
    exact ⟨g, rfl, le_antisymm (hmost _ hin) (hall _ hx)⟩

/-! ## The fans aimed for COOLDOWN (R123) -/

/-- A fan's record as COOLDOWN aims it outside an evaluation, by what the last evaluation found. -/
def aimedFan (now : Time) (c : Cooling) (fan : Fan) (f : FanRecord) : FanRecord := { f with
  target := cooldownTarget f (uncappedDemand now (c.used.get fan).curve (governedAtLast c fan))
  failsafe := (governedAtLast c fan).isEmpty }

theorem aimCooldown_get (s : State) (fan : Fan) :
    (aimCooldown s).cc.fans.get fan = aimedFan s.now s.cc fan (s.cc.fans.get fan) := by
  cases fan <;> rfl

theorem aimed_of_aimedFan {f : FanRecord} (hget : t.cc.fans.get fan = aimedFan s.now s.cc fan f)
    (hduty : f.duty = (s.cc.fans.get fan).duty) : AimedForCooldown fan s t := by
  have hreads (sn : Sensor) (x : Int) : (sn, x) ∈ governedAtLast s.cc fan
      ↔ inSet (s.cc.used.get fan).mask sn = true ∧ s.cc.seen.get sn = some x := mem_governedBy
  have hempty : governedAtLast s.cc fan = []
      ↔ ∀ sn x, ¬(inSet (s.cc.used.get fan).mask sn = true ∧ s.cc.seen.get sn = some x) := by
    rw [List.eq_nil_iff_forall_not_mem]
    exact ⟨fun h sn x hr => h (sn, x) ((hreads sn x).mpr hr), fun h p hp => h p.1 p.2 ((hreads p.1 p.2).mp hp)⟩
  rw [AimedForCooldown, hget]
  refine ⟨hduty, ?_, fun hcomp => if_pos hcomp, fun hcomp hnone => ?_, fun hcomp sn x hr hmost => ?_⟩
  · rw [← hempty]
    exact List.isEmpty_iff
  · have hnot : ¬f.compensating = true := by
      have h : f.compensating = false := hcomp
      rw [h]
      nofun
    refine (if_neg hnot).trans ?_
    rw [uncappedDemand, governingOf_none.mpr (hempty.mpr hnone)]
    rfl
  · have hnot : ¬f.compensating = true := by
      have h : f.compensating = false := hcomp
      rw [h]
      nofun
    obtain ⟨g, hg, htemp⟩ := governingOf_hottest (now := s.now) ((hreads sn x).mpr hr)
      fun p hp => hmost p.1 p.2 ((hreads p.1 p.2).mp hp)
    refine (if_neg hnot).trans ?_
    rw [uncappedDemand, hg, Option.elim_some, htemp]

theorem cooldownTarget_ge (f : FanRecord) (n : Nat) : 70 ≤ cooldownTarget f n := by
  unfold cooldownTarget
  split
  · decide
  · exact le_max_right _ _

theorem cooldownEntry_fan (flagged : Bool) (s : State) (fan : Fan) : (cooldownEntry flagged s).cc.fans.get fan
    = aimedFan s.now s.cc fan { s.cc.fans.get fan with override := false } := by
  unfold cooldownEntry
  rw [setMode_eq, aimCooldown_get]
  simp only [mapFans, State.mapCc, PerFan.get_make]
  rfl

/-! ## What leaves at the entry (R84, R166) -/

theorem clearQueue_lens : (clearQueue s).lens = s.lens := by
  have h (l : List Entry) (u : State) : (l.foldl (fun s e => handRemoved .stopped e s) u).lens = u.lens := by
    induction l generalizing u with
    | nil => rfl
    | cons e l ih => rw [List.foldl_cons, ih, (handRemoved_setup _ _).1]
  exact h _ _

/-- The entry before its end requests: the recall abandoned and the queue cleared (R84, R166). -/
def cleared (flagged : Bool) (s : State) : State := clearQueue (abandonRecall true (cooldownEntry flagged s))

theorem cleared_frame (flagged : Bool) (s : State) : Sampled s (cleared flagged s) ∧ (cleared flagged s).now = s.now
    ∧ (cleared flagged s).lens = s.lens := by
  obtain ⟨c, a, heq⟩ := cooldownEntry_eq flagged s
  have hentry : Sampled s (cooldownEntry flagged s) := sampled_of_scan (by rw [heq])
  have habandon : Sampled (cooldownEntry flagged s) (abandonRecall true (cooldownEntry flagged s)) :=
    sampled_of_scan (setupOnly_abandonRecall _).scan
  refine ⟨(hentry.trans habandon).trans sampled_clearQueue, ?_, ?_⟩
  · rw [cleared, lensOnly_clearQueue.now, (lensOnly_abandonRecall _).now, heq]
  · rw [cleared, clearQueue_lens, (setupOnly_abandonRecall _).lens, heq]

theorem leaveForCooldown_eq_fold (flagged : Bool) (s : State) : leaveForCooldown flagged s
    = axes.foldl (fun s ax => requestEnd ax (fun _ => .stopped) s) (cleared flagged s) := leaveForCooldown_eq flagged s

theorem leaveForCooldown_lensOnly (flagged : Bool) (s : State) :
    LensOnly (cooldownEntry flagged s) (leaveForCooldown flagged s) := by
  rw [leaveForCooldown_eq]
  exact ((lensOnly_abandonRecall _).trans lensOnly_clearQueue).trans (.fold _ (fun _ ax => lensOnly_requestEnd ax _) _ _)

theorem sampled_leaveForCooldown (flagged : Bool) (s : State) : Sampled s (leaveForCooldown flagged s) := by
  rw [leaveForCooldown_eq_fold]
  exact (cleared_frame flagged s).1.trans (.fold _ (fun _ _ => sampled_requestEnd _) _ _)

/-- Every running motion takes its end request STOPPED (R84, R166). -/
theorem leaveForCooldown_get (flagged : Bool) (s : State) (b : Axis) : (leaveForCooldown flagged s).lens.get b
    = requestedAxis s.now (s.reading b) (fun _ => .stopped) (s.lens.get b) := by
  obtain ⟨hsampled, hnow, hlens⟩ := cleared_frame flagged s
  have h := foldl_read (f := fun s ax => requestEnd ax (fun _ => .stopped) s) (fun b u => u.lens.get b)
    (fun b => requestedAxis s.now (s.reading b) fun _ => .stopped) (fun u => Sampled s u ∧ u.now = s.now)
    (fun u ax ⟨hs, hn⟩ => ⟨hs.trans (sampled_requestEnd _), (lensOnly_requestEnd _ _).now.trans hn⟩)
    (fun u ax ⟨hs, hn⟩ => by rw [requestEnd_self, hn, reading_eq hs])
    (fun u ax b hb => requestEnd_get _ _ _ hb) axes (by decide) (cleared flagged s) ⟨hsampled, hnow⟩ b
  rw [leaveForCooldown_eq_fold, h, if_pos (by cases b <;> decide), hlens]

theorem settled_leaveForCooldown (flagged : Bool) (s : State) :
    Settled (abandonRecall true (cooldownEntry flagged s)) (leaveForCooldown flagged s) := by
  rw [leaveForCooldown_eq]
  exact settled_clearQueue.trans (.fold _ (fun _ _ => settled_requestEnd) _ _)

theorem laws_leaveForCooldown_abandon (flagged : Bool) (s : State) :
    Laws (abandonRecall true (cooldownEntry flagged s)) (leaveForCooldown flagged s) := by
  rw [leaveForCooldown_eq]
  exact laws_clearQueue.trans (.fold _ (fun _ ax => laws_requestEnd ax _) _ _)

/-! ## The PARK entries (R93) -/

theorem healthy_congr (hlens : t.lens.get ax = s.lens.get ax) (hentry : t.entryOf ax = s.entryOf ax) :
    t.healthy ax = s.healthy ax := by
  unfold State.healthy State.countsUncalibrated State.countsFaulted
  rw [hlens, hentry]

/-- What becomes of an axis as the PARK entries join a queue that held none: with a target and healthy, its entry waits
or runs; otherwise it is as it was (R93). -/
structure ParkedAt (targets : PerAxis (Option Nat)) (u : State) (b : Axis) (t : State) : Prop where
  parks : ∀ target, targets.get b = some target → u.healthy b = true → Stands ⟨b, .park target⟩ (u.lens.get b) u t
  stays : ¬((targets.get b).isSome = true ∧ u.healthy b = true) → t.entryOf b = none ∧ t.lens.get b = u.lens.get b

theorem entriesOf_append_other (hb : e.axis ≠ b) :
    entriesOf b (s.mapMq fun q => { q with entries := q.entries ++ [e] }) = entriesOf b s := by
  unfold entriesOf State.mapMq
  rw [List.filter_append]
  simp [hb]

theorem Stands.appendOther {r : AxisRecord} {e' : Entry} (hne : e'.axis ≠ e.axis) (hsampled : Sampled s t)
    (hnow : t.now = s.now) (h : Stands e r s t) : Stands e r s (appendEntry e' t) :=
  Stands.dispatch (hsampled.trans (sampled_mapMq _)) hnow (h.congr (entriesOf_append_other hne) rfl)

theorem parkEntry_cases (targets : PerAxis (Option Nat)) (s : State) (ax : Axis) :
    (∃ target, targets.get ax = some target ∧ s.healthy ax = true
        ∧ parkEntry targets s ax = appendEntry ⟨ax, .park target⟩ s)
      ∨ ¬((targets.get ax).isSome = true ∧ s.healthy ax = true) ∧ parkEntry targets s ax = s := by
  unfold parkEntry
  cases htarget : targets.get ax with
  | none => exact .inr ⟨by simp, rfl⟩
  | some target =>
    by_cases h : s.healthy ax = true
    · exact .inl ⟨target, rfl, h, if_pos h⟩
    · exact .inr ⟨fun hc => h hc.2, if_neg h⟩

theorem parkEntry_fold (targets : PerAxis (Option Nat)) (hempty : u.mq.entries = []) (l : List Axis) (hl : l.Nodup)
    (hsampled : Sampled u t) (hnow : t.now = u.now)
    (hleft : ∀ b ∈ l, t.entryOf b = none ∧ t.lens.get b = u.lens.get b) (hdone : ∀ b, b ∉ l → ParkedAt targets u b t)
    (b : Axis) : ParkedAt targets u b (l.foldl (parkEntry targets) t) := by
  induction l generalizing t with
  | nil => exact hdone b List.not_mem_nil
  | cons ax l ih =>
    obtain ⟨hnot, hl⟩ := List.nodup_cons.mp hl
    obtain ⟨hnone, hget⟩ := hleft ax (List.mem_cons_self ..)
    have hnoEntry (b : Axis) : u.entryOf b = none := entryOf_eq_none_iff.mpr fun e he => by rw [hempty] at he; cases he
    have hhealthy : t.healthy ax = u.healthy ax := healthy_congr hget (hnone.trans (hnoEntry ax).symm)
    rw [List.foldl_cons]
    obtain ⟨target, htarget, hyes, hstep⟩ | ⟨hno, hstep⟩ := parkEntry_cases targets t ax
    · rw [hstep]
      refine ih hl (hsampled.trans (sampled_appendEntry _)) ((lensOnly_appendEntry _).now.trans hnow) (fun b hb => ?_)
        fun b hb => ?_
      · have hne : b ≠ ax := fun h => hnot (h ▸ hb)
        obtain ⟨hn, hg⟩ := hleft b (List.mem_cons_of_mem _ hb)
        obtain ⟨hn', hg', -⟩ := appendEntry_other (e := ⟨ax, .park target⟩) hne hn
        exact ⟨hn', hg'.trans hg⟩
      · by_cases hax : b = ax
        · subst hax
          refine ⟨fun target' htarget' _ => ?_, fun h => absurd ⟨by rw [htarget]; rfl, hhealthy ▸ hyes⟩ h⟩
          obtain rfl := Option.some_inj.mp (htarget.symm.trans htarget')
          have hstands := stands_appendEntry (e := ⟨b, .park target⟩) hsampled hnow hnone
          have hget : t.lens.get (⟨b, .park target⟩ : Entry).axis = u.lens.get b := hget
          rw [hget] at hstands
          exact hstands
        · have hb' : b ∉ ax :: l := by
            rw [List.mem_cons, not_or]
            exact ⟨hax, hb⟩
          obtain ⟨hparks, hstays⟩ := hdone b hb'
          refine ⟨fun target' h hh => (hparks target' h hh).appendOther (Ne.symm hax) hsampled hnow, fun h => ?_⟩
          obtain ⟨hn, hg⟩ := hstays h
          obtain ⟨hn', hg', -⟩ := appendEntry_other (e := ⟨ax, .park target⟩) hax hn
          exact ⟨hn', hg'.trans hg⟩
    · rw [hstep]
      refine ih hl hsampled hnow (fun b hb => hleft b (List.mem_cons_of_mem _ hb)) fun b hb => ?_
      by_cases hax : b = ax
      · subst hax
        rw [hhealthy] at hno
        exact ⟨fun target h hh => absurd ⟨by rw [h]; rfl, hh⟩ hno, fun _ => ⟨hnone, hget⟩⟩
      · exact hdone b (by rw [List.mem_cons, not_or]; exact ⟨hax, hb⟩)

/-- After an entry to COOLDOWN every axis has its PARK, or has been left alone (R93). -/
theorem parkedAt_appendParks (hempty : u.mq.entries = []) (b : Axis) : ParkedAt (parkTargets u.pt) u b (appendParks u) := by
  refine parkEntry_fold _ hempty axes (by decide) (.refl u) rfl (fun b _ => ⟨?_, rfl⟩) (fun b hb => ?_) b
  · exact entryOf_eq_none_iff.mpr fun e he => by rw [hempty] at he; cases he
  · exact absurd (by cases b <;> decide) hb

end Sys2Proof.Machine
end

section
-- One declaration at a time: many proofs that wait at once hold a thread each.
set_option Elab.async false
/-! MD_DOWN and MD_CLEAR_TRIP (R166, R169). -/

namespace Sys2Proof.Machine

variable {s t u : State} {ax b : Axis} {m : Motion} {rc : Recall} {flagged : Bool}

theorem cooldownTime_eq : cooldownTime = 240000000 := by decide

theorem lensOnly_appendParks : LensOnly s (appendParks s) := .fold _ (fun _ ax => lensOnly_parkEntry _ ax) _ _

theorem settled_parkEntry (targets : PerAxis (Option Nat)) (ax : Axis) : Settled s (parkEntry targets s ax) := by
  obtain ⟨target, -, -, h⟩ | ⟨-, h⟩ := parkEntry_cases targets s ax
  · rw [h]
    exact settled_appendEntry
  · rw [h]
    exact .refl s

theorem settled_enterCooldown : Settled (abandonRecall true (cooldownEntry flagged s)) (enterCooldown flagged s) :=
  (settled_leaveForCooldown flagged s).trans (.fold _ (fun _ ax => settled_parkEntry _ ax) _ _)

/-- The mode record after an entry to COOLDOWN (R163, R166). -/
theorem enterCooldown_mc : (enterCooldown flagged s).mc = { s.mc with
    mode := .cooldown, previous := some s.mc.mode, entered := s.now, fanCheck := none
    cooldown := some (s.now + 240000000), thermalDone := false, lightPermit := false, thermTrip := false } := by
  have hlens := (leaveForCooldown_lensOnly flagged s).trans lensOnly_appendParks
  obtain ⟨c, a, heq⟩ := cooldownEntry_eq flagged s
  rw [cooldownTime_eq] at heq
  exact hlens.mc.trans (by rw [heq])

theorem enterCooldown_cc : (enterCooldown flagged s).cc = (cooldownEntry flagged s).cc :=
  ((leaveForCooldown_lensOnly flagged s).trans lensOnly_appendParks).cc

/-- A recall in flight at an entry to COOLDOWN is abandoned (R35). -/
theorem enterCooldown_abandons (hcurrent : s.setup.current = some rc) : Abandoned rc s (enterCooldown flagged s) := by
  obtain ⟨c, a, heq⟩ := cooldownEntry_eq flagged s
  have hentry : (cooldownEntry flagged s).setup.current = some rc := by rw [heq]; exact hcurrent
  exact (settled_enterCooldown.abandoned hentry).congr (by rw [heq])

theorem enterCooldown_current : (enterCooldown flagged s).setup.current = none := by
  have hnone := abandonRecall_current true (cooldownEntry flagged s)
  obtain ⟨hsetup, -⟩ := settled_enterCooldown (flagged := flagged) (s := s) hnone
  rw [hsetup]
  exact hnone

theorem laws_enterCooldown_abandon :
    Laws (abandonRecall true (cooldownEntry flagged s)) (enterCooldown flagged s) := by
  refine (laws_leaveForCooldown_abandon flagged s).trans ?_
  refine laws_parkEntries _ _ (by decide) (leaveForCooldown_mode _) fun ax _ => entryOf_eq_none_iff.mpr ?_
  rw [leaveForCooldown_entries]
  exact fun _ h => nomatch h

theorem flagged_enterCooldown : (enterCooldown true s).flagged .modeChange := by
  have hmode : (setMode .cooldown true s).flagged .modeChange := flagged_occur_self _ _
  have hentry : (cooldownEntry true s).flagged .modeChange := flagged_of_au hmode rfl
  exact laws_enterCooldown_abandon.flagged _ ((laws_abandonRecall _).flagged _ hentry)

/-- Every axis has its PARK or is left alone, as the entry to COOLDOWN finds it (R93). -/
theorem parkedAt_enterCooldown (b : Axis) :
    ParkedAt (parkTargets s.pt) (leaveForCooldown flagged s) b (enterCooldown flagged s) := by
  have h := parkedAt_appendParks (leaveForCooldown_entries (s := s) flagged) b
  have hpt : (leaveForCooldown flagged s).pt = s.pt := (outer_leaveForCooldown flagged).pt
  rw [hpt] at h
  exact h

/-- What waits at an axis after the entry is its PARK. -/
theorem ParkedAt.entries {targets : PerAxis (Option Nat)} (h : ParkedAt targets u b t) :
    (∃ target, targets.get b = some target ∧ entriesOf b t = [⟨b, .park target⟩]) ∨ entriesOf b t = [] := by
  by_cases hparks : (targets.get b).isSome = true ∧ u.healthy b = true
  · obtain ⟨target, htarget⟩ := Option.isSome_iff_exists.mp hparks.1
    cases h.parks target htarget hparks.2 with
    | waits hone _ => exact .inl ⟨target, htarget, hone⟩
    | runs _ hnil => exact .inr hnil
    | ended _ _ _ hnil => exact .inr hnil
  · exact .inr (entriesOf_eq_nil.mpr (h.stays hparks).1)

/-- What runs at an axis after the entry ran before it, or is its PARK. -/
theorem ParkedAt.motion {targets : PerAxis (Option Nat)} (h : ParkedAt targets u b t) :
    t.lens.get b = u.lens.get b ∨ ∃ target m, targets.get b = some target ∧ m.job = .park target
      ∧ t.lens.get b = { u.lens.get b with state := .moving, motion := some m } := by
  by_cases hparks : (targets.get b).isSome = true ∧ u.healthy b = true
  · obtain ⟨target, htarget⟩ := Option.isSome_iff_exists.mp hparks.1
    cases h.parks target htarget hparks.2 with
    | waits _ hget => exact .inl hget
    | runs m _ _ hjob hget => exact .inr ⟨target, m, htarget, hjob, hget⟩
    | ended _ _ _ _ _ _ hjob => cases hjob
  · exact .inl (h.stays hparks).2

theorem sensorsClear_iff : sensorsClear s = true
    ↔ ∀ sn t, s.validTemp sn = some t → t < (s.cc.limits.get sn).trip - 100 := by
  rw [sensorsClear, List.all_eq_true]
  constructor
  · intro h sn t ht
    have := h sn (by cases sn <;> decide)
    rw [ht] at this
    simpa using this
  · intro h sn _
    rw [Option.all_eq_true]
    exact fun t ht => by simpa using h sn t ht

theorem mdDown_eq : mdDown [] s = if s.mc.mode = .run ∨ s.mc.mode = .starting then
      accept .ok [3, axisSet (parkAxes (leaveForCooldown true s))] (enterCooldown true s)
    else refuse .wrongMode s := by
  have hmode : modeByte (enterCooldown true s) = 3 := by rw [modeByte, enterCooldown_mc]; rfl
  rw [mdDown, ofLength_of_length (p := []) (n := 0) rfl]
  dsimp only
  rw [hmode]
  simp only [Bool.or_eq_true, decide_eq_true_eq]

theorem mdClearTrip_eq : mdClearTrip [] s = if s.mc.mode = .trip ∧ faultedFans s.cc < 2 ∧ sensorsClear s = true then
      accept .ok [3] (enterCooldown true s)
    else refuse .wrongMode s := by
  have hmode : modeByte (enterCooldown true s) = 3 := by rw [modeByte, enterCooldown_mc]; rfl
  rw [mdClearTrip, ofLength_of_length (p := []) (n := 0) rfl, hmode]
  refine if_congr ?_ rfl rfl
  simp only [Bool.and_eq_true, decide_eq_true_eq]
  tauto

/-- Settles O41: the entry's two halves at every axis, and the fans aimed. -/
theorem downAndClearTripCool : Obligations.DownAndClearTripCool := by
  intro s hs
  have hlength : ([] : List Byte).length ≤ 48 := Nat.le_of_ble_eq_true rfl
  have hpt : (leaveForCooldown true s).pt = s.pt := (outer_leaveForCooldown true).pt
  have hparksEq : (fun ax => ((parkTargets s.pt).get ax).isSome && (leaveForCooldown true s).healthy ax)
      = parkAxes (leaveForCooldown true s) := by
    funext ax
    rw [parkAxes, hpt]
  have hclearIff : (s.mc.mode = .trip ∧ faultedFans s.cc < 2
        ∧ ∀ sn t, s.validTemp sn = some t → t < (s.cc.limits.get sn).trip - 100)
      ↔ s.mc.mode = .trip ∧ faultedFans s.cc < 2 ∧ sensorsClear s = true := by rw [sensorsClear_iff]
  have hparked (b : Axis) := parkedAt_enterCooldown (s := s) (flagged := true) b
  have hfan (fan : Fan) : (enterCooldown true s).cc.fans.get fan
      = aimedFan s.now s.cc fan { s.cc.fans.get fan with override := false } := by
    rw [enterCooldown_cc, cooldownEntry_fan]
  refine ⟨fun q hq => ⟨enterCooldown true s, ?reply, enterCooldown_mc, fun fan => ?fans, enterCooldown_current,
    flagged_enterCooldown, fun rc hcurrent => ⟨enterCooldown_abandons hcurrent, ?done⟩, fun e he => ?entries,
    fun ax target hparks htarget => ?has, fun ax hparks => ?none, fun ax m hm => ?motions,
    sameOuter_of_outer (outer_enterCooldown true)⟩, fun hnot => ?notDown, fun hnot => ?notClear⟩
  case reply =>
    rw [hparksEq]
    rcases hq with ⟨rfl, hdown⟩ | ⟨rfl, hclear⟩
    · rw [if_pos rfl]
      exact request_of_reply hs hlength (mdDown_eq.trans (if_pos hdown))
    · rw [if_neg nofun]
      exact request_of_reply hs hlength (mdClearTrip_eq.trans (if_pos (hclearIff.mp hclear)))
  case fans =>
    refine ⟨by rw [hfan]; rfl, by rw [hfan]; exact cooldownTarget_ge _ _, by rw [hfan]; rfl,
      aimed_of_aimedFan (hfan fan) rfl⟩
  case done =>
    obtain ⟨c, a, heq⟩ := cooldownEntry_eq true s
    have hentry : (cooldownEntry true s).setup.current = some rc := by rw [heq]; exact hcurrent
    exact laws_enterCooldown_abandon.flagged _ (flagged_abandonRecall hentry)
  case entries =>
    have hmem : e ∈ entriesOf e.axis (enterCooldown true s) := List.mem_filter.mpr ⟨he, by simp⟩
    obtain ⟨target, htarget, hone⟩ | hnil := (hparked e.axis).entries
    · rw [hone] at hmem
      exact ⟨target, htarget, by rw [List.mem_singleton.mp hmem]⟩
    · rw [hnil] at hmem
      cases hmem
  case has =>
    exact ((hparked ax).parks target htarget (Bool.and_eq_true_iff.mp hparks).2).has fun _ _ h => Job.noConfusion h
  case none =>
    have hparks : (((parkTargets s.pt).get ax).isSome && (leaveForCooldown true s).healthy ax) = false := hparks
    exact ((hparked ax).stays (by rw [← Bool.and_eq_true_iff, hparks]; nofun)).1
  case motions =>
    obtain hget | ⟨target, m', htarget, hjob, hget⟩ := (hparked ax).motion
    · rw [hget, leaveForCooldown_get] at hm
      exact .inl (requestedAxis_motion hm)
    · rw [hget] at hm
      exact .inr ⟨target, htarget, Option.some_inj.mp hm ▸ hjob⟩
  case notDown => exact request_of_reply hs hlength (mdDown_eq.trans (if_neg hnot))
  case notClear => exact request_of_reply hs hlength (mdClearTrip_eq.trans (if_neg (hclearIff.not.mp hnot)))

end Sys2Proof.Machine
end

section
-- One declaration at a time: many proofs that wait at once hold a thread each.
set_option Elab.async false
/-! Every motion cut, and MD_SOFT_RESET (R72, R170). -/

namespace Sys2Proof.Machine

variable {s t u v : State} {ax b : Axis} {m : Motion} {e : Entry} {st : EndStatus} {rc : Recall}

/-! ## A motion cut (R72) -/

/-- The record of an axis after its motion has been cut. -/
def cutAxis (reading : Option Raw) (r : AxisRecord) : AxisRecord :=
  r.motion.elim r fun m => endedAxis m (cutStatus .stopped m) reading r

/-- The base target of an axis after its motion has been cut: a jog sets it, unless it ends RETARGETED (R75). -/
def cutBase (raw : Raw) (r : AxisRecord) (base : Option Nat) : Option Nat :=
  r.motion.elim base fun m =>
    if isJog m ∧ cutStatus .stopped m ≠ .retargeted then
      ((if cutStatus .stopped m = .learnFail then none else r.cal).map (normalise · raw)).or base
    else base

theorem setupHears_endMotion (hm : (s.lens.get ax).motion = some m) : SetupHears ax m st s (endMotion ax st s) := by
  refine setupHears_setupEnd (u := endedState ax m st s) ?_ ?_ ⟨rfl, rfl⟩ (endMotion_stays hm)
  · rw [endMotion_ended hm]
    simp [endedState, State.mapAxis]
  · exact rawNow_eq (sampled_endMotion _ _) (lensOnly_endMotion _ _).now _

theorem isJog_iff : isJog m = true ↔ ∃ up d, m.job = .jog up d := by
  cases hjob : m.job <;> simp [isJog, jobJog, hjob]

theorem cutMotion_none (hm : (s.lens.get ax).motion = none) : cutMotion ax s = s := by rw [cutMotion, hm]

theorem cutMotion_some (hm : (s.lens.get ax).motion = some m) :
    cutMotion ax s = endMotion ax (cutStatus .stopped m) s := by rw [cutMotion, hm]

theorem cutMotion_self : (cutMotion ax s).lens.get ax = cutAxis (s.reading ax) (s.lens.get ax)
    ∧ (cutMotion ax s).setup.base.get ax = cutBase (s.rawNow ax) (s.lens.get ax) (s.setup.base.get ax) := by
  cases hm : (s.lens.get ax).motion with
  | none =>
    rw [cutMotion_none hm, cutAxis, cutBase, hm]
    exact ⟨rfl, rfl⟩
  | some m =>
    obtain ⟨-, -, -, hjog, hkeep⟩ := setupHears_endMotion (st := cutStatus .stopped m) hm
    have hget := endMotion_ended (st := cutStatus .stopped m) hm
    have hraw : (endMotion ax (cutStatus .stopped m) s).rawNow ax = s.rawNow ax :=
      rawNow_eq (sampled_endMotion _ _) (lensOnly_endMotion _ _).now _
    rw [cutMotion_some hm, cutAxis, cutBase, hm]
    refine ⟨hget, ?_⟩
    rw [hget] at hjog hkeep
    rw [Option.elim_some]
    split
    · next h =>
      obtain ⟨up, d, hjob⟩ := isJog_iff.mp h.1
      cases hcal : (if cutStatus .stopped m = .learnFail then none else (s.lens.get ax).cal) with
      | none => exact hkeep (.inr (.inr hcal))
      | some c => rw [hjog up d c hjob h.2 hcal, hraw]; rfl
    · next h =>
      refine hkeep ?_
      by_cases hjob : ∃ up d, m.job = .jog up d
      · exact .inr (.inl (not_not.mp fun hne => h ⟨isJog_iff.mpr hjob, hne⟩))
      · exact .inl fun up d hj => hjob ⟨up, d, hj⟩

theorem cutMotion_base (hb : b ≠ ax) : (cutMotion ax s).setup.base.get b = s.setup.base.get b := by
  unfold cutMotion
  split
  · rfl
  · exact endMotion_base hb _

/-- Every axis takes its cut (R72). -/
theorem cutAll_get (b : Axis) : (cutAll s).lens.get b = cutAxis (s.reading b) (s.lens.get b)
    ∧ (cutAll s).setup.base.get b = cutBase (s.rawNow b) (s.lens.get b) (s.setup.base.get b) := by
  have h := foldl_read (f := fun s ax => cutMotion ax s) (fun b u => (u.lens.get b, u.setup.base.get b))
    (fun b p => (cutAxis (s.reading b) p.1, cutBase (s.rawNow b) p.1 p.2)) (fun u => Sampled s u ∧ u.now = s.now)
    (fun u ax ⟨hs, hn⟩ => ⟨hs.trans sampled_cutMotion, (lensOnly_cutMotion _).now.trans hn⟩)
    (fun u ax ⟨hs, hn⟩ => by
      obtain ⟨hget, hbase⟩ := cutMotion_self (s := u) (ax := ax)
      rw [hget, hbase, reading_eq hs, rawNow_eq hs hn])
    (fun u ax b hb => by rw [cutMotion_get hb, cutMotion_base hb]) axes (by decide) s ⟨.refl s, rfl⟩ b
  rw [if_pos (by cases b <;> decide)] at h
  exact Prod.mk.inj h

/-! ## What the Focus Compensator keeps (R103, R107) -/

/-- The reference, the compensations and the coefficient are the same. -/
structure FocusKept (s t : State) : Prop where
  tref : t.setup.tref = s.setup.tref
  comp : t.fc.comp = s.fc.comp
  applied : t.fc.applied = s.fc.applied
  coef : t.fc.coef = s.fc.coef

theorem FocusKept.refl (s : State) : FocusKept s s := ⟨rfl, rfl, rfl, rfl⟩

theorem FocusKept.trans (h : FocusKept s t) (k : FocusKept t u) : FocusKept s u :=
  ⟨k.tref.trans h.tref, k.comp.trans h.comp, k.applied.trans h.applied, k.coef.trans h.coef⟩

theorem FocusKept.fold {α : Type} (f : State → α → State) (h : ∀ s a, FocusKept s (f s a)) (l : List α) (s : State) :
    FocusKept s (l.foldl f s) := by
  induction l generalizing s with
  | nil => exact .refl s
  | cons a l ih => exact (h s a).trans (ih (f s a))

theorem focusKept_of_same (hfc : t.fc = s.fc) (htref : t.setup.tref = s.setup.tref) : FocusKept s t :=
  ⟨htref, by rw [hfc], by rw [hfc], by rw [hfc]⟩

theorem focusKept_handRemoved (st : EndStatus) (e : Entry) : FocusKept s (handRemoved st e s) := by
  unfold handRemoved
  split
  · exact focusKept_of_same (setupOnly_recordRecall _ _ _).fc recordRecall_base.2
  all_goals exact ⟨rfl, rfl, rfl, rfl⟩

theorem focusKept_mapMq (f : MotionQueue → MotionQueue) : FocusKept s (s.mapMq f) := ⟨rfl, rfl, rfl, rfl⟩

theorem focusKept_clearQueue : FocusKept s (clearQueue s) :=
  (focusKept_mapMq _).trans (.fold _ (fun _ e => focusKept_handRemoved _ e) _ _)

theorem focusKept_abandonRecall (flagged : Bool) : FocusKept s (abandonRecall flagged s) := by
  refine focusKept_of_same (setupOnly_abandonRecall _).fc ?_
  cases hcurrent : s.setup.current with
  | none => rw [abandonRecall_none _ hcurrent]
  | some rc => rw [abandonRecall_setup _ hcurrent]

/-- A cut FOCUS motion changes the reference only where it is a jog or had ARRIVED fixed (R103). -/
theorem focusKept_cutMotion (h : ax = .focus → ∀ m, (s.lens.get ax).motion = some m →
      (∀ up d, m.job ≠ .jog up d) ∧ cutStatus .stopped m ≠ .arrived) : FocusKept s (cutMotion ax s) := by
  cases hm : (s.lens.get ax).motion with
  | none => rw [cutMotion_none hm]; exact .refl s
  | some m =>
    rw [cutMotion_some hm]
    have hfc := endMotion_fc (st := cutStatus .stopped m) hm
    by_cases hax : ax = .focus
    · obtain ⟨hjob, hst⟩ := h hax m hm
      rw [if_pos hax] at hfc
      unfold FocusHears at hfc
      cases hj : m.job with
      | jog up d => exact absurd hj (hjob up d)
      | move _ => rw [hj] at hfc; simp only [if_neg hst] at hfc; exact focusKept_of_same hfc.1 hfc.2
      | ofRecall _ _ => rw [hj] at hfc; simp only [if_neg hst] at hfc; exact focusKept_of_same hfc.1 hfc.2
      | park _ => rw [hj] at hfc; exact focusKept_of_same hfc.1 hfc.2
      | learn => rw [hj] at hfc; exact focusKept_of_same hfc.1 hfc.2
      | trim _ =>
        rw [hj] at hfc
        simp only [if_neg hst] at hfc
        obtain ⟨htref, hfc⟩ := hfc
        exact ⟨htref, by rw [hfc], by rw [hfc], by rw [hfc]⟩
    · rw [if_neg hax] at hfc
      exact focusKept_of_same hfc.1 hfc.2

theorem focusKept_cutAll (h : ∀ m, s.lens.focus.motion = some m →
      (∀ up d, m.job ≠ .jog up d) ∧ cutStatus .stopped m ≠ .arrived) : FocusKept s (cutAll s) := by
  have hsteps (l : List Axis) (u : State) (hu : ∀ m, u.lens.focus.motion = some m →
      (∀ up d, m.job ≠ .jog up d) ∧ cutStatus .stopped m ≠ .arrived) :
      FocusKept u (l.foldl (fun s ax => cutMotion ax s) u) := by
    induction l generalizing u with
    | nil => exact .refl u
    | cons ax l ih =>
      refine (focusKept_cutMotion fun hax m hm => hu m (by rw [hax] at hm; exact hm)).trans (ih _ fun m hm => ?_)
      by_cases hax : ax = .focus
      · have hnone : ((cutMotion ax u).lens.get .focus).motion = none := hax ▸ cutMotion_motion _
        have hm : ((cutMotion ax u).lens.get .focus).motion = some m := hm
        rw [hnone] at hm
        cases hm
      · have hsame : (cutMotion ax u).lens.get .focus = u.lens.get .focus := cutMotion_get (Ne.symm hax)
        have hm : ((cutMotion ax u).lens.get .focus).motion = some m := hm
        rw [hsame] at hm
        exact hu m hm
  exact hsteps axes s h

/-- The start of an entry changes nothing of the Focus Compensator, but for a jog of FOCUS that ends at once (R75). -/
theorem startEntry_focus (h : e.axis ≠ .focus ∨ ∀ up d, e.job ≠ .jog up d) : (startEntry e s).fc = s.fc
    ∧ (startEntry e s).setup.tref = s.setup.tref := by
  have hdoes := dispatchMotion_does e.axis s.ge.orient (s.lens.get e.axis).cal s.now (s.rawNow e.axis) s.supplyIsLow
    (s.lens.get e.axis).state e.job
  have hfc : (started e s).fc = s.fc := (setupOnly_markEntry (s := s.mapAxis e.axis (movingAxis s.now e.job)) e).fc
  have htref : (started e s).setup.tref = s.setup.tref := by
    obtain ⟨o, hmark⟩ := markEntry_eq e (s.mapAxis e.axis (movingAxis s.now e.job))
    show (markEntry e (s.mapAxis e.axis (movingAxis s.now e.job))).setup.tref = _
    rw [hmark]
    rfl
  rw [startEntry_eq]
  cases hfate : entryFate e s with
  | goes m => exact ⟨hfc, htref⟩
  | ends st =>
    rw [entryFate] at hfate
    rw [hfate] at hdoes
    obtain ⟨-, up, d, hjog, -⟩ := hdoes
    have hax : e.axis ≠ .focus := h.resolve_right fun h => h up d hjog
    have hm : ((started e s).lens.get e.axis).motion = some (newMotion s.now (s.lens.get e.axis).state e.job) := by
      rw [started_lens]
      rfl
    have h := endMotion_fc (st := st) hm
    rw [if_neg hax] at h
    exact ⟨h.1.trans hfc, h.2.trans htref⟩

theorem dispatch_focus (h : ∀ e ∈ s.mq.entries, e.axis = .focus → ∀ up d, e.job ≠ .jog up d) :
    (dispatch s).fc = s.fc ∧ (dispatch s).setup.tref = s.setup.tref := by
  refine (dispatch_keeps (s := s) (fun t => (∀ e ∈ t.mq.entries, e.axis = .focus → ∀ up d, e.job ≠ .jog up d)
    ∧ t.fc = s.fc ∧ t.setup.tref = s.setup.tref) (fun t x rest ⟨hjobs, hfc, htref⟩ hentries _ => ⟨fun y hy => ?_, ?_⟩)
    ⟨h, rfl, rfl⟩).2
  · rw [startEntry_mq] at hy
    exact hjobs y (hentries ▸ List.mem_cons_of_mem _ hy)
  · have hjob : x.axis ≠ .focus ∨ ∀ up d, x.job ≠ .jog up d := by
      by_cases hax : x.axis = .focus
      · exact .inr (hjobs x (hentries ▸ .head _) hax)
      · exact .inl hax
    obtain ⟨hfc', htref'⟩ := startEntry_focus (s := t.mapMq (takeHead x rest)) hjob
    exact ⟨hfc'.trans hfc, htref'.trans htref⟩

/-! ## The drift table -/

theorem focusEnd_table (job : Job) : (focusEnd job st s).fc.table = s.fc.table := by
  cases job with
  | trim _ => simp only [focusEnd, State.mapFc, trimArrived]; split <;> rfl
  | move _ => unfold focusEnd; dsimp only; split <;> rfl
  | ofRecall _ _ => unfold focusEnd; dsimp only; split <;> rfl
  | jog _ _ => unfold focusEnd; dsimp only; split <;> rfl
  | park _ => rfl
  | learn => rfl

theorem endMotion_table : (endMotion ax st s).fc.table = s.fc.table := by
  cases hm : (s.lens.get ax).motion with
  | none => rw [endMotion_none hm]
  | some m =>
    have h := endMotion_fc (st := st) hm
    split at h
    · unfold FocusHears at h
      cases hj : m.job with
      | trim _ => rw [hj] at h; rw [h.2]
      | park _ => rw [hj] at h; rw [h.1]
      | learn => rw [hj] at h; rw [h.1]
      | _ => rw [hj] at h; dsimp only at h; split at h <;> rw [h.1]
    · rw [h.1]

theorem cutAll_table : (cutAll s).fc.table = s.fc.table := by
  have h (l : List Axis) (u : State) : (l.foldl (fun s ax => cutMotion ax s) u).fc.table = u.fc.table := by
    induction l generalizing u with
    | nil => rfl
    | cons ax l ih =>
      rw [List.foldl_cons, ih]
      unfold cutMotion
      split
      · rfl
      · exact endMotion_table
  exact h axes s

theorem clearQueue_table : (clearQueue s).fc.table = s.fc.table := by
  have h (l : List Entry) (u : State) : (l.foldl (fun s e => handRemoved .stopped e s) u).fc.table = u.fc.table := by
    induction l generalizing u with
    | nil => rfl
    | cons e l ih =>
      rw [List.foldl_cons, ih]
      unfold handRemoved
      split
      · rw [(setupOnly_recordRecall _ _ _).fc]
      all_goals rfl
  exact h _ _

end Sys2Proof.Machine
end

section
-- One declaration at a time: many proofs that wait at once hold a thread each.
set_option Elab.async false
/-! The mode changes of a soft reset, and MD_SOFT_RESET (R170). -/

namespace Sys2Proof.Machine

variable {s t u : State} {ax b : Axis} {m : Motion} {rc : Recall} {flagged : Bool}

/-! ## A change of mode with the lens at rest and no recall in flight -/

/-- What a change of mode of a soft reset leaves: only PARK motions have begun, and of the live setup, the Focus
Compensator, the banks and the settings of Cooling nothing has changed. -/
structure ModeOnly (s t : State) : Prop extends Outer s t where
  lens : ∀ ax, t.lens.get ax = s.lens.get ax ∨ ∃ target m, m.job = .park target
    ∧ t.lens.get ax = { s.lens.get ax with state := .moving, motion := some m }
  setup : t.setup = s.setup
  fc : t.fc = s.fc
  ge : t.ge = s.ge
  sampled : Sampled s t
  limits : t.cc.limits = s.cc.limits
  curves : t.cc.curves = s.cc.curves
  masks : t.cc.masks = s.cc.masks
  light : t.cc.light = s.cc.light
  faulted : ∀ fan, (t.cc.fans.get fan).faulted = (s.cc.fans.get fan).faulted

theorem ModeOnly.refl (s : State) : ModeOnly s s where
  toOuter := .refl s
  lens _ := .inl rfl
  setup := rfl
  fc := rfl
  ge := rfl
  sampled := .refl s
  limits := rfl
  curves := rfl
  masks := rfl
  light := rfl
  faulted _ := rfl

theorem ModeOnly.mapAu (f : Alerts → Alerts) (h : ModeOnly s t) : ModeOnly s (t.mapAu f) where
  toOuter := h.toOuter.trans ⟨rfl, rfl, rfl, rfl, rfl, rfl⟩
  lens := h.lens
  setup := h.setup
  fc := h.fc
  ge := h.ge
  sampled := h.sampled.trans (sampled_of_scan rfl)
  limits := h.limits
  curves := h.curves
  masks := h.masks
  light := h.light
  faulted := h.faulted

theorem modeOnly_mapFans {f : Fan → FanRecord → FanRecord} (hf : ∀ fan r, (f fan r).faulted = r.faulted) :
    ModeOnly s (mapFans s f) where
  toOuter := ⟨rfl, rfl, rfl, rfl, rfl, rfl⟩
  lens _ := .inl rfl
  setup := rfl
  fc := rfl
  ge := rfl
  sampled := sampled_of_scan rfl
  limits := rfl
  curves := rfl
  masks := rfl
  light := rfl
  faulted fan := by simp only [mapFans, State.mapCc, PerFan.get_make, hf]

theorem ModeOnly.trans_lens (h : ModeOnly s t) (k : ModeOnly t u) (hlens : t.lens = s.lens) : ModeOnly s u where
  toOuter := h.toOuter.trans k.toOuter
  lens ax := hlens ▸ k.lens ax
  setup := k.setup.trans h.setup
  fc := k.fc.trans h.fc
  ge := k.ge.trans h.ge
  sampled := h.sampled.trans k.sampled
  limits := k.limits.trans h.limits
  curves := k.curves.trans h.curves
  masks := k.masks.trans h.masks
  light := k.light.trans h.light
  faulted fan := (k.faulted fan).trans (h.faulted fan)

theorem modeOnly_enterStandby (hentries : s.mq.entries = []) : ModeOnly s (enterStandby flagged s) where
  toOuter := outer_enterStandby flagged
  lens _ := .inl (by rw [enterStandby_nil flagged hentries])
  setup := by rw [enterStandby_nil flagged hentries]
  fc := by rw [enterStandby_nil flagged hentries]
  ge := by rw [enterStandby_nil flagged hentries]
  sampled := sampled_enterStandby flagged
  limits := by rw [enterStandby_nil flagged hentries]
  curves := by rw [enterStandby_nil flagged hentries]
  masks := by rw [enterStandby_nil flagged hentries]
  light := by rw [enterStandby_nil flagged hentries]
  faulted fan := by
    rw [enterStandby_nil flagged hentries]
    simp only [PerFan.get_make]
    rfl

theorem modeOnly_judgeCooldown (hentries : s.mq.entries = []) : ModeOnly s (judgeCooldown flagged s) := by
  unfold judgeCooldown
  split
  · exact modeOnly_enterStandby hentries
  · exact .refl s

/-- With the lens at rest and no recall in flight, nothing leaves at an entry to COOLDOWN. -/
theorem leaveForCooldown_resting (hrest : s.lensAtRest = true) (hnone : s.setup.current = none) :
    leaveForCooldown flagged s = (cooldownEntry flagged s).mapMq (dropEntries fun _ => true) := by
  obtain ⟨hstill, hentries⟩ := lensAtRest_iff.mp hrest
  obtain ⟨c, a, heq⟩ := cooldownEntry_eq flagged s
  have hcleared : cleared flagged s = (cooldownEntry flagged s).mapMq (dropEntries fun _ => true) := by
    rw [cleared, abandonRecall_none _ (by rw [heq]; exact hnone), clearQueue_nil (by rw [heq]; exact hentries)]
  have hmotion (ax : Axis) : ((cleared flagged s).lens.get ax).motion = none := by
    rw [(cleared_frame flagged s).2.2]
    by_contra hm
    have hmoving : s.moving ax = true := Option.isSome_iff_ne_none.mpr hm
    exact Bool.false_ne_true (hstill.symm.trans (anyMoving_iff.mpr ⟨ax, hmoving⟩))
  have hsteps (l : List Axis) : l.foldl (fun s ax => requestEnd ax (fun _ => .stopped) s) (cleared flagged s)
      = cleared flagged s := by
    induction l with
    | nil => rfl
    | cons ax l ih =>
      have hstep : requestEnd ax (fun _ => .stopped) (cleared flagged s) = cleared flagged s := by
        rw [requestEnd, hmotion ax]
      rw [List.foldl_cons, hstep, ih]
  rw [leaveForCooldown_eq_fold, hsteps, hcleared]

theorem mem_of_mem_dispatch {e : Entry} (h : e ∈ (dispatch s).mq.entries) : e ∈ s.mq.entries := by
  obtain ⟨n, hdrop, -⟩ := dispatch_entries (s := s)
  exact List.mem_of_mem_drop (hdrop ▸ h)

theorem parkEntry_keeps {targets : PerAxis (Option Nat)} (hparks : ∀ e ∈ s.mq.entries, ∃ target, e.job = .park target) :
    (∀ e ∈ (parkEntry targets s ax).mq.entries, ∃ target, e.job = .park target)
      ∧ (∀ b, (parkEntry targets s ax).setup.base.get b = s.setup.base.get b)
      ∧ (parkEntry targets s ax).setup.tref = s.setup.tref ∧ (parkEntry targets s ax).fc = s.fc := by
  obtain ⟨target, -, -, h⟩ | ⟨-, h⟩ := parkEntry_cases targets s ax
  · rw [h]
    have hall : ∀ e ∈ s.mq.entries ++ [⟨ax, .park target⟩], ∃ target, e.job = .park target := fun e he => by
      rcases List.mem_append.mp he with he | he
      · exact hparks e he
      · exact ⟨target, by rw [List.mem_singleton.mp he]⟩
    have hnoJog : ∀ e ∈ s.mq.entries ++ [⟨ax, .park target⟩], ∀ up d, e.job ≠ .jog up d := fun e he up d hjog => by
      obtain ⟨target, hpark⟩ := hall e he
      exact Job.noConfusion (hjog.symm.trans hpark)
    obtain ⟨hfc, htref⟩ := dispatch_focus (s := s.mapMq fun q => { q with entries := q.entries ++ [⟨ax, .park target⟩] })
      fun e he _ => hnoJog e he
    exact ⟨fun e he => hall e (mem_of_mem_dispatch he), fun b => dispatch_base fun e he _ => hnoJog e he, htref, hfc⟩
  · rw [h]
    exact ⟨hparks, fun _ => rfl, rfl, rfl⟩

theorem appendParks_keeps (hempty : s.mq.entries = []) : (∀ b, (appendParks s).setup.base.get b = s.setup.base.get b)
    ∧ (appendParks s).setup.tref = s.setup.tref ∧ (appendParks s).fc = s.fc := by
  have hsteps (targets : PerAxis (Option Nat)) (l : List Axis) (u : State)
      (hu : ∀ e ∈ u.mq.entries, ∃ target, e.job = .park target) :
      (∀ b, (l.foldl (parkEntry targets) u).setup.base.get b = u.setup.base.get b)
        ∧ (l.foldl (parkEntry targets) u).setup.tref = u.setup.tref ∧ (l.foldl (parkEntry targets) u).fc = u.fc := by
    induction l generalizing u with
    | nil => exact ⟨fun _ => rfl, rfl, rfl⟩
    | cons ax l ih =>
      obtain ⟨hparks, hbase, htref, hfc⟩ := parkEntry_keeps (targets := targets) (ax := ax) hu
      obtain ⟨hbase', htref', hfc'⟩ := ih _ hparks
      exact ⟨fun b => (hbase' b).trans (hbase b), htref'.trans htref, hfc'.trans hfc⟩
  exact hsteps _ _ s fun e he => by rw [hempty] at he; cases he

theorem sampled_parkEntry (targets : PerAxis (Option Nat)) (s : State) (ax : Axis) : Sampled s (parkEntry targets s ax) := by
  obtain ⟨target, -, -, h⟩ | ⟨-, h⟩ := parkEntry_cases targets s ax
  · rw [h]
    exact sampled_appendEntry _
  · rw [h]
    exact .refl s

theorem setup_eq_of_settled (h : t.setup = { s.setup with base := t.setup.base, tref := t.setup.tref })
    (hbase : ∀ b, t.setup.base.get b = s.setup.base.get b) (htref : t.setup.tref = s.setup.tref) : t.setup = s.setup := by
  have hsame : t.setup.base = s.setup.base := PerAxis.ext_get hbase
  rw [h, hsame, htref]

theorem cooldownEntry_settings : (cooldownEntry flagged s).cc.limits = s.cc.limits
    ∧ (cooldownEntry flagged s).cc.curves = s.cc.curves ∧ (cooldownEntry flagged s).cc.masks = s.cc.masks
    ∧ (cooldownEntry flagged s).cc.light = s.cc.light := by
  unfold cooldownEntry
  rw [setMode_eq]
  exact ⟨rfl, rfl, rfl, rfl⟩

theorem modeOnly_enterCooldown (hrest : s.lensAtRest = true) (hnone : s.setup.current = none) :
    ModeOnly s (enterCooldown flagged s) := by
  obtain ⟨c, a, heq⟩ := cooldownEntry_eq flagged s
  have hleave := leaveForCooldown_resting (flagged := flagged) hrest hnone
  have hsettled : Settled s (enterCooldown flagged s) := by
    have h := settled_enterCooldown (flagged := flagged) (s := s)
    rw [abandonRecall_none _ (by rw [heq]; exact hnone)] at h
    exact (settled_of_setup (by rw [heq]) (by rw [heq])).trans h
  obtain ⟨hsetup, hge⟩ := hsettled hnone
  obtain ⟨hbase, htref, hfc⟩ := appendParks_keeps (leaveForCooldown_entries (s := s) flagged)
  have hleft : (leaveForCooldown flagged s).setup = s.setup ∧ (leaveForCooldown flagged s).fc = s.fc
      ∧ (leaveForCooldown flagged s).lens = s.lens := by
    rw [hleave, heq]
    exact ⟨rfl, rfl, rfl⟩
  obtain ⟨hlimits, hcurves, hmasks, hlight⟩ := cooldownEntry_settings (s := s) (flagged := flagged)
  refine {
    toOuter := outer_enterCooldown flagged
    lens := fun ax => ?lens
    setup := setup_eq_of_settled hsetup (fun b => (hbase b).trans (by rw [hleft.1])) (htref.trans (by rw [hleft.1]))
    fc := hfc.trans hleft.2.1
    ge := hge
    sampled := (sampled_leaveForCooldown flagged s).trans (.fold _ (fun _ _ => sampled_parkEntry _ _ _) _ _)
    limits := by rw [enterCooldown_cc, hlimits]
    curves := by rw [enterCooldown_cc, hcurves]
    masks := by rw [enterCooldown_cc, hmasks]
    light := by rw [enterCooldown_cc, hlight]
    faulted := fun fan => by rw [enterCooldown_cc, cooldownEntry_fan]; rfl }
  case lens =>
    obtain h | ⟨target, m, -, hjob, h⟩ := (parkedAt_enterCooldown (s := s) (flagged := flagged) ax).motion
    · exact .inl (h.trans (by rw [hleft.2.2]))
    · exact .inr ⟨target, m, hjob, h.trans (by rw [hleft.2.2])⟩

theorem modeOnly_softResetMode (hrest : s.lensAtRest = true) (hnone : s.setup.current = none) :
    ModeOnly s (softResetMode s) := by
  unfold softResetMode
  split
  · exact modeOnly_enterCooldown hrest hnone
  · exact modeOnly_enterCooldown hrest hnone
  · have haimed : ModeOnly s (cooldownTargets s) := modeOnly_mapFans fun _ _ => rfl
    exact haimed.trans_lens (modeOnly_judgeCooldown (s := cooldownTargets s) (lensAtRest_iff.mp hrest).2) rfl
  · exact modeOnly_mapFans fun _ _ => rfl
  · exact modeOnly_mapFans fun _ _ => rfl

theorem softResetMode_eq (hrest : s.lensAtRest = true) : (softResetMode s).mc.mode = (match s.mc.mode with
    | .standby => .standby
    | .starting | .run => .cooldown
    | .cooldown => if s.mc.thermalDone then .standby else .cooldown
    | .trip => .trip) := by
  unfold softResetMode
  cases hmode : s.mc.mode with
  | starting => dsimp only; rw [enterCooldown_mc]
  | run => dsimp only; rw [enterCooldown_mc]
  | standby => exact hmode
  | trip => exact hmode
  | cooldown =>
    dsimp only
    have hentries : (cooldownTargets s).mq.entries = [] := (lensAtRest_iff.mp hrest).2
    split
    · next hdone =>
      rw [judgeCooldown_ends (s := cooldownTargets s) ⟨hmode, hdone, hrest⟩, enterStandby_nil _ hentries]
    · next hdone =>
      rw [judgeCooldown_stays (s := cooldownTargets s) fun h => hdone h.2.1]
      exact hmode

/-! ## The lens of a soft reset -/

theorem clearQueue_base : (clearQueue s).setup.base = s.setup.base := by
  have h (l : List Entry) (u : State) : (l.foldl (fun s e => handRemoved .stopped e s) u).setup.base = u.setup.base := by
    induction l generalizing u with
    | nil => rfl
    | cons e l ih => rw [List.foldl_cons, ih, (handRemoved_setup _ _).2]
  exact h _ _

/-- An abandonment keeps of the live setup all that is not of the recall (R35). -/
theorem abandonRecall_keeps (flagged : Bool) (s : State) : ∃ state current pending report,
    (abandonRecall flagged s).setup = { s.setup with
      recallState := state, current := current, pendingGeometry := pending, report := report } := by
  cases hcurrent : s.setup.current with
  | none => rw [abandonRecall_none _ hcurrent]; exact ⟨_, _, _, _, rfl⟩
  | some rc => rw [abandonRecall_setup _ hcurrent]; exact ⟨_, _, _, _, rfl⟩

theorem abandonRecall_ge : (abandonRecall flagged s).ge = s.ge := by
  cases hcurrent : s.setup.current with
  | none => rw [abandonRecall_none _ hcurrent]
  | some rc =>
    rw [abandonRecall, hcurrent]
    dsimp only
    rw [endRecall_eq]
    rfl

theorem softResetLens_lensOnly : LensOnly s (softResetLens s) :=
  ((lensOnly_abandonRecall _).trans lensOnly_clearQueue).trans lensOnly_cutAll

theorem softResetLens_sampled : Sampled s (softResetLens s) :=
  ((sampled_of_scan (setupOnly_abandonRecall _).scan).trans sampled_clearQueue).trans sampled_cutAll

theorem softResetLens_settled : Settled (abandonRecall false s) (softResetLens s) := settled_clearQueue.trans settled_cutAll

theorem softResetLens_get (b : Axis) : (softResetLens s).lens.get b = cutAxis (s.reading b) (s.lens.get b)
    ∧ (softResetLens s).setup.base.get b = cutBase (s.rawNow b) (s.lens.get b) (s.setup.base.get b) := by
  have hsampled : Sampled s (clearQueue (abandonRecall false s)) :=
    (sampled_of_scan (setupOnly_abandonRecall _).scan).trans sampled_clearQueue
  have hlens : (clearQueue (abandonRecall false s)).lens = s.lens := clearQueue_lens.trans (setupOnly_abandonRecall _).lens
  have hnow : (clearQueue (abandonRecall false s)).now = s.now := lensOnly_clearQueue.now.trans (lensOnly_abandonRecall _).now
  have hbase : (clearQueue (abandonRecall false s)).setup.base = s.setup.base := by
    obtain ⟨_, _, _, _, hsetup⟩ := abandonRecall_keeps false s
    rw [clearQueue_base, hsetup]
  obtain ⟨hget, hcut⟩ := cutAll_get (s := clearQueue (abandonRecall false s)) b
  rw [reading_eq hsampled, hlens] at hget
  rw [rawNow_eq hsampled hnow, hlens, hbase] at hcut
  exact ⟨hget, hcut⟩

theorem softResetLens_focusKept (h : ∀ m, s.lens.focus.motion = some m →
      (∀ up d, m.job ≠ .jog up d) ∧ cutStatus .stopped m ≠ .arrived) : FocusKept s (softResetLens s) := by
  refine ((focusKept_abandonRecall false).trans focusKept_clearQueue).trans (focusKept_cutAll fun m hm => h m ?_)
  rw [clearQueue_lens, (setupOnly_abandonRecall _).lens] at hm
  exact hm

theorem softResetLens_rest : (softResetLens s).lensAtRest = true := lensAtRest_cutAll

theorem softResetLens_current : (softResetLens s).setup.current = none := by
  obtain ⟨hsetup, -⟩ := softResetLens_settled (abandonRecall_current false s)
  rw [hsetup]
  exact abandonRecall_current false s

theorem softResetLens_table : (softResetLens s).fc.table = s.fc.table := by
  rw [softResetLens, cutAll_table, clearQueue_table, (setupOnly_abandonRecall _).fc]

/-! ## The soft reset -/

theorem faultedFans_eq_zero {c : Cooling} (h : ∀ fan, (c.fans.get fan).faulted = false) : faultedFans c = 0 := by
  rw [faultedFans, List.length_eq_zero_iff, List.filter_eq_nil_iff]
  intro f hf
  simp only [PerFan.toList, List.mem_cons, List.not_mem_nil, or_false] at hf
  rcases hf with rfl | rfl | rfl | rfl
  · exact fun hc => Bool.false_ne_true ((h .f0).symm.trans hc)
  · exact fun hc => Bool.false_ne_true ((h .f1).symm.trans hc)
  · exact fun hc => Bool.false_ne_true ((h .f2).symm.trans hc)

/-- What the block resets leave, with all fans whole and the light limit at 100 (R118, R161). -/
theorem softResetBlocks_frame (u : State) : (softResetBlocks u).lensAtRest = u.lensAtRest
    ∧ (softResetBlocks u).setup = u.setup ∧ (softResetBlocks u).lens = u.lens ∧ (softResetBlocks u).fc = u.fc
    ∧ (softResetBlocks u).ge = u.ge ∧ (softResetBlocks u).scan = u.scan ∧ (softResetBlocks u).pt = u.pt
    ∧ (softResetBlocks u).mc = u.mc := ⟨rfl, rfl, rfl, rfl, rfl, rfl, rfl, rfl⟩

theorem softResetBlocks_cc (u : State) : (softResetBlocks u).cc.limits = u.cc.limits
    ∧ (softResetBlocks u).cc.curves = u.cc.curves ∧ (softResetBlocks u).cc.masks = u.cc.masks
    ∧ (softResetBlocks u).cc.light = 100 ∧ (∀ fan, ((softResetBlocks u).cc.fans.get fan).faulted = false)
    ∧ (softResetBlocks u).lp = { u.lp with cursor := 0 } := by
  refine ⟨rfl, rfl, rfl, rfl, fun fan => ?_, rfl⟩
  cases fan <;> rfl

theorem softReset_eq (s : State) : softReset s = (softResetMode (softResetBlocks (softResetLens s))).mapAu fun _ =>
    softResetAlerts (softResetMode (softResetBlocks (softResetLens s))).mc.mode := rfl

/-- The state of a soft reset before its alert flags, by what each of its parts keeps. -/
theorem modeOnly_softReset : ∃ u, ModeOnly u (softReset s) ∧ u.setup = (softResetLens s).setup
    ∧ u.lens = (softResetLens s).lens ∧ u.fc = (softResetLens s).fc ∧ u.ge = (softResetLens s).ge
    ∧ Sampled s u ∧ u.pt = s.pt ∧ u.lp = { s.lp with cursor := 0 } ∧ u.cc.limits = s.cc.limits
    ∧ u.cc.curves = s.cc.curves ∧ u.cc.masks = s.cc.masks ∧ u.cc.light = 100
    ∧ ∀ fan, (u.cc.fans.get fan).faulted = false := by
  obtain ⟨hrest, hsetup, hlens, hfc, hge, hscan, hpt, -⟩ := softResetBlocks_frame (softResetLens s)
  obtain ⟨hlimits, hcurves, hmasks, hlight, hfaulted, hlp⟩ := softResetBlocks_cc (softResetLens s)
  have hfirst := softResetLens_lensOnly (s := s)
  have hmode := modeOnly_softResetMode (s := softResetBlocks (softResetLens s)) (hrest.trans softResetLens_rest)
    (by rw [hsetup, softResetLens_current])
  have hreset := hmode.mapAu fun _ => softResetAlerts (softResetMode (softResetBlocks (softResetLens s))).mc.mode
  rw [← softReset_eq] at hreset
  generalize softResetBlocks (softResetLens s) = u at *
  exact ⟨u, hreset, hsetup, hlens, hfc, hge, softResetLens_sampled.trans (sampled_of_scan hscan), hpt.trans hfirst.pt,
    hlp.trans (by rw [hfirst.lp]), hlimits.trans (by rw [hfirst.cc]), hcurves.trans (by rw [hfirst.cc]),
    hmasks.trans (by rw [hfirst.cc]), hlight, hfaulted⟩

/-- The mode after a soft reset, by the table (R170). -/
theorem softReset_mode : (softReset s).mc.mode = (match s.mc.mode with
    | .standby => .standby
    | .starting | .run => .cooldown
    | .cooldown => if s.mc.thermalDone then .standby else .cooldown
    | .trip => .trip) := by
  obtain ⟨hrest, -, -, -, -, -, -, hmc⟩ := softResetBlocks_frame (softResetLens s)
  have h := softResetMode_eq (hrest.trans (softResetLens_rest (s := s)))
  rw [hmc, softResetLens_lensOnly.mc] at h
  exact h

theorem softReset_au : (softReset s).au = softResetAlerts (softReset s).mc.mode := rfl

/-- An axis keeps the last end and the calibration that its cut leaves, and moves only for a PARK (R72, R170). -/
theorem softReset_axis (ax : Axis) :
    ((softReset s).lens.get ax).lastEnd = (cutAxis (s.reading ax) (s.lens.get ax)).lastEnd
      ∧ ((softReset s).lens.get ax).cal = (cutAxis (s.reading ax) (s.lens.get ax)).cal
      ∧ ∀ m, ((softReset s).lens.get ax).motion = some m → ∃ target, m.job = .park target := by
  obtain ⟨u, hmode, -, hlens, -⟩ := modeOnly_softReset (s := s)
  have hget : u.lens.get ax = (softResetLens s).lens.get ax := by rw [hlens]
  have hstill : ((softResetLens s).lens.get ax).motion = none := cutAll_motion ax
  rw [← (softResetLens_get ax).1, ← hget]
  obtain h | ⟨target, m', hjob, h⟩ := hmode.lens ax
  · rw [h]
    refine ⟨rfl, rfl, fun m hm => ?_⟩
    rw [hget, hstill] at hm
    cases hm
  · rw [h]
    exact ⟨rfl, rfl, fun m hm => ⟨target, Option.some_inj.mp hm ▸ hjob⟩⟩

theorem cutStatus_eq (m : Motion) : cutStatus .stopped m = m.brake.elim .stopped (·.status) := rfl

/-- Settles O42: the lens path, then the blocks, then a change of mode that finds the lens at rest. -/
theorem softResetLeaves : Obligations.SoftResetLeaves := by
  intro s hs
  obtain ⟨u, hmode, hsetup, -, hfc, hge, hsampled, hpt, hlp, hlimits, hcurves, hmasks, hlight, hfaulted⟩ :=
    modeOnly_softReset (s := s)
  have hsetup : (softReset s).setup = (softResetLens s).setup := hmode.setup.trans hsetup
  obtain ⟨hsettled, hgeLens⟩ := softResetLens_settled (s := s) (abandonRecall_current false s)
  have hsettledAll : Settled (abandonRecall false s) (softReset s) :=
    softResetLens_settled.trans (settled_of_setup hsetup (hmode.ge.trans hge))
  obtain ⟨_, _, _, _, habandon⟩ := abandonRecall_keeps false s
  have hkept : (softReset s).setup = _ := hsetup.trans hsettled
  have hsampled := hsampled.trans hmode.sampled
  have hge : (softReset s).ge = s.ge :=
    ((hmode.ge.trans hge).trans hgeLens).trans abandonRecall_ge
  refine ⟨softReset s, ?reply, softReset_mode, ?alerts, hmode.light.trans hlight, ?faults, hmode.limits.trans hlimits,
    hmode.curves.trans hcurves, hmode.masks.trans hmasks, fun ax => (softReset_axis ax).2.2,
    fun ax m hm => ?ends, fun ax hlearn => ?cal, fun rc hcurrent => ?abandoned, fun hnone => ?report,
    by rw [hsetup, softResetLens_current], ?source, ?modified, ?tag, ?quiet, ?focusOn, fun ax hjog => ?base,
    fun ax m up d c hm hjob hc => ?jogBase, fun hfocus => ?focus, hmode.pt.trans hpt, hge, hsampled.therms,
    hsampled.pots, hsampled.rounds, hmode.lp.trans hlp, by rw [hmode.fc, hfc, softResetLens_table]⟩
  case reply => exact request_of_reply hs (Nat.le_of_ble_eq_true rfl) rfl
  case alerts =>
    rw [softReset_au, softReset_mode]
    cases hm : s.mc.mode with
    | cooldown => dsimp only; split <;> decide
    | _ => dsimp only; decide
  case faults => exact faultedFans_eq_zero fun fan => (hmode.faulted fan).trans (hfaulted fan)
  case ends =>
    rw [(softReset_axis ax).1, cutAxis, hm]
    rfl
  case cal =>
    rw [(softReset_axis ax).2.1, cutAxis]
    cases hm : (s.lens.get ax).motion with
    | none => rfl
    | some m =>
      refine if_neg fun h => ?_
      rw [cutStatus_eq] at h
      cases hb : m.brake with
      | none => rw [hb] at h; cases h
      | some b => rw [hb] at h; exact hlearn m b hm hb h
  case abandoned => exact hsettledAll.abandoned hcurrent
  case report =>
    rw [hkept, abandonRecall_none _ hnone]
  case source => rw [hkept, habandon]
  case modified => rw [hkept, habandon]
  case tag => rw [hkept, habandon]
  case quiet => rw [hkept, habandon]
  case focusOn => rw [hkept, habandon]
  case base =>
    rw [hsetup, (softResetLens_get ax).2, cutBase]
    cases hm : (s.lens.get ax).motion with
    | none => rfl
    | some m =>
      refine if_neg fun h => ?_
      obtain ⟨up, d, hjob⟩ := isJog_iff.mp h.1
      exact hjog m up d hm hjob
  case jogBase =>
    rw [(softReset_axis ax).2.1, cutAxis, hm] at hc
    have hc : (if cutStatus .stopped m = .learnFail then none else (s.lens.get ax).cal) = some c := hc
    rw [hsetup, (softResetLens_get ax).2, cutBase, hm, Option.elim_some, hc, ← cutStatus_eq]
    by_cases hret : cutStatus .stopped m = .retargeted
    · rw [if_pos hret, if_neg fun h => h.2 hret]
    · rw [if_neg hret, if_pos ⟨isJog_iff.mpr ⟨up, d, hjob⟩, hret⟩]
      rfl
  case focus =>
    have h := softResetLens_focusKept (s := s) fun m hm => by
      obtain ⟨hjob, hbrake⟩ := hfocus m hm
      refine ⟨hjob, fun h => ?_⟩
      rw [cutStatus_eq] at h
      cases hb : m.brake with
      | none => rw [hb] at h; cases h
      | some b => rw [hb] at h; exact hbrake b hb h
    rw [hsetup, hmode.fc, hfc]
    exact ⟨h.tref, h.comp, h.applied, h.coef⟩

end Sys2Proof.Machine
end

section
-- One declaration at a time: many proofs that wait at once hold a thread each.
set_option Elab.async false
/-! The entry to TRIP, and the way to it through an evaluation (R35, R72, R84, R130, R168). -/

namespace Sys2Proof.Machine

variable {s t u v : State} {ax b : Axis} {m : Motion} {e : Entry} {rc : Recall} {cause : TripCause} {atTrip : SensorSet}
  {record : TripRecord} {r : Receiver} {l : List Receiver}

/-! ## What may come before a trip within one event -/

def OnlyTrims (s : State) : Prop := ∀ e ∈ s.mq.entries, ∃ target, e.job = .trim target

/-- A state from which the lens has at most moved on: every motion runs still, the recall in flight is there, and where
no entry waited only a trim has joined. -/
structure Onward (s v : State) : Prop extends Outer s v where
  mc : v.mc = s.mc
  motions : ∀ ax m, (s.lens.get ax).motion = some m → (v.lens.get ax).motion = some m
  current : s.setup.current.isSome = true → v.setup.current.isSome = true
  trims : s.mq.entries = [] → OnlyTrims v ∧ v.setup.current = s.setup.current
    ∧ ∀ ax, (v.lens.get ax).motion.bind (·.brake) = (s.lens.get ax).motion.bind (·.brake)

theorem Onward.refl (s : State) : Onward s s where
  toOuter := .refl s
  mc := rfl
  motions _ _ h := h
  current h := h
  trims hempty := ⟨fun _ he => absurd (hempty ▸ he) List.not_mem_nil, rfl, fun _ => rfl⟩

/-- A step that touches no axis, no mode and no recall, and adds nothing but a trim to the queue. -/
theorem Onward.step (h : Onward s v) (houter : Outer v u) (hmc : u.mc = v.mc) (hlens : u.lens = v.lens)
    (hcurrent : u.setup.current = v.setup.current) (htrims : OnlyTrims v → OnlyTrims u) : Onward s u where
  toOuter := h.toOuter.trans houter
  mc := hmc.trans h.mc
  motions ax m hm := by rw [hlens]; exact h.motions ax m hm
  current hsome := by rw [hcurrent]; exact h.current hsome
  trims hempty := by
    obtain ⟨honly, hsame, hbrakes⟩ := h.trims hempty
    rw [hcurrent, hlens]
    exact ⟨htrims honly, hsame, hbrakes⟩

theorem dispatchMotion_trim_brake {o : Orientation} {cal : Option Calibration} {now : Time} {raw : Raw} {low : Bool}
    {state : AxisState} {target : Nat} (h : dispatchMotion ax o cal now raw low state (.trim target) = .goes m) :
    m.brake = none := by
  obtain ⟨-, -, -, -, -, hbrake, -⟩ := startPositioning_fields (now := now) ax o (countsOf cal raw) target
    (newMotion now state (.trim target))
  have hjob := startPositioning_job ax o now (countsOf cal raw) target (newMotion now state (.trim target))
  rw [dispatchMotion_eq (firstPhase_positioning rfl)] at h
  generalize startPositioning ax o now (countsOf cal raw) target (newMotion now state (.trim target)) = first at *
  have hpause : (if low then pauseMotion now first else first).brake = none
      ∧ (if low then pauseMotion now first else first).job = .trim target := by
    split
    · refine ⟨?_, (pauseMotion_job _ _).trans hjob⟩
      unfold pauseMotion
      split <;> exact hbrake
    · exact ⟨hbrake, hjob⟩
  obtain ⟨hnone, htrim⟩ := hpause
  rw [afterDeadline, htrim] at h
  exact Fate.goes.inj h ▸ hnone

theorem startEntry_current (e : Entry) (s : State) : (s.setup.current.isSome = true →
      (startEntry e s).setup.current.isSome = true)
    ∧ (jobTag e.job = none → (startEntry e s).setup.current = s.setup.current) := by
  obtain ⟨-, hcurrent, -⟩ := startEntry_setup e s
  rw [hcurrent]
  refine ⟨fun hsome => ?_, fun hnone => by rw [markEntry, hnone]; rfl⟩
  unfold markEntry
  cases jobTag e.job with
  | none => exact hsome
  | some tag =>
    show (markRunning e.axis tag s).setup.current.isSome = true
    obtain ⟨rc, hrc⟩ := Option.isSome_iff_exists.mp hsome
    unfold markRunning
    rw [hrc]
    dsimp only
    split
    · rfl
    · rw [hrc]
      rfl

theorem startEntry_trim {target : Nat} (hjob : e.job = .trim target) (s : State) :
    ((startEntry e s).lens.get e.axis).motion.bind (·.brake) = none := by
  have hdoes := dispatchMotion_does e.axis s.ge.orient (s.lens.get e.axis).cal s.now (s.rawNow e.axis) s.supplyIsLow
    (s.lens.get e.axis).state e.job
  rw [startEntry_eq]
  cases hfate : entryFate e s with
  | goes m =>
    rw [applyFate_goes_get, Option.bind_some]
    rw [entryFate, hjob] at hfate
    exact dispatchMotion_trim_brake hfate
  | ends st =>
    rw [entryFate] at hfate
    rw [hfate] at hdoes
    obtain ⟨-, up, d, hjog, -⟩ := hdoes
    rw [hjob] at hjog
    cases hjog

theorem Onward.dispatch (h : Onward s v) : Onward s (dispatch v) := by
  refine dispatch_keeps (Onward s) (fun u x rest hu hentries hcan => ?_) h
  obtain ⟨-, hstill, -⟩ := (canDispatch_iff u x).mp hcan
  have hrest : (u.lens.get x.axis).motion = none := by
    rwa [State.moving, Option.isSome_eq_false_iff, Option.isNone_iff_eq_none] at hstill
  have hother (b : Axis) (hb : b ≠ x.axis) : (startEntry x (u.mapMq (takeHead x rest))).lens.get b = u.lens.get b :=
    startEntry_get x b hb
  have hlens := (lensOnly_mapMq (s := u) (takeHead x rest)).trans (lensOnly_startEntry x)
  obtain ⟨hsome, hsame⟩ := startEntry_current x (u.mapMq (takeHead x rest))
  refine {
    toOuter := hu.toOuter.trans hlens.toOuter
    mc := hlens.mc.trans hu.mc
    motions := fun b m hm => ?motions
    current := fun h => hsome (hu.current h)
    trims := fun hempty => ?trims }
  case motions =>
    have hbefore := hu.motions b m hm
    by_cases hb : b = x.axis
    · rw [hb, hrest] at hbefore
      cases hbefore
    · rw [hother b hb]
      exact hbefore
  case trims =>
    obtain ⟨honly, hcurrent, hbrakes⟩ := hu.trims hempty
    obtain ⟨target, hjob⟩ := honly x (hentries ▸ List.mem_cons_self ..)
    refine ⟨fun y hy => ?_, (hsame (by rw [hjob]; rfl)).trans hcurrent, fun b => ?_⟩
    · rw [startEntry_mq] at hy
      exact honly y (hentries ▸ List.mem_cons_of_mem _ hy)
    · by_cases hb : b = x.axis
      · rw [hb, startEntry_trim hjob, ← hbrakes, hrest]
        rfl
      · rw [hother b hb, hbrakes]

/-! ## The entry to TRIP (R168) -/

theorem laws_afterTripEntry : Laws (tripEntry cause atTrip s) (enterTrip cause atTrip s) :=
  (laws_abandonRecall _).trans (laws_clearQueue.trans laws_cutAll)

theorem flagged_tripEntry : (tripEntry cause atTrip s).flagged .trip ∧ (tripEntry cause atTrip s).flagged .modeChange := by
  have hmode : (setMode .trip true s).flagged .modeChange := flagged_occur_self _ _
  exact ⟨flagged_of_au (flagged_occur_self .trip (setMode .trip true s)) rfl, flagged_of_au (flagged_occur .trip hmode) rfl⟩

theorem tripEntry_fan (fan : Fan) : (tripEntry cause atTrip s).cc.fans.get fan = fanOnTrip (s.cc.fans.get fan) := by
  unfold tripEntry
  rw [setMode_eq]
  simp only [mapFans, State.mapCc, PerFan.get_make]
  rfl

/-- A motion that is cut sets MOTION_END (R73). -/
theorem flagged_cutAll (hm : (s.lens.get ax).motion = some m) : (cutAll s).flagged .motionEnd := by
  have hsteps (l : List Axis) (u : State) (hin : ax ∈ l) (hu : (u.lens.get ax).motion = some m) :
      (l.foldl (fun s ax => cutMotion ax s) u).flagged .motionEnd := by
    induction l generalizing u with
    | nil => cases hin
    | cons b l ih =>
      rw [List.foldl_cons]
      by_cases hb : ax = b
      · have hcut : (cutMotion b u).flagged .motionEnd := by
          rw [← hb, cutMotion_some hu]
          exact (flagged_endMotion hu).1
        exact (Laws.fold _ (fun _ ax => laws_cutMotion ax) l (cutMotion b u)).flagged _ hcut
      · exact ih _ ((List.mem_cons.mp hin).resolve_left hb) (by rw [cutMotion_get hb]; exact hu)
  exact hsteps axes s (by cases ax <;> decide) hm

theorem stoppedProgress_congr {m m' : Option Motion} (h : m.bind (·.brake) = m'.bind (·.brake)) (p : Progress) :
    stoppedProgress m p = stoppedProgress m' p := by
  cases p <;> simp only [stoppedProgress, h]

/-- The entry to TRIP from where the lens has at most moved on (R35, R72, R84, R168). -/
theorem tripped_enterTrip (h : Onward s v) :
    Tripped ⟨cause, atTrip, faultedFans v.cc, s.mc.mode⟩ s (enterTrip cause atTrip v) := by
  obtain ⟨c, a, heq⟩ := tripEntry_eq cause atTrip v
  have hlens : LensOnly (tripEntry cause atTrip v) (enterTrip cause atTrip v) :=
    ((lensOnly_abandonRecall _).trans lensOnly_clearQueue).trans lensOnly_cutAll
  have hbefore : (clearQueue (abandonRecall true (tripEntry cause atTrip v))).lens = v.lens := by
    rw [clearQueue_lens, (setupOnly_abandonRecall _).lens, heq]
  have hsettled : Settled (abandonRecall true (tripEntry cause atTrip v)) (enterTrip cause atTrip v) :=
    settled_clearQueue.trans settled_cutAll
  obtain ⟨htrip, hchange⟩ := flagged_tripEntry (cause := cause) (atTrip := atTrip) (s := v)
  refine ⟨?mc, fun fan => ?fans, lensAtRest_cutAll, fun ax m hm => ⟨?ends, ?status⟩, fun rc hcurrent => ?abandoned,
    laws_afterTripEntry.flagged _ htrip, laws_afterTripEntry.flagged _ hchange,
    sameOuter_of_outer (h.toOuter.trans (outer_enterTrip _ _))⟩
  case mc => rw [hlens.mc, heq, h.mc, h.now]
  case fans =>
    rw [hlens.cc, tripEntry_fan]
    exact ⟨rfl, rfl, rfl⟩
  case ends =>
    rw [enterTrip_eq]
    exact flagged_cutAll (ax := ax) (m := m) (by rw [hbefore]; exact h.motions ax m hm)
  case status =>
    rw [enterTrip_eq, (cutAll_get ax).1, hbefore, cutAxis, h.motions ax m hm]
    rfl
  case abandoned =>
    obtain ⟨rc', hrc'⟩ := Option.isSome_iff_exists.mp (h.current (by rw [hcurrent]; rfl))
    have hentry : (tripEntry cause atTrip v).setup.current = some rc' := by rw [heq]; exact hrc'
    obtain ⟨hstate, hnone, hpending, hreport⟩ := (hsettled.abandoned hentry).congr (s := v) (by rw [heq])
    refine ⟨hstate, hnone, hpending, ?_, fun hempty => ⟨hstate, hnone, hpending, ?_⟩⟩
    · exact (laws_clearQueue.trans laws_cutAll).flagged _ (flagged_abandonRecall hentry)
    · obtain ⟨-, hsame, hbrakes⟩ := h.trims hempty
      obtain rfl : rc' = rc := Option.some_inj.mp (hrc'.symm.trans (hsame.trans hcurrent))
      have hprogress : (PerAxis.make fun ax => stoppedProgress (v.lens.get ax).motion (rc'.progress.get ax))
          = .make fun ax => stoppedProgress (s.lens.get ax).motion (rc'.progress.get ax) :=
        congrArg _ (funext fun ax => stoppedProgress_congr (hbrakes ax) _)
      rw [hreport, hprogress]

/-- A trip is one by the mode record, the fans, the lens, the queue, the live setup and the flags alone. -/
theorem Tripped.congr (h : Tripped record s v) (houter : Outer v u) (hmc : u.mc = v.mc) (hfans : u.cc.fans = v.cc.fans)
    (hlens : u.lens = v.lens) (hmq : u.mq.entries = v.mq.entries) (hsetup : u.setup = v.setup) (hau : u.au = v.au) :
    Tripped record s u := by
  have hrest : u.lensAtRest = v.lensAtRest := by
    unfold State.lensAtRest State.anyMoving State.moving
    rw [hlens, hmq]
  obtain ⟨hpending, hnow, hheld, hpt, hlp, hcl⟩ := houter
  unfold Tripped Abandoned State.flagged State.SameOuter at h ⊢
  rw [hmc, hfans, hlens, hsetup, hau, hrest, hpending, hnow, hheld, hpt, hlp, hcl]
  exact h

end Sys2Proof.Machine
end

section
-- One declaration at a time: many proofs that wait at once hold a thread each.
set_option Elab.async false
/-! A thermal evaluation: its receivers in any order, and what each leaves alone (R46). -/

namespace Sys2Proof.Machine

variable {s t u v : State} {raw : Raw} {cause : TripCause} {atTrip : SensorSet} {c d e : Cooling}

/-! ## The order of the receivers -/

/-- Every receiver takes an evaluation once (R46). -/
theorem orderAt_count (now : Time) (r : Receiver) : (orderAt now).count r = 1 := by
  have hone : ∀ l ∈ evaluationOrders, l.count r = 1 := by cases r <;> decide
  rw [orderAt, List.getD_eq_getElem?_getD]
  cases h : evaluationOrders[(Config.evaluationOrder now).val]? with
  | none => cases r <;> rfl
  | some l => exact hone l (List.mem_of_getElem? h)

theorem orderAt_split (now : Time) (r : Receiver) :
    ∃ pre post, orderAt now = pre ++ r :: post ∧ r ∉ pre ∧ r ∉ post := by
  have hone := orderAt_count now r
  obtain ⟨pre, post, horder⟩ := List.append_of_mem (List.count_pos_iff.mp (hone ▸ Nat.one_pos))
  rw [horder, List.count_append, List.count_cons_self] at hone
  exact ⟨pre, post, horder, List.count_eq_zero.mp (by omega), List.count_eq_zero.mp (by omega)⟩

/-- What holds as long as a receiver has not taken the signal, what it brings, and what the others keep (R46, log 10). -/
theorem evaluated {P Q : State → Prop} (now : Time) (r : Receiver) (hbefore : ∀ r' v, r' ≠ r → P v → P (receive r' v))
    (hat : ∀ v, P v → Q (receive r v)) (hafter : ∀ r' v, r' ≠ r → Q v → Q (receive r' v)) (h : P s) :
    Q ((orderAt now).foldl (fun s r => receive r s) s) := by
  have hsteps {R : State → Prop} (hkeeps : ∀ r' v, r' ≠ r → R v → R (receive r' v)) (l : List Receiver) (hl : r ∉ l)
      (u : State) (hu : R u) : R (l.foldl (fun s r => receive r s) u) := by
    induction l generalizing u with
    | nil => exact hu
    | cons x l ih =>
      rw [List.mem_cons, not_or] at hl
      exact ih hl.2 _ (hkeeps x u (Ne.symm hl.1) hu)
  obtain ⟨pre, post, horder, hpre, hpost⟩ := orderAt_split now r
  rw [horder, List.foldl_append, List.foldl_cons]
  exact hsteps hafter post hpost _ (hat _ (hsteps hbefore pre hpre s h))

/-- What every receiver keeps, the evaluation keeps. -/
theorem evaluated_keeps {P : State → Prop} (now : Time) (hkeeps : ∀ r v, P v → P (receive r v)) (h : P s) :
    P ((orderAt now).foldl (fun s r => receive r s) s) :=
  evaluated now .cooling (fun r v _ => hkeeps r v) (hkeeps _) (fun r v _ => hkeeps r v) h

/-! ## The signal after S7 -/

/-- The state that the receivers find after a sample of S7 (R46). -/
def heard (raw : Raw) (s : State) : State := signalled (takeThermistor .s7 raw s)

/-- The state that the receivers leave. -/
def received (raw : Raw) (s : State) : State := (orderAt s.now).foldl (fun s r => receive r s) (heard raw s)

theorem received_by {P Q : State → Prop} (r : Receiver) (hbefore : ∀ r' v, r' ≠ r → P v → P (receive r' v))
    (hat : ∀ v, P v → Q (receive r v)) (hafter : ∀ r' v, r' ≠ r → Q v → Q (receive r' v)) (h : P (heard raw s)) :
    Q (received raw s) := evaluated s.now r hbefore hat hafter h

theorem received_keeps {P : State → Prop} (hkeeps : ∀ r v, P v → P (receive r v)) (h : P (heard raw s)) :
    P (received raw s) := evaluated_keeps s.now hkeeps h

theorem endSlow_s7 (raw : Raw) (s : State) :
    endSlow .s7 raw s = (received raw s).mapScan (grant (received raw s).now false) := by
  have hnow : (takeThermistor .s7 raw s).now = s.now := by
    obtain ⟨a, htake⟩ := takeThermistor_eq .s7 raw s
    rw [htake]
  rw [received, ← hnow]
  rfl

theorem validTemp_endSlow (sn : Sensor) : (endSlow .s7 raw s).validTemp sn = (takeThermistor .s7 raw s).validTemp sn := by
  unfold State.validTemp
  rw [endSlow_scan.1]
  obtain ⟨a, htake⟩ := takeThermistor_eq .s7 raw s
  rw [htake]

theorem heard_eq (raw : Raw) (s : State) : ∃ c a, heard raw s = { s with
    scan := c, au := a
    cc := { s.cc with
      seen := .make (endSlow .s7 raw s).validTemp
      used := .make fun fan => ⟨maskInForce s fan, s.cc.curves.get fan⟩ } } := by
  have hvalid : (takeThermistor .s7 raw s).validTemp = (endSlow .s7 raw s).validTemp :=
    funext fun sn => (validTemp_endSlow sn).symm
  have hseen : temperatures (takeThermistor .s7 raw s) = .make (endSlow .s7 raw s).validTemp := by
    rw [temperatures, hvalid]
  obtain ⟨a, htake⟩ := takeThermistor_eq .s7 raw s
  refine ⟨{ (takeThermistor .s7 raw s).scan with rounds := (takeThermistor .s7 raw s).scan.rounds + 1 }, a, ?_⟩
  have hheard : heard raw s = { takeThermistor .s7 raw s with
      scan := { (takeThermistor .s7 raw s).scan with rounds := (takeThermistor .s7 raw s).scan.rounds + 1 }
      cc := { (takeThermistor .s7 raw s).cc with
        seen := temperatures (takeThermistor .s7 raw s)
        used := .make (inputsInForce (takeThermistor .s7 raw s)) } } := rfl
  rw [hheard, hseen, htake]
  rfl

theorem heard_seen (sn : Sensor) : (heard raw s).cc.seen.get sn = (endSlow .s7 raw s).validTemp sn := by
  obtain ⟨c, a, heq⟩ := heard_eq raw s
  rw [heq]
  exact PerSensor.get_make _ _

theorem receive_cooling : receive .cooling = evaluateCooling := rfl

theorem receive_focus : receive .focus = evaluateFocus := rfl

theorem receive_queue : receive .queue = evaluateQueue := rfl

theorem receive_mode : receive .mode = evaluateMode := rfl

/-! ## Of Cooling, an evaluation changes the fans, the light limit and the sensor trip mark -/

/-- Two states of Cooling that agree but for the fan records, the light limit and the sensor trip mark. -/
def SettingsKept (c d : Cooling) : Prop := d = { c with fans := d.fans, light := d.light, sensorTrip := d.sensorTrip }

theorem SettingsKept.refl (c : Cooling) : SettingsKept c c := rfl

theorem SettingsKept.trans (h : SettingsKept c d) (k : SettingsKept d e) : SettingsKept c e := by
  unfold SettingsKept at *
  rw [k, h]

theorem SettingsKept.judged (h : SettingsKept c d) (f : PerFan FanRecord) (b : Bool) :
    SettingsKept c { d with fans := f, sensorTrip := b } := h.trans rfl

theorem settingsKept_of_eq (h : d = c) : SettingsKept c d := h ▸ .refl c

theorem capCut_cc (s : State) : ∃ fans, (capCut s).cc = { s.cc with fans := fans } := by
  unfold capCut
  split
  · exact ⟨_, rfl⟩
  · exact ⟨s.cc.fans, rfl⟩

theorem setLight_cc (l : Nat) (s : State) : (setLight l s).cc = { s.cc with light := l } := by
  rw [setLight, occurIf_au]
  rfl

/-- The fans of an evaluation in RUN before the cap cut (R120, R121). -/
def runFans (s : State) : State :=
  let temps (fan : Fan) := governedBy (maskInForce s fan) s.cc.seen
  let hot (fan : Fan) : Bool := overrideAfter s.cc.limits (temps fan) (s.cc.fans.get fan)
  let entered (fan : Fan) : Bool := hot fan && !(s.cc.fans.get fan).override
  mapFans s fun fan f =>
    runPipeline s.now (s.cc.curves.get fan) fan (isCeiling s.ge.orient) (capInForce s fan) (temps fan) (entered fan)
      { f with override := hot fan }

/-- A fan enters override at an evaluation (R120). -/
def entersOverride (s : State) (fan : Fan) : Bool :=
  overrideAfter s.cc.limits (governedBy (maskInForce s fan) s.cc.seen) (s.cc.fans.get fan) && !(s.cc.fans.get fan).override

/-- The state of an evaluation in RUN after the cap cut and before the light limit. -/
def runCut (s : State) : State := capCut (occurIf (fans.any (entersOverride s)) .override (runFans s))

theorem runEvaluation_eq (s : State) : runEvaluation s = setLight (deratedLight (runCut s)) (runCut s) := rfl

theorem settingsKept_runCut : SettingsKept s.cc (runCut s).cc := by
  obtain ⟨f, hcut⟩ := capCut_cc (occurIf (fans.any (entersOverride s)) .override (runFans s))
  rw [runCut, hcut, occurIf_au]
  rfl

theorem settingsKept_modeWork : SettingsKept s.cc (modeWork s).cc := by
  unfold modeWork
  split
  · rw [runEvaluation_eq, setLight_cc]
    exact settingsKept_runCut.trans rfl
  · rfl
  all_goals exact .refl _

theorem enterTrip_cc : (enterTrip cause atTrip s).cc = { s.cc with
    fans := .make fun fan => fanOnTrip (s.cc.fans.get fan) } := by
  have hlens : LensOnly (tripEntry cause atTrip s) (enterTrip cause atTrip s) :=
    ((lensOnly_abandonRecall _).trans lensOnly_clearQueue).trans lensOnly_cutAll
  rw [hlens.cc, tripEntry, setMode_eq]
  rfl

theorem tripCondition_cc : ∃ f, (tripCondition cause atTrip s).cc = { s.cc with fans := f } := by
  unfold tripCondition
  split
  case h_4 => exact ⟨s.cc.fans, rfl⟩
  case h_5 => exact ⟨s.cc.fans, rfl⟩
  all_goals exact ⟨_, enterTrip_cc⟩

theorem enterStandby_cc (flagged : Bool) (s : State) : (enterStandby flagged s).cc = { s.cc with
    fans := .make fun fan => fanOnStandby (s.cc.fans.get fan) } := by
  rw [enterStandby_eq, lensOnly_clearQueue.cc, standbyEntry, setMode_eq]
  rfl

theorem judgeCooldown_cc (flagged : Bool) (s : State) : ∃ f, (judgeCooldown flagged s).cc = { s.cc with fans := f } := by
  unfold judgeCooldown
  split
  · exact ⟨_, enterStandby_cc _ _⟩
  · exact ⟨s.cc.fans, rfl⟩

/-- Cooling's judgment of the trip conditions, by the set of sensors at their limits (R130). -/
def judgeTrips (x : SensorSet) (s : State) : State :=
  let u := s.mapCc fun c => { c with sensorTrip := x ≠ 0 }
  if x ≠ 0 then tripCondition .sensor x u else u

theorem evaluateCooling_judges (s : State) :
    evaluateCooling s = judgeTrips (sensorsAtTrip (modeWork s)) (modeWork s) := rfl

theorem judgeTrips_cc (x : SensorSet) (s : State) : ∃ f, (judgeTrips x s).cc = { s.cc with
    fans := f, sensorTrip := decide (x ≠ 0) } := by
  unfold judgeTrips
  dsimp only
  split
  · obtain ⟨f, hcc⟩ := tripCondition_cc (cause := .sensor) (atTrip := x)
      (s := s.mapCc fun c => { c with sensorTrip := decide (x ≠ 0) })
    exact ⟨f, hcc⟩
  · exact ⟨s.cc.fans, rfl⟩

theorem sensorsAtTrip_congr (h : SettingsKept s.cc t.cc) : sensorsAtTrip t = sensorsAtTrip s := by
  unfold sensorsAtTrip
  rw [h]

theorem settingsKept_judgeTrips (x : SensorSet) (h : SettingsKept c s.cc) : SettingsKept c (judgeTrips x s).cc
    ∧ (judgeTrips x s).cc.sensorTrip = decide (x ≠ 0) := by
  obtain ⟨f, hcc⟩ := judgeTrips_cc x s
  rw [hcc]
  exact ⟨h.judged f _, rfl⟩

/-- Cooling after its evaluation: the mark is set exactly where a sensor is at its trip limit (R130). -/
theorem evaluateCooling_cc (s : State) : SettingsKept s.cc (evaluateCooling s).cc
    ∧ (evaluateCooling s).cc.sensorTrip = decide (sensorsAtTrip s ≠ 0) := by
  have hkept := settingsKept_modeWork (s := s)
  have hat := sensorsAtTrip_congr hkept
  rw [evaluateCooling_judges, hat]
  exact settingsKept_judgeTrips (sensorsAtTrip s) hkept

theorem evaluateMode_cc (s : State) : ∃ f, (evaluateMode s).cc = { s.cc with fans := f } := by
  unfold evaluateMode
  split
  · exact judgeCooldown_cc _ _
  · exact ⟨s.cc.fans, rfl⟩

/-- Outside Cooling only the end of a cooldown touches the fans. -/
theorem receive_cc {r : Receiver} (hr : r ≠ .cooling) (s : State) : ∃ f, (receive r s).cc = { s.cc with fans := f } := by
  cases r with
  | cooling => exact absurd rfl hr
  | focus => exact ⟨s.cc.fans, lensOnly_evaluateFocus.cc⟩
  | queue => exact ⟨s.cc.fans, lensOnly_evaluateQueue.cc⟩
  | mode => exact evaluateMode_cc s

theorem settingsKept_receive (r : Receiver) : SettingsKept s.cc (receive r s).cc := by
  by_cases hr : r = .cooling
  · subst hr
    exact (evaluateCooling_cc s).1
  · obtain ⟨f, hcc⟩ := receive_cc hr s
    rw [hcc]
    rfl

/-! ## The budget (R96) -/

theorem cutAll_budget : (cutAll s).mq.budget = s.mq.budget := by rw [cutAll_mq]

theorem dispatch_budget : (dispatch s).mq.budget = s.mq.budget := by
  obtain ⟨_, -, hbudget⟩ := dispatch_entries (s := s)
  exact hbudget

theorem clearQueue_budget : (clearQueue s).mq.budget = s.mq.budget := by rw [clearQueue_mq]; rfl

theorem judgeTrips_budget (x : SensorSet) (s : State) : (judgeTrips x s).mq.budget = s.mq.budget := by
  have henter (u : State) : (enterTrip .sensor x u).mq.budget = u.mq.budget := by
    obtain ⟨c, a, heq⟩ := tripEntry_eq .sensor x u
    rw [enterTrip_eq, cutAll_budget, clearQueue_budget, (setupOnly_abandonRecall _).mq, heq]
  unfold judgeTrips tripCondition
  dsimp only
  split
  · split
    case h_4 => rfl
    case h_5 => rfl
    all_goals exact henter _
  · rfl

theorem receive_budget {r : Receiver} (hr : r ≠ .queue) (s : State) : (receive r s).mq.budget = s.mq.budget := by
  cases r with
  | queue => exact absurd rfl hr
  | cooling =>
    obtain ⟨c, a, heq⟩ := cooled_modeWork (s := s)
    rw [receive_cooling, evaluateCooling_judges, judgeTrips_budget, heq]
  | focus =>
    rw [receive_focus, evaluateFocus]
    unfold judgeTrim
    split
    · rfl
    · dsimp only
      split
      · exact dispatch_budget
      · rfl
  | mode =>
    rw [receive_mode]
    unfold evaluateMode judgeCooldown
    split
    · split
      · obtain ⟨c, a, heq⟩ := standbyEntry_eq true (s.mapMc fun m => { m with thermalDone := true })
        rw [enterStandby_eq, clearQueue_budget, heq]
        rfl
      · rfl
    · rfl

/-- The budget in force after an evaluation (R96). -/
theorem received_budget (raw : Raw) (s : State) : (received raw s).mq.budget
    = budgetFor (s.cc.limits.get .s7) ((endSlow .s7 raw s).validTemp .s7) := by
  obtain ⟨c, a, heq⟩ := heard_eq raw s
  have hlimits : (heard raw s).cc.limits = s.cc.limits := by rw [heq]
  rw [← hlimits, ← heard_seen]
  refine received_by (P := fun v => SettingsKept (heard raw s).cc v.cc)
    (Q := fun v => v.mq.budget = budgetFor ((heard raw s).cc.limits.get .s7) ((heard raw s).cc.seen.get .s7))
    .queue (fun r v _ hv => hv.trans (settingsKept_receive r)) (fun v hv => ?_)
    (fun r v hr hv => (receive_budget hr v).trans hv) (.refl _)
  have hsame : budgetFor (v.cc.limits.get .s7) (v.cc.seen.get .s7)
      = budgetFor ((heard raw s).cc.limits.get .s7) ((heard raw s).cc.seen.get .s7) := by rw [hv]
  rw [receive_queue]
  unfold evaluateQueue
  dsimp only
  rw [hsame]
  split
  · exact dispatch_budget
  · rfl

/-! ## What an evaluation goes by, and the sensor trip mark (R130) -/

theorem settingsKept_received : SettingsKept (heard raw s).cc (received raw s).cc :=
  received_keeps (P := fun v => SettingsKept (heard raw s).cc v.cc) (fun r _ hv => hv.trans (settingsKept_receive r))
    (.refl _)

theorem sensorTrip_received : (received raw s).cc.sensorTrip = decide (sensorsAtTrip (heard raw s) ≠ 0) := by
  refine received_by (P := fun v => SettingsKept (heard raw s).cc v.cc)
    (Q := fun v => v.cc.sensorTrip = decide (sensorsAtTrip (heard raw s) ≠ 0)) .cooling
    (fun r v _ hv => hv.trans (settingsKept_receive r)) (fun v hv => ?_) (fun r v hr hv => ?_) (.refl _)
  · rw [← sensorsAtTrip_congr hv, receive_cooling]
    exact (evaluateCooling_cc v).2
  · obtain ⟨f, hcc⟩ := receive_cc hr v
    rw [hcc]
    exact hv

end Sys2Proof.Machine
end

section
-- One declaration at a time: many proofs that wait at once hold a thread each.
set_option Elab.async false
/-! A sensor at its trip limit at an evaluation (R130, R168). -/

namespace Sys2Proof.Machine

variable {s t u v : State} {raw : Raw} {sn : Sensor} {x : SensorSet} {record : TripRecord} {r : Receiver}

/-! ## The set of sensors at their trip limits -/

theorem inSet_sensorSet (f : Sensor → Bool) (sn : Sensor) : inSet (sensorSet f) sn = f sn := by
  have hbits : ∀ a b c d e g h i : Bool, ∀ sn : Fin 8, (marks [a, b, c, d, e, g, h, i]).getLsbD sn
      = [a, b, c, d, e, g, h, i].getD sn false := by decide
  have h := hbits (f .s0) (f .s1) (f .s2) (f .s3) (f .s4) (f .s5) (f .s6) (f .s7)
  cases sn with
  | s0 => exact h 0
  | s1 => exact h 1
  | s2 => exact h 2
  | s3 => exact h 3
  | s4 => exact h 4
  | s5 => exact h 5
  | s6 => exact h 6
  | s7 => exact h 7

theorem inSet_sensorsAtTrip : inSet (sensorsAtTrip s) sn = true
    ↔ ∃ y, s.cc.seen.get sn = some y ∧ (s.cc.limits.get sn).trip ≤ y := by
  rw [sensorsAtTrip, inSet_sensorSet, Option.any_eq_true]
  simp only [decide_eq_true_eq]

theorem sensorsAtTrip_ne_zero : sensorsAtTrip s ≠ 0
    ↔ ∃ sn y, s.cc.seen.get sn = some y ∧ (s.cc.limits.get sn).trip ≤ y := by
  constructor
  · intro hne
    by_contra hnone
    refine hne ?_
    have hall : (fun sn => (s.cc.seen.get sn).any ((s.cc.limits.get sn).trip ≤ ·)) = fun _ => false := by
      funext sn
      rw [Bool.eq_false_iff, Ne, Option.any_eq_true]
      rintro ⟨y, hy, htrip⟩
      exact hnone ⟨sn, y, hy, of_decide_eq_true htrip⟩
    rw [sensorsAtTrip, hall]
    decide
  · rintro ⟨sn, y, hy⟩ hzero
    have hin := inSet_sensorsAtTrip.mpr ⟨y, hy⟩
    rw [hzero, inSet] at hin
    simp at hin

/-- The sensors at their trip limits that an evaluation after S7 finds (R130). -/
theorem inSet_heard : inSet (sensorsAtTrip (heard raw s)) sn = true
    ↔ ∃ y, (endSlow .s7 raw s).validTemp sn = some y ∧ (s.cc.limits.get sn).trip ≤ y := by
  obtain ⟨c, a, heq⟩ := heard_eq raw s
  have hlimits : (heard raw s).cc.limits = s.cc.limits := by rw [heq]
  rw [inSet_sensorsAtTrip, heard_seen, hlimits]

theorem heard_trips : sensorsAtTrip (heard raw s) ≠ 0
    ↔ ∃ sn y, (endSlow .s7 raw s).validTemp sn = some y ∧ (s.cc.limits.get sn).trip ≤ y := by
  obtain ⟨c, a, heq⟩ := heard_eq raw s
  have hlimits : (heard raw s).cc.limits = s.cc.limits := by rw [heq]
  rw [sensorsAtTrip_ne_zero, hlimits]
  simp only [heard_seen]

/-! ## The faulted fans through an evaluation -/

theorem faultedFans_congr {c d : Cooling} (h : ∀ fan, (d.fans.get fan).faulted = (c.fans.get fan).faulted) :
    faultedFans d = faultedFans c := by
  have h0 : d.fans.f0.faulted = c.fans.f0.faulted := h .f0
  have h1 : d.fans.f1.faulted = c.fans.f1.faulted := h .f1
  have h2 : d.fans.f2.faulted = c.fans.f2.faulted := h .f2
  simp only [faultedFans, PerFan.toList, List.filter_cons, List.filter_nil, h0, h1, h2]
  split <;> split <;> split <;> rfl

/-- The record of a fan after an evaluation in RUN (R120 to R122). -/
def ranFan (s : State) (fan : Fan) : FanRecord :=
  runPipeline s.now (s.cc.curves.get fan) fan (isCeiling s.ge.orient) (capInForce s fan)
    (governedBy (maskInForce s fan) s.cc.seen) (entersOverride s fan)
    { s.cc.fans.get fan with
      override := overrideAfter s.cc.limits (governedBy (maskInForce s fan) s.cc.seen) (s.cc.fans.get fan) }

theorem runCut_fans (hmode : s.mc.mode = .run) (fan : Fan) :
    (runCut s).cc.fans.get fan = capped (capInForce s fan) (ranFan s fan) := by
  have hmode' : (occurIf (fans.any (entersOverride s)) .override (runFans s)).mc.mode = .run := by
    rw [occurIf_au]
    exact hmode
  have hfans : (occurIf (fans.any (entersOverride s)) .override (runFans s)).cc.fans.get fan = ranFan s fan := by
    rw [occurIf_au]
    exact PerFan.get_make _ _
  have hcap : capInForce (occurIf (fans.any (entersOverride s)) .override (runFans s)) fan = capInForce s fan := by
    rw [occurIf_au]
    rfl
  rw [runCut, capCut_run hmode']
  dsimp only
  rw [PerFan.get_make, hfans, hcap]

theorem capped_faulted (cap : Nat) (f : FanRecord) : (capped cap f).faulted = f.faulted
    ∧ (capped cap f).compensating = f.compensating ∧ (capped cap f).override = f.override := by
  unfold capped
  split <;> exact ⟨rfl, rfl, rfl⟩

theorem runPipeline_faulted {now : Time} {c : Curve} {fan : Fan} {ceiling : Bool} {cap : Nat} {temps : List (Sensor × Int)}
    {entered : Bool} {f : FanRecord} : (runPipeline now c fan ceiling cap temps entered f).faulted = f.faulted
      ∧ (runPipeline now c fan ceiling cap temps entered f).compensating = f.compensating
      ∧ (runPipeline now c fan ceiling cap temps entered f).override = f.override := by
  unfold runPipeline
  split
  · exact ⟨rfl, rfl, rfl⟩
  · dsimp only
    generalize (if f.compensating = true then 100 else _) = target
    split <;> exact ⟨rfl, rfl, rfl⟩

theorem modeWork_faulted (fan : Fan) :
    ((modeWork s).cc.fans.get fan).faulted = (s.cc.fans.get fan).faulted := by
  unfold modeWork
  split
  · next h =>
    rw [runEvaluation_eq, setLight_cc]
    dsimp only
    rw [runCut_fans h, (capped_faulted _ _).1, ranFan, runPipeline_faulted.1]
  · cases fan <;> rfl
  all_goals rfl

/-! ## The trip -/

/-- The cooldown's criterion is met at an evaluation (R167). -/
def criterion (s : State) : Bool := s0Cool s.cc.seen && s1Cool s.cc.seen

theorem evaluateMode_stays (h : ¬(s.mc.mode = .cooldown ∧ criterion s = true)) : evaluateMode s = s :=
  if_neg fun hc => h (by simpa [criterion, and_assoc] using hc)

theorem evaluateMode_cools (h : s.mc.mode = .cooldown ∧ criterion s = true) :
    evaluateMode s = judgeCooldown true (s.mapMc fun m => { m with thermalDone := true }) :=
  if_pos (by simpa [criterion, and_assoc] using h)

theorem criterion_congr (h : SettingsKept s.cc t.cc) : criterion t = criterion s := by
  unfold criterion
  rw [h]

theorem Onward.judgeTrim (h : Onward s v) : Onward s (judgeTrim v) := by
  unfold Machine.judgeTrim
  split
  · exact h
  · dsimp only
    split
    · refine Onward.dispatch ((h.step (u := v.mapFc _) (lensOnly_mapFc _).toOuter rfl rfl rfl id).step
        (lensOnly_mapMq _).toOuter rfl rfl rfl fun honly e he => ?_)
      rcases List.mem_append.mp he with he | he
      · exact honly e he
      · rw [List.mem_singleton.mp he]
        exact ⟨_, rfl⟩
    · exact h

/-- Before Cooling takes the signal, the lens at most moves on (R97, R106). -/
theorem Onward.receive (hr : r ≠ .cooling) (hstays : ¬(s.mc.mode = .cooldown ∧ criterion v = true)) (h : Onward s v) :
    Onward s (receive r v) := by
  cases r with
  | cooling => exact absurd rfl hr
  | focus => exact (h.step (lensOnly_mapFc _).toOuter rfl rfl rfl id).judgeTrim
  | queue =>
    have hbudget (b : Nat) : Onward s (v.mapMq fun q => { q with budget := b }) :=
      h.step (lensOnly_mapMq _).toOuter rfl rfl rfl id
    rw [receive_queue, evaluateQueue]
    split
    · exact (hbudget _).dispatch
    · exact hbudget _
  | mode =>
    rw [receive_mode, evaluateMode_stays (by rw [h.mc]; exact hstays)]
    exact h

theorem judgeTrips_of_ne (hx : x ≠ 0) (s : State) :
    judgeTrips x s = tripCondition .sensor x (s.mapCc fun c => { c with sensorTrip := true }) := by
  rw [judgeTrips, if_pos hx, decide_eq_true hx]

theorem tripCondition_enters {cause : TripCause} (h : s.mc.mode = .run ∨ s.mc.mode = .starting ∨ s.mc.mode = .cooldown) :
    tripCondition cause x s = enterTrip cause x s := by
  unfold tripCondition
  obtain h | h | h := h <;> rw [h]

theorem tripCondition_stays {cause : TripCause} (h : s.mc.mode = .standby ∨ s.mc.mode = .trip) :
    tripCondition cause x s = s := by
  unfold tripCondition
  obtain h | h := h <;> rw [h]

/-- Cooling trips the part, from where the lens has at most moved on (R130, R168). -/
theorem Onward.tripped (h : Onward s v) (hx : sensorsAtTrip v ≠ 0)
    (hmode : s.mc.mode = .run ∨ s.mc.mode = .starting ∨ s.mc.mode = .cooldown) :
    Tripped ⟨.sensor, sensorsAtTrip v, faultedFans v.cc, s.mc.mode⟩ s (evaluateCooling v) := by
  obtain ⟨c, a, hwork⟩ := cooled_modeWork (s := v)
  have hfaulted : faultedFans (modeWork v).cc = faultedFans v.cc := faultedFans_congr modeWork_faulted
  have hat := sensorsAtTrip_congr (settingsKept_modeWork (s := v))
  rw [evaluateCooling_judges, hat, ← hfaulted]
  rw [hwork] at hfaulted ⊢
  rw [judgeTrips_of_ne hx, tripCondition_enters (by rw [← h.mc] at hmode; exact hmode)]
  exact tripped_enterTrip (h.step (u := { v with cc := { c with sensorTrip := true }, au := a })
    ⟨rfl, rfl, rfl, rfl, rfl, rfl⟩ rfl rfl rfl id)

theorem judgeTrim_stays (h : s.mc.mode ≠ .run) : judgeTrim s = s := by
  unfold judgeTrim
  split
  · rfl
  · refine if_neg fun hc => h ?_
    simp only [Bool.and_eq_true, decide_eq_true_eq] at hc
    exact hc.1.1

/-- After a trip the other receivers find nothing to do but to take note (R46). -/
theorem Tripped.receive (hr : r ≠ .cooling) (h : Tripped record s v) : Tripped record s (receive r v) := by
  obtain ⟨hmc, -, hrest, -⟩ := id h
  have hmode : v.mc.mode = .trip := by rw [hmc]
  cases r with
  | cooling => exact absurd rfl hr
  | focus =>
    rw [receive_focus, evaluateFocus]
    rw [judgeTrim_stays (by rw [State.mapFc, hmode]; decide)]
    exact h.congr (lensOnly_mapFc _).toOuter rfl rfl rfl rfl rfl rfl
  | queue =>
    have hempty := (lensAtRest_iff.mp hrest).2
    have hbudget (b : Nat) : Tripped record s (v.mapMq fun q => { q with budget := b }) :=
      h.congr (lensOnly_mapMq _).toOuter rfl rfl rfl rfl rfl rfl
    rw [receive_queue, evaluateQueue]
    split
    · rw [dispatch_nil (by exact hempty)]
      exact hbudget _
    · exact hbudget _
  | mode =>
    rw [receive_mode, evaluateMode_stays (by rw [hmode]; exact fun hc => nomatch hc.1)]
    exact h

/-! ## The end of a cooldown at the same evaluation -/

/-- The mode record, the lens, the flags: the part has tripped or its cooldown has ended. -/
def TrippedOrCooled (s : State) : Prop := s.lensAtRest = true
  ∧ (s.mc.mode = .trip ∧ s.mc.thermTrip = true ∧ s.flagged .trip ∨ s.mc.mode = .standby ∧ s.mc.thermTrip = false)
  ∧ s.flagged .modeChange

theorem TrippedOrCooled.congr (h : TrippedOrCooled v) (hmc : u.mc = v.mc) (hlens : u.lens = v.lens)
    (hmq : u.mq.entries = v.mq.entries) (hflags : ∀ f, v.flagged f → u.flagged f) : TrippedOrCooled u := by
  obtain ⟨hrest, hmode, hchange⟩ := h
  have hrest' : u.lensAtRest = v.lensAtRest := by
    unfold State.lensAtRest State.anyMoving State.moving
    rw [hlens, hmq]
  refine ⟨hrest'.trans hrest, ?_, hflags _ hchange⟩
  rw [hmc]
  exact hmode.imp_left fun ⟨h, ht, hf⟩ => ⟨h, ht, hflags _ hf⟩

theorem TrippedOrCooled.not_running (h : TrippedOrCooled v) : v.mc.mode = .standby ∨ v.mc.mode = .trip :=
  h.2.1.elim (fun h => .inr h.1) fun h => .inl h.1

theorem modeWork_stays (h : s.mc.mode = .standby ∨ s.mc.mode = .trip) : modeWork s = s := by
  unfold modeWork
  obtain h | h := h <;> rw [h]

/-- In STANDBY and TRIP an evaluation of Cooling only sets the sensor trip mark (R123, R130). -/
theorem evaluateCooling_still (h : s.mc.mode = .standby ∨ s.mc.mode = .trip) :
    ∃ b, evaluateCooling s = s.mapCc fun c => { c with sensorTrip := b } := by
  rw [evaluateCooling_judges, modeWork_stays h]
  generalize sensorsAtTrip s = x
  refine ⟨decide (x ≠ 0), ?_⟩
  unfold judgeTrips
  dsimp only
  split
  · exact tripCondition_stays h
  · rfl

theorem evaluateQueue_empty (h : s.mq.entries = []) :
    evaluateQueue s = s.mapMq fun q => { q with budget := budgetFor (s.cc.limits.get .s7) (s.cc.seen.get .s7) } := by
  unfold evaluateQueue
  dsimp only
  split
  · exact dispatch_nil h
  · rfl

theorem TrippedOrCooled.receive (r : Receiver) (h : TrippedOrCooled v) : TrippedOrCooled (receive r v) := by
  have hstill := h.not_running
  have hmode : v.mc.mode ≠ .run ∧ v.mc.mode ≠ .cooldown := by obtain h | h := hstill <;> rw [h] <;> decide
  cases r with
  | cooling =>
    obtain ⟨b, hcool⟩ := evaluateCooling_still hstill
    rw [receive_cooling, hcool]
    exact h.congr rfl rfl rfl fun _ h => h
  | focus =>
    rw [receive_focus, evaluateFocus]
    rw [judgeTrim_stays (by exact hmode.1)]
    exact h.congr rfl rfl rfl fun _ h => h
  | queue =>
    rw [receive_queue, evaluateQueue_empty (lensAtRest_iff.mp h.1).2]
    exact h.congr rfl rfl rfl fun _ h => h
  | mode =>
    rw [receive_mode, evaluateMode_stays fun hc => hmode.2 hc.1]
    exact h

/-- Before Cooling takes the signal in COOLDOWN: the cooldown goes on, or has ended. -/
def CoolingDown (c : Cooling) (s : State) : Prop :=
  SettingsKept c s.cc ∧ (s.mc.mode = .cooldown ∨ TrippedOrCooled s)

theorem trippedOrCooled_enterStandby (h : s.lensAtRest = true) : TrippedOrCooled (enterStandby true s) := by
  have hentries := (lensAtRest_iff.mp h).2
  have hflag : (enterStandby true s).flagged .modeChange := by
    rw [enterStandby_nil true hentries]
    exact flagged_occur_self .modeChange s
  refine ⟨?_, .inr ?_, hflag⟩
  · rw [enterStandby_nil true hentries]
    exact lensAtRest_iff.mpr ⟨(lensAtRest_iff.mp h).1, by rw [dropEntries, hentries]; rfl⟩
  · rw [enterStandby_nil true hentries]
    exact ⟨rfl, rfl⟩

theorem CoolingDown.receive {c : Cooling} (hr : r ≠ .cooling) (h : CoolingDown c v) : CoolingDown c (receive r v) := by
  obtain ⟨hkept, hmode⟩ := h
  refine ⟨hkept.trans (settingsKept_receive r), ?_⟩
  obtain hmode | hdone := hmode
  · cases r with
    | cooling => exact absurd rfl hr
    | focus => exact .inl ((congrArg ModeController.mode lensOnly_evaluateFocus.mc).trans hmode)
    | queue => exact .inl ((congrArg ModeController.mode lensOnly_evaluateQueue.mc).trans hmode)
    | mode =>
      rw [receive_mode]
      by_cases hcools : v.mc.mode = .cooldown ∧ criterion v = true
      · rw [evaluateMode_cools hcools]
        unfold judgeCooldown
        split
        · next hrest => exact .inr (trippedOrCooled_enterStandby (Bool.and_eq_true_iff.mp hrest).2)
        · exact .inl hmode
      · rw [evaluateMode_stays hcools]
        exact .inl hmode
  · exact .inr (hdone.receive r)

theorem Tripped.orCooled (h : Tripped record s t) : TrippedOrCooled t := by
  obtain ⟨hmc, -, hrest, -, -, htrip, hchange, -⟩ := h
  refine ⟨hrest, .inl ⟨?_, ?_, htrip⟩, hchange⟩ <;> rw [hmc]

theorem criterion_heard : criterion (heard raw s) = true ↔ ∃ y z, (endSlow .s7 raw s).validTemp .s0 = some y ∧ y < 450
    ∧ (endSlow .s7 raw s).validTemp .s1 = some z ∧ z < 500 := by
  rw [criterion, s0Cool, s1Cool, heard_seen, heard_seen, Bool.and_eq_true, Option.any_eq_true, Option.any_eq_true]
  simp only [decide_eq_true_eq]
  constructor
  · rintro ⟨⟨y, hy⟩, z, hz⟩
    exact ⟨y, z, hy.1, hy.2, hz⟩
  · rintro ⟨y, z, hy, hy', hz⟩
    exact ⟨⟨y, hy, hy'⟩, z, hz⟩

theorem onward_heard : Onward s (heard raw s) := by
  obtain ⟨c, a, heq⟩ := heard_eq raw s
  rw [heq]
  exact (Onward.refl s).step ⟨rfl, rfl, rfl, rfl, rfl, rfl⟩ rfl rfl rfl id

/-- The trip of an evaluation, in whatever order its receivers take it (R130, R168). -/
theorem tripped_received (htrips : sensorsAtTrip (heard raw s) ≠ 0)
    (hmode : s.mc.mode = .run ∨ s.mc.mode = .starting ∨ s.mc.mode = .cooldown)
    (hstays : ¬(s.mc.mode = .cooldown ∧ criterion (heard raw s) = true)) :
    Tripped ⟨.sensor, sensorsAtTrip (heard raw s), faultedFans s.cc, s.mc.mode⟩ s (received raw s) := by
  have hfans : (heard raw s).cc.fans = s.cc.fans := by
    obtain ⟨c, a, heq⟩ := heard_eq raw s
    rw [heq]
  refine received_by (P := fun v => Onward s v ∧ SettingsKept (heard raw s).cc v.cc ∧ v.cc.fans = s.cc.fans)
    (Q := fun v => Tripped ⟨.sensor, sensorsAtTrip (heard raw s), faultedFans s.cc, s.mc.mode⟩ s v) .cooling
    (fun r v hr ⟨hon, hkept, hsame⟩ => ?_) (fun v ⟨hon, hkept, hsame⟩ => ?_) (fun r v hr hv => hv.receive hr)
    ⟨onward_heard, .refl _, hfans⟩
  · have hstay : ¬(s.mc.mode = .cooldown ∧ criterion v = true) := by rw [criterion_congr hkept]; exact hstays
    refine ⟨hon.receive hr hstay, hkept.trans (settingsKept_receive r), ?_⟩
    cases r with
    | cooling => exact absurd rfl hr
    | focus => rw [receive_focus, lensOnly_evaluateFocus.cc, hsame]
    | queue => rw [receive_queue, lensOnly_evaluateQueue.cc, hsame]
    | mode => rw [receive_mode, evaluateMode_stays (by rw [hon.mc]; exact hstay), hsame]
  · have hat := sensorsAtTrip_congr hkept
    have hfaulted : faultedFans v.cc = faultedFans s.cc := faultedFans_congr fun fan => by rw [hsame]
    have h := hon.tripped (by rw [hat]; exact htrips) hmode
    rw [hat, hfaulted] at h
    exact h

/-- Settles O59: Cooling trips the part whenever its turn comes, and the others find it tripped. -/
theorem tripFromTemperature : Obligations.TripFromTemperature := by
  intro s start raw hheld hconverting hover
  refine ⟨_, exec_slowConversionEnd hheld hconverting hover, fun sn x hx htrip => ?_⟩
  have htrips : sensorsAtTrip (heard raw s) ≠ 0 := heard_trips.mpr ⟨sn, x, hx, htrip⟩
  have hgrant : endSlow .s7 raw s = (received raw s).mapScan (grant (received raw s).now false) := endSlow_s7 raw s
  refine ⟨?mark, fun hmode => ?trip, fun hmode hcools => ?either⟩
  case mark =>
    rw [hgrant]
    exact sensorTrip_received.trans (decide_eq_true htrips)
  case trip =>
    have hcases : s.mc.mode = .run ∨ s.mc.mode = .starting ∨ s.mc.mode = .cooldown := hmode.imp_right (Or.imp_right And.left)
    have hstays : ¬(s.mc.mode = .cooldown ∧ criterion (heard raw s) = true) := by
      rintro ⟨hcooldown, hcools⟩
      obtain h | h | h := hmode
      · rw [hcooldown] at h; cases h
      · rw [hcooldown] at h; cases h
      · exact h.2 (criterion_heard.mp hcools)
    have h := tripped_received htrips hcases hstays
    have hin (sn : Sensor) := inSet_heard (raw := raw) (s := s) (sn := sn)
    generalize sensorsAtTrip (heard raw s) = x at h hin
    refine ⟨⟨.sensor, x, faultedFans s.cc, s.mc.mode⟩, rfl, rfl, rfl, hin, ?_⟩
    rw [hgrant]
    exact h.congr (lensOnly_mapScan _).toOuter rfl rfl rfl rfl rfl rfl
  case either =>
    have hfinal : TrippedOrCooled (received raw s) := by
      refine received_by (P := CoolingDown (heard raw s).cc) (Q := TrippedOrCooled) .cooling
        (fun r v hr hv => hv.receive hr) (fun v ⟨hkept, hv⟩ => ?_) (fun r v _ hv => hv.receive r)
        ⟨.refl _, .inl ?_⟩
      · obtain hcooldown | hdone := hv
        · refine ((Onward.refl v).tripped ?_ (.inr (.inr hcooldown))).orCooled
          rw [sensorsAtTrip_congr hkept]
          exact htrips
        · exact hdone.receive .cooling
      · rw [onward_heard.mc]
        exact hmode
    rw [hgrant]
    exact hfinal.congr rfl rfl rfl fun _ h => h

end Sys2Proof.Machine
end

section
-- One declaration at a time: many proofs that wait at once hold a thread each.
set_option Elab.async false
/-! The fans and the light limit at an evaluation (R118, R120 to R123, R129). -/

namespace Sys2Proof.Machine

variable {s t u v : State} {fan : Fan} {f : FanRecord} {now : Time} {limits : PerSensor Limits} {c : Curve}
  {temps : List (Sensor × Int)} {cap : Nat} {ceiling entered : Bool} {sn : Sensor} {x : Int}

/-! ## The pipeline of a fan (R120, R121) -/

theorem overrideAfter_iff : overrideAfter limits temps f = true
    ↔ ∃ sn x, (sn, x) ∈ temps ∧ (limits.get sn).override - (if f.override = true then 50 else 0) ≤ x := by
  unfold overrideAfter
  split
  · rw [List.any_eq_true]
    constructor
    · rintro ⟨⟨sn, x⟩, hin, hle⟩
      exact ⟨sn, x, hin, of_decide_eq_true hle⟩
    · rintro ⟨sn, x, hin, hle⟩
      exact ⟨(sn, x), hin, decide_eq_true hle⟩
  · rw [List.any_eq_true]
    constructor
    · rintro ⟨⟨sn, x⟩, hin, hle⟩
      have hle : (limits.get sn).override ≤ x := of_decide_eq_true hle
      exact ⟨sn, x, hin, by omega⟩
    · rintro ⟨sn, x, hin, hle⟩
      simp only [sub_zero] at hle
      exact ⟨(sn, x), hin, decide_eq_true hle⟩

theorem runPipeline_nil : runPipeline now c fan ceiling cap [] entered f
    = { f with failsafe := true, governing := none, target := 80 } := rfl

/-- A fan's record after the pipeline with a governing temperature (R121). -/
theorem runPipeline_governed {g : Governing} (hg : governingOf now temps = some g) :
    let demand := storedDemand cap f (runDemand c fan ceiling g.temp)
    let target := if f.compensating then 100 else demand
    let r := runPipeline now c fan ceiling cap temps entered f
    r.failsafe = false ∧ r.governing = some g ∧ r.demand = demand ∧ r.target = target
      ∧ r.duty = if entered = true then max f.duty target else f.duty := by
  unfold runPipeline
  rw [hg]
  dsimp only
  generalize (if f.compensating = true then 100 else _) = target
  cases entered with
  | false => exact ⟨rfl, rfl, rfl, rfl, rfl⟩
  | true =>
    split
    · next h =>
      have hlt : f.duty < target := by simpa using h
      exact ⟨rfl, rfl, rfl, rfl, (max_eq_right hlt.le).symm⟩
    · next h =>
      have hle : target ≤ f.duty := by simpa using h
      exact ⟨rfl, rfl, rfl, rfl, (max_eq_left hle).symm⟩

theorem runDemand_eq (g : Int) : runDemand c fan ceiling g
    = max (curveValue c g) (if ceiling = true ∧ fan = .f1 then 35 else 20) := by
  unfold runDemand
  dsimp only
  by_cases h : ceiling = true ∧ fan = .f1
  · rw [if_pos h, if_pos (by simpa using h), max_assoc, max_eq_right (by decide : (20 : Nat) ≤ 35)]
  · rw [if_neg h, if_neg (by simpa using h)]

/-- The demand that is stored lies below the cap unless the fan is in override (R121 step 3). -/
theorem storedDemand_le (hcap : 30 ≤ cap) (hover : f.override = false) (d : Nat) : storedDemand cap f d ≤ cap := by
  unfold storedDemand
  rw [hover]
  dsimp only
  have hmin : min d cap ≤ cap := min_le_right _ _
  split
  · exact max_le hmin hcap
  · exact hmin

theorem capped_eq (cap : Nat) (f : FanRecord) : (capped cap f).governing = f.governing
    ∧ (capped cap f).failsafe = f.failsafe ∧ (capped cap f).demand = f.demand
    ∧ (capped cap f).duty = (if f.override = true ∨ f.compensating = true ∨ f.failsafe = true then f.duty
        else min f.duty cap)
    ∧ (capped cap f).target = (if f.override = true ∨ f.compensating = true ∨ f.failsafe = true then f.target
        else min f.target cap) := by
  have hiff : ((f.override || f.compensating || f.failsafe) = true)
      ↔ f.override = true ∨ f.compensating = true ∨ f.failsafe = true := by simp [or_assoc]
  unfold capped
  by_cases h : f.override = true ∨ f.compensating = true ∨ f.failsafe = true
  · rw [if_pos (hiff.mpr h), if_pos h, if_pos h]
    exact ⟨rfl, rfl, rfl, rfl, rfl⟩
  · rw [if_neg (hiff.not.mpr h), if_neg h, if_neg h]
    exact ⟨rfl, rfl, rfl, rfl, rfl⟩

/-- The target and the duty of a governed fan after the cap cut (R121, R122), from the record that the pipeline leaves. -/
theorem capped_governed {r : FanRecord} {demand : Nat} (hover : f.override = false → demand ≤ cap)
    (ho : r.override = f.override) (hc : r.compensating = f.compensating) (hf : r.failsafe = false)
    (ht : r.target = if f.compensating = true then 100 else demand)
    (hd : r.duty = if entered = true then max f.duty (if f.compensating = true then 100 else demand) else f.duty)
    (henters : entered = true → f.override = true) :
    (capped cap r).target = (if f.compensating = true then 100 else demand)
      ∧ (capped cap r).duty = if entered = true then max f.duty (if f.compensating = true then 100 else demand)
          else if f.override = true ∨ f.compensating = true then f.duty else min f.duty cap := by
  obtain ⟨-, -, -, hduty, htarget⟩ := capped_eq cap r
  rw [hduty, htarget, ho, hc, hf, ht, hd]
  by_cases hexempt : f.override = true ∨ f.compensating = true
  · have hcond : f.override = true ∨ f.compensating = true ∨ false = true := by simpa using hexempt
    rw [if_pos hcond, if_pos hcond, if_pos hexempt]
    exact ⟨rfl, rfl⟩
  · have hcond : ¬(f.override = true ∨ f.compensating = true ∨ false = true) := by simpa using hexempt
    have hnot : ¬entered = true := fun h => hexempt (.inl (henters h))
    have hcomp : ¬f.compensating = true := fun h => hexempt (.inr h)
    have hoff : f.override = false := Bool.eq_false_iff.mpr fun h => hexempt (.inl h)
    rw [if_neg hcond, if_neg hcond, if_neg hexempt, if_neg hnot, if_neg hnot, if_neg hcomp, min_eq_left (hover hoff)]
    exact ⟨rfl, rfl⟩

/-- The record of a fan that an evaluation in RUN leaves (R120 to R122). -/
theorem fanEvaluated_of_get {hot : Bool} (hover : hot = overrideAfter s.cc.limits temps (s.cc.fans.get fan))
    (hentered : entered = (hot && !(s.cc.fans.get fan).override))
    (hget : t.cc.fans.get fan = capped (capInForce s fan) (runPipeline now (s.cc.curves.get fan) fan
      (isCeiling s.ge.orient) (capInForce s fan) temps entered { s.cc.fans.get fan with override := hot }))
    (hreads : ∀ sn x, (sn, x) ∈ temps ↔ inSet (maskInForce s fan) sn = true ∧ t.validTemp sn = some x)
    (hflag : entered = true → t.flagged .override) : FanEvaluated fan s t := by
  have hcap : 30 ≤ capInForce s fan := by have := (capOf_ge s.setup.quiet fan).1; unfold capInForce; omega
  unfold FanEvaluated
  rw [hget]
  generalize capInForce s fan = cap at *
  generalize s.cc.fans.get fan = f at *
  generalize s.cc.curves.get fan = c at *
  generalize isCeiling s.ge.orient = ceiling at *
  have hof (r : FanRecord) := And.intro (capped_eq cap r) (capped_faulted cap r)
  obtain ⟨⟨hgoverning, hfailsafe, hdemand, hduty, htarget⟩, hfaulted, hcompensating, hoverride⟩ :=
    hof (runPipeline now c fan ceiling cap temps entered { f with override := hot })
  obtain ⟨hranFaulted, hranComp, hranOver⟩ := runPipeline_faulted (now := now) (c := c) (fan := fan) (ceiling := ceiling)
    (cap := cap) (temps := temps) (entered := entered) (f := { f with override := hot })
  dsimp only
  rw [hoverride, hranOver, hfaulted, hranFaulted, hcompensating, hranComp]
  refine ⟨?override, fun hon hoff => hflag (by rw [hentered, hoff]; exact Bool.and_eq_true_iff.mpr ⟨hon, rfl⟩), rfl, rfl,
    fun hnone => ?failsafe, fun sn x hx hmost => ?governed⟩
  case override =>
    dsimp only
    rw [hover, overrideAfter_iff]
    simp only [hreads]
  case failsafe =>
    have hnil : temps = [] :=
      List.eq_nil_iff_forall_not_mem.mpr fun p hp => hnone p.1 p.2 ((hreads p.1 p.2).mp hp)
    rw [hfailsafe, hgoverning, htarget, hduty, hnil, runPipeline_nil]
    exact ⟨rfl, rfl, if_pos (.inr (.inr rfl)), if_pos (.inr (.inr rfl))⟩
  case governed =>
    obtain ⟨g, hg, htemp⟩ := governingOf_hottest (now := now) ((hreads sn x).mpr hx)
      fun p hp => hmost p.1 p.2 ((hreads p.1 p.2).mp hp)
    obtain ⟨hin, -⟩ := governingOf_some hg
    obtain ⟨hf, hgov, hd, ht, hdu⟩ := runPipeline_governed (c := c) (fan := fan) (ceiling := ceiling) (cap := cap)
      (entered := entered) (f := { f with override := hot }) hg
    obtain ⟨hct, hcd⟩ := capped_governed (f := { f with override := hot }) (fun hoff => storedDemand_le hcap hoff _)
      hranOver hranComp hf ht hdu fun h => by
        rw [hentered] at h
        exact (Bool.and_eq_true_iff.mp h).1
    rw [hfailsafe, hf, hgoverning, hgov, hdemand, hd, hct, hcd, runDemand_eq, htemp]
    refine ⟨rfl, ⟨g.sensor, htemp ▸ (hreads _ _).mp hin, by rw [← htemp]⟩, rfl, rfl, ?_⟩
    refine if_congr ?_ rfl rfl
    rw [hentered, Bool.and_eq_true, Bool.not_eq_true']

theorem ranFan_congr (hcc : v.cc = u.cc) (hge : v.ge = u.ge) (hquiet : v.setup.quiet = u.setup.quiet)
    (hnow : v.now = u.now) : ranFan v fan = ranFan u fan ∧ entersOverride v fan = entersOverride u fan := by
  unfold ranFan entersOverride maskInForce capInForce
  rw [hcc, hge, hquiet, hnow]
  exact ⟨rfl, rfl⟩

/-! ## The light limit (R129) -/

/-- The sensors that a derate judgment goes by: the valid ones of any mask in force. -/
def derateSensors (s : State) : List Sensor :=
  sensors.filter fun sn => (s.cc.seen.get sn).isSome && fans.any fun fan => inSet (maskInForce s fan) sn

def lowersLight (s : State) : Bool := (derateSensors s).any fun sn =>
  (s.cc.limits.get sn).hold ≤ (s.cc.seen.get sn).getD 0 && fans.all fun fan => !inSet (maskInForce s fan) sn
    || ((s.cc.fans.get fan).duty = capInForce s fan && !(s.cc.fans.get fan).override)

def raisesLight (s : State) : Bool :=
  (derateSensors s).all fun sn => (s.cc.seen.get sn).getD 0 ≤ (s.cc.limits.get sn).hold - 30

/-- The light limit of a derate judgment before the bound of a fan fault. -/
def judgedLight (s : State) : Nat :=
  if lowersLight s then max (s.cc.light - 5) 40 else if raisesLight s then min (s.cc.light + 5) 100 else s.cc.light

theorem deratedLight_eq (s : State) : deratedLight s
    = if 0 < faultedFans s.cc then min (judgedLight s) 60 else judgedLight s := rfl

theorem mem_derateSensors : sn ∈ derateSensors s
    ↔ ∃ x, s.cc.seen.get sn = some x ∧ ∃ fan, inSet (maskInForce s fan) sn = true := by
  rw [derateSensors, List.mem_filter, Bool.and_eq_true, Option.isSome_iff_exists, List.any_eq_true]
  constructor
  · rintro ⟨-, ⟨x, hx⟩, fan, -, hin⟩
    exact ⟨x, hx, fan, hin⟩
  · rintro ⟨x, hx, fan, hin⟩
    exact ⟨by cases sn <;> decide, ⟨x, hx⟩, fan, by cases fan <;> decide, hin⟩

theorem lowersLight_iff : lowersLight s = true ↔ ∃ sn x, (s.cc.seen.get sn = some x
      ∧ ∃ fan, inSet (maskInForce s fan) sn = true) ∧ (s.cc.limits.get sn).hold ≤ x
    ∧ ∀ fan, inSet (maskInForce s fan) sn = true →
      (s.cc.fans.get fan).duty = capInForce s fan ∧ (s.cc.fans.get fan).override = false := by
  have hfans (sn : Sensor) : (fans.all fun fan => !inSet (maskInForce s fan) sn
        || ((s.cc.fans.get fan).duty = capInForce s fan && !(s.cc.fans.get fan).override)) = true
      ↔ ∀ fan, inSet (maskInForce s fan) sn = true →
        (s.cc.fans.get fan).duty = capInForce s fan ∧ (s.cc.fans.get fan).override = false := by
    rw [List.all_eq_true]
    constructor
    · intro h fan hin
      have hfan := h fan (by cases fan <;> decide)
      rw [hin] at hfan
      simpa using hfan
    · intro h fan _
      cases hin : inSet (maskInForce s fan) sn with
      | false => rfl
      | true => simpa using h fan hin
  rw [lowersLight, List.any_eq_true]
  constructor
  · rintro ⟨sn, hmem, hcond⟩
    obtain ⟨x, hx, hin⟩ := mem_derateSensors.mp hmem
    rw [Bool.and_eq_true, decide_eq_true_eq, hfans, hx] at hcond
    exact ⟨sn, x, ⟨hx, hin⟩, hcond.1, hcond.2⟩
  · rintro ⟨sn, x, ⟨hx, hin⟩, hhold, hall⟩
    refine ⟨sn, mem_derateSensors.mpr ⟨x, hx, hin⟩, ?_⟩
    rw [Bool.and_eq_true, decide_eq_true_eq, hfans, hx]
    exact ⟨hhold, hall⟩

theorem raisesLight_iff : raisesLight s = true ↔ ∀ sn x, (s.cc.seen.get sn = some x
      ∧ ∃ fan, inSet (maskInForce s fan) sn = true) → x ≤ (s.cc.limits.get sn).hold - 30 := by
  rw [raisesLight, List.all_eq_true]
  constructor
  · rintro h sn x ⟨hx, hin⟩
    have hle := h sn (mem_derateSensors.mpr ⟨x, hx, hin⟩)
    rw [decide_eq_true_eq, hx] at hle
    exact hle
  · intro h sn hmem
    obtain ⟨x, hx, hin⟩ := mem_derateSensors.mp hmem
    rw [decide_eq_true_eq, hx]
    exact h sn x ⟨hx, hin⟩

/-- A light limit that a derate judgment gave is evaluated (R129). -/
theorem lightEvaluated_of_derated (hlight : t.cc.light = deratedLight u) (hfans : t.cc.fans = u.cc.fans)
    (hseen : ∀ sn, u.cc.seen.get sn = t.validTemp sn) (hlimits : u.cc.limits = s.cc.limits)
    (hbefore : u.cc.light = s.cc.light) (hmask : ∀ fan, maskInForce u fan = maskInForce s fan)
    (hcap : ∀ fan, capInForce u fan = capInForce s fan) (hfaulted : faultedFans u.cc = faultedFans s.cc)
    (hflag : t.cc.light ≠ s.cc.light → t.flagged .derate) : LightEvaluated s t := by
  have hlower := lowersLight_iff (s := u)
  have hraise := raisesLight_iff (s := u)
  simp only [hseen, hlimits, hmask, hcap, ← hfans] at hlower hraise
  refine ⟨judgedLight u, fun h => ?_, fun hnot h => ?_, fun hnot hno => ?_, ?_, hflag⟩
  · rw [judgedLight, if_pos (hlower.mpr h), hbefore]
  · rw [judgedLight, if_neg fun hc => hnot (hlower.mp hc), if_pos (hraise.mpr h), hbefore]
  · rw [judgedLight, if_neg fun hc => hnot (hlower.mp hc), if_neg fun hc => hno (hraise.mp hc), hbefore]
  · rw [hlight, deratedLight_eq, hfaulted]
    by_cases h : faultedFans s.cc = 0
    · rw [if_pos h, if_neg (by omega)]
    · rw [if_neg h, if_pos (by omega)]

/-! ## The fans of COOLDOWN (R118, R123) -/

/-- The record of a fan that an evaluation in COOLDOWN leaves. -/
def cooledFan (s : State) (fan : Fan) : FanRecord :=
  let f := s.cc.fans.get fan
  let temps := governedBy (maskInForce s fan) s.cc.seen
  let demand := uncappedDemand s.now (s.cc.curves.get fan) temps
  { f with governing := governingOf s.now temps, demand := demand, failsafe := temps.isEmpty
           target := cooldownTarget f demand }

theorem cooldownPipeline_get (s : State) (fan : Fan) : (cooldownPipeline s).cc.fans.get fan = cooledFan s fan :=
  PerFan.get_make _ _

theorem cooledFan_congr (hcc : v.cc = u.cc) (hge : v.ge = u.ge) (hnow : v.now = u.now) :
    cooledFan v fan = cooledFan u fan := by
  unfold cooledFan maskInForce
  rw [hcc, hge, hnow]

theorem fanEvaluatedInCooldown_of_get (hget : t.cc.fans.get fan = cooledFan u fan)
    (hfan : u.cc.fans.get fan = s.cc.fans.get fan) (hcurve : u.cc.curves.get fan = s.cc.curves.get fan)
    (hreads : ∀ sn x, (sn, x) ∈ governedBy (maskInForce u fan) u.cc.seen
      ↔ inSet (maskInForce s fan) sn = true ∧ t.validTemp sn = some x) : FanEvaluatedInCooldown fan s t := by
  unfold FanEvaluatedInCooldown
  rw [hget, cooledFan, hfan, hcurve]
  generalize governedBy (maskInForce u fan) u.cc.seen = temps at *
  refine ⟨rfl, rfl, fun hnone => ?_, fun sn x hx hmost => ?_⟩
  · have hnil : temps = [] :=
      List.eq_nil_iff_forall_not_mem.mpr fun p hp => hnone p.1 p.2 ((hreads p.1 p.2).mp hp)
    rw [hnil]
    exact ⟨rfl, rfl, rfl⟩
  · have hmem := (hreads sn x).mpr hx
    obtain ⟨g, hg, htemp⟩ := governingOf_hottest (now := u.now) hmem fun p hp => hmost p.1 p.2 ((hreads p.1 p.2).mp hp)
    obtain ⟨hin, -⟩ := governingOf_some hg
    have hne : temps.isEmpty = false := by
      rw [List.isEmpty_eq_false_iff]
      exact List.ne_nil_of_mem hmem
    refine ⟨hne, ⟨g.sensor, htemp ▸ (hreads _ _).mp hin, ?_⟩, ?_⟩
    · rw [hg, ← htemp]
    · rw [uncappedDemand, hg, Option.elim_some, htemp]

end Sys2Proof.Machine
end

section
-- One declaration at a time: many proofs that wait at once hold a thread each.
set_option Elab.async false
/-! The Focus Compensator at an evaluation (R102, R105, R106). -/

namespace Sys2Proof.Machine

variable {s t u v w h : State} {fc : FocusCompensator} {target base : Nat} {coef : Int} {r : Receiver}

/-! ## What the other receivers leave alone where no sensor is at its trip limit -/

/-- The lens, the queue, the live setup, the Focus Compensator and the banks are the same, and RUN has neither begun nor
ended. -/
structure Unmoved (s t : State) : Prop where
  lens : t.lens = s.lens
  entries : t.mq.entries = s.mq.entries
  setup : t.setup = s.setup
  fc : t.fc = s.fc
  ge : t.ge = s.ge
  now : t.now = s.now
  sampled : Sampled s t
  run : t.mc.mode = .run ↔ s.mc.mode = .run

theorem Unmoved.refl (s : State) : Unmoved s s := ⟨rfl, rfl, rfl, rfl, rfl, rfl, .refl s, .rfl⟩

theorem Cooled.unmoved (hc : Cooled s t) : Unmoved s t := by
  have hsampled := hc.sampled
  obtain ⟨c, a, rfl⟩ := hc
  exact ⟨rfl, rfl, rfl, rfl, rfl, rfl, hsampled, .rfl⟩

theorem unmoved_budget (b : Nat) : Unmoved s (s.mapMq fun q => { q with budget := b }) :=
  ⟨rfl, rfl, rfl, rfl, rfl, rfl, sampled_mapMq _, .rfl⟩

theorem unmoved_evaluateMode : Unmoved s (evaluateMode s) := by
  have hsampled : Sampled s (evaluateMode s) := sampled_receive .mode
  by_cases hcools : s.mc.mode = .cooldown ∧ criterion s = true
  · have hmode := hcools.1
    rw [evaluateMode_cools hcools] at hsampled ⊢
    unfold judgeCooldown at hsampled ⊢
    split
    · next hend =>
      have hempty : (s.mapMc fun m => { m with thermalDone := true }).mq.entries = [] :=
        (lensAtRest_iff.mp (Bool.and_eq_true_iff.mp hend).2).2
      rw [if_pos hend] at hsampled
      rw [enterStandby_nil true hempty] at hsampled ⊢
      refine ⟨rfl, ?_, rfl, rfl, rfl, rfl, hsampled, ?_⟩
      · have hnil : s.mq.entries = [] := hempty
        show (dropEntries _ s.mq).entries = _
        rw [dropEntries, hnil]
        rfl
      · rw [hmode]
        exact ⟨nofun, nofun⟩
    · next hend =>
      rw [if_neg hend] at hsampled
      exact ⟨rfl, rfl, rfl, rfl, rfl, rfl, hsampled, .rfl⟩
  · rw [evaluateMode_stays hcools]
    exact .refl s

/-- Without a sensor at its trip limit, Cooling does the work of the mode and clears the sensor trip mark (R130). -/
theorem evaluateCooling_clear (hclear : sensorsAtTrip s = 0) :
    evaluateCooling s = (modeWork s).mapCc fun c => { c with sensorTrip := false } := by
  have hat := sensorsAtTrip_congr (settingsKept_modeWork (s := s))
  rw [evaluateCooling_judges, hat, hclear]
  rfl

/-- The receivers but the Focus Compensator move the lens by a dispatch at most. -/
theorem receive_others (hr : r ≠ .focus) (hclear : sensorsAtTrip s = 0) :
    ∃ w, Unmoved s w ∧ (receive r s = w ∨ receive r s = dispatch w) := by
  cases r with
  | focus => exact absurd rfl hr
  | cooling =>
    rw [receive_cooling, evaluateCooling_clear hclear]
    exact ⟨_, (cooled_modeWork.trans (cooled_mapCc _)).unmoved, .inl rfl⟩
  | queue =>
    rw [receive_queue, evaluateQueue]
    split
    · exact ⟨_, unmoved_budget _, .inr rfl⟩
    · exact ⟨_, unmoved_budget _, .inl rfl⟩
  | mode => exact ⟨_, unmoved_evaluateMode, .inl rfl⟩

/-! ## FOCUS without an entry -/

/-- What the Focus Compensator works from is as the signal found it: no entry of FOCUS waits. -/
structure FocusStill (h : State) (fc : FocusCompensator) (v : State) : Prop where
  fc : v.fc = fc
  carried : Carried h v
  tref : v.setup.tref = h.setup.tref
  base : v.setup.base.get .focus = h.setup.base.get .focus
  entry : v.entryOf .focus = none
  focus : v.lens.get .focus = h.lens.get .focus
  zoom : (v.lens.get .zoom).cal = (h.lens.get .zoom).cal
  sampled : Sampled h v
  kept : SettingsKept h.cc v.cc
  run : v.mc.mode = .run ↔ h.mc.mode = .run

theorem FocusStill.unmoved (hv : FocusStill h fc v) (hu : Unmoved v u) (hkept : SettingsKept v.cc u.cc) :
    FocusStill h fc u where
  fc := hu.fc.trans hv.fc
  carried := hv.carried.trans (carried_of_setup hu.setup hu.ge)
  tref := by rw [hu.setup, hv.tref]
  base := by rw [hu.setup, hv.base]
  entry := by
    unfold State.entryOf
    rw [hu.entries]
    exact hv.entry
  focus := by rw [hu.lens, hv.focus]
  zoom := by rw [hu.lens, hv.zoom]
  sampled := hv.sampled.trans hu.sampled
  kept := hv.kept.trans hkept
  run := hu.run.trans hv.run

theorem FocusStill.dispatch (hv : FocusStill h fc v) : FocusStill h fc (dispatch v) := by
  have hmem := entryOf_eq_none_iff.mp hv.entry
  obtain ⟨hfc, htref⟩ := dispatch_focus (s := v) fun e he hax => absurd hax (hmem e he)
  exact {
    fc := hfc.trans hv.fc
    carried := hv.carried.trans carried_dispatch
    tref := htref.trans hv.tref
    base := (dispatch_base_of_noEntry hv.entry).trans hv.base
    entry := entryOf_dispatch hv.entry
    focus := (dispatch_get_of_noEntry hv.entry).trans hv.focus
    zoom := dispatch_cal.trans hv.zoom
    sampled := hv.sampled.trans sampled_dispatch
    kept := hv.kept.trans (settingsKept_of_eq lensOnly_dispatch.cc)
    run := by rw [lensOnly_dispatch.mc]; exact hv.run }

theorem FocusStill.receive (hr : r ≠ .focus) (hclear : sensorsAtTrip h = 0) (hv : FocusStill h fc v) :
    FocusStill h fc (receive r v) := by
  have hkept := settingsKept_receive (s := v) r
  obtain ⟨w, hw, heq | heq⟩ := receive_others hr ((sensorsAtTrip_congr hv.kept).trans hclear)
  · rw [heq] at hkept ⊢
    exact hv.unmoved hw hkept
  · rw [heq, lensOnly_dispatch.cc] at hkept
    rw [heq]
    exact (hv.unmoved hw hkept).dispatch

/-! ## FOCUS with its trim (R106) -/

/-- The trim of FOCUS waits or runs, and what the Focus Compensator has set stays. -/
structure FocusTrimmed (h : State) (fc : FocusCompensator) (target : Nat) (v : State) : Prop where
  fc : v.fc = fc
  tref : v.setup.tref = h.setup.tref
  waits : Waits ⟨.focus, .trim target⟩ v
  jobs : ∀ e ∈ v.mq.entries, e.axis = .focus → ∀ up d, e.job ≠ .jog up d
  kept : SettingsKept h.cc v.cc

theorem FocusTrimmed.unmoved (hv : FocusTrimmed h fc target v) (hu : Unmoved v u) (hkept : SettingsKept v.cc u.cc) :
    FocusTrimmed h fc target u where
  fc := hu.fc.trans hv.fc
  tref := by rw [hu.setup, hv.tref]
  waits := by
    unfold Waits
    rw [hu.entries, hu.lens]
    exact hv.waits
  jobs := by
    rw [hu.entries]
    exact hv.jobs
  kept := hv.kept.trans hkept

theorem FocusTrimmed.dispatch (hv : FocusTrimmed h fc target v) : FocusTrimmed h fc target (dispatch v) := by
  obtain ⟨hfc, htref⟩ := dispatch_focus hv.jobs
  exact {
    fc := hfc.trans hv.fc
    tref := htref.trans hv.tref
    waits := waits_dispatch (fun _ _ hjob => Job.noConfusion hjob) hv.waits
    jobs := fun e he => hv.jobs e (mem_of_mem_dispatch he)
    kept := hv.kept.trans (settingsKept_of_eq lensOnly_dispatch.cc) }

theorem FocusTrimmed.receive (hr : r ≠ .focus) (hclear : sensorsAtTrip h = 0) (hv : FocusTrimmed h fc target v) :
    FocusTrimmed h fc target (receive r v) := by
  have hkept := settingsKept_receive (s := v) r
  obtain ⟨w, hw, heq | heq⟩ := receive_others hr ((sensorsAtTrip_congr hv.kept).trans hclear)
  · rw [heq] at hkept ⊢
    exact hv.unmoved hw hkept
  · rw [heq, lensOnly_dispatch.cc] at hkept
    rw [heq]
    exact (hv.unmoved hw hkept).dispatch

/-! ## What the Focus Compensator does at its turn -/

/-- The fields that an evaluation sets, from the state in which it was signalled (R102, R105). -/
def focusSet (h : State) : FocusCompensator :=
  let z := zoomPosition h
  let coef := driftCoefficient h.fc.table z
  { h.fc with coef := coef, zoomUsed := z, comp := compensation coef h }

/-- FOCUS is to be trimmed to a base target's effective target (R106). -/
def TrimsTo (h : State) (base : Nat) : Prop := h.mc.mode = .run ∧ focusFree h = true
  ∧ trimThreshold h.setup.quiet
      ≤ ((effectiveTarget base (focusSet h).comp : Int) - (base + h.fc.applied)).natAbs

theorem FocusStill.evaluateFocus_eq (hv : FocusStill h h.fc v) :
    evaluateFocus v = judgeTrim { v with fc := focusSet h } := by
  have hzoom : zoomPosition v = zoomPosition h := by
    unfold zoomPosition
    rw [position_eq hv.sampled hv.zoom]
  have hfocusOn : v.setup.focusOn = h.setup.focusOn := by rw [hv.carried.setup]
  have hcomp (coef : Int) : compensation coef v = compensation coef h := by
    unfold compensation
    rw [hfocusOn, hv.tref, hv.fc, hv.kept]
  rw [evaluateFocus, hzoom, hcomp]
  unfold State.mapFc
  rw [hv.fc]
  rfl

theorem FocusStill.free (hv : FocusStill h fc v) (hentry : h.entryOf .focus = none) : focusFree v = focusFree h := by
  unfold focusFree
  rw [hv.focus, hv.entry, hentry]

theorem judgeTrim_appends (hbase : s.setup.base.get .focus = some base) (hmode : s.mc.mode = .run)
    (hfree : focusFree s = true) (hfar : trimThreshold s.setup.quiet
      ≤ ((effectiveTarget base s.fc.comp : Int) - (base + s.fc.applied)).natAbs) :
    judgeTrim s = appendEntry ⟨.focus, .trim (effectiveTarget base s.fc.comp)⟩
      (s.mapFc fun f => { f with trim := some ⟨effectiveTarget base s.fc.comp, base⟩ }) := by
  unfold judgeTrim
  rw [hbase]
  dsimp only
  rw [if_pos]
  simp only [Bool.and_eq_true, decide_eq_true_eq]
  exact ⟨⟨hmode, hfree⟩, hfar⟩

theorem judgeTrim_not (h : ∀ base, s.setup.base.get .focus = some base → ¬(s.mc.mode = .run ∧ focusFree s = true
      ∧ trimThreshold s.setup.quiet ≤ ((effectiveTarget base s.fc.comp : Int) - (base + s.fc.applied)).natAbs)) :
    judgeTrim s = s := by
  unfold judgeTrim
  split
  · rfl
  · next base hbase =>
    refine if_neg fun hc => h base hbase ?_
    simp only [Bool.and_eq_true, decide_eq_true_eq] at hc
    exact ⟨hc.1.1, hc.1.2, hc.2⟩

theorem FocusStill.trims (hv : FocusStill h h.fc v) (hentry : h.entryOf .focus = none)
    (hbase : h.setup.base.get .focus = some base) (htrims : TrimsTo h base) :
    FocusTrimmed h { focusSet h with trim := some ⟨effectiveTarget base (focusSet h).comp, base⟩ }
      (effectiveTarget base (focusSet h).comp) (evaluateFocus v) := by
  obtain ⟨hmode, hfree, hfar⟩ := htrims
  have hquiet : v.setup.quiet = h.setup.quiet := by rw [hv.carried.setup]
  have happlied : (focusSet h).applied = h.fc.applied := rfl
  rw [hv.evaluateFocus_eq, judgeTrim_appends (s := { v with fc := focusSet h }) (hv.base.trans hbase) (hv.run.mpr hmode)
    ((hv.free hentry).trans hfree) (by dsimp only; rw [hquiet, happlied]; exact hfar)]
  refine FocusTrimmed.dispatch {
    fc := rfl, tref := hv.tref, waits := .inl ?_, jobs := fun e he hax => ?_, kept := hv.kept }
  · exact List.mem_append_right _ (List.mem_singleton.mpr rfl)
  · rcases List.mem_append.mp he with he | he
    · exact absurd hax (entryOf_eq_none_iff.mp hv.entry e he)
    · rw [List.mem_singleton.mp he]
      exact fun _ _ hjob => Job.noConfusion hjob

theorem FocusStill.not_trims (hv : FocusStill h h.fc v) (hentry : h.entryOf .focus = none)
    (hnot : ∀ base, h.setup.base.get .focus = some base → ¬TrimsTo h base) :
    FocusStill h (focusSet h) (evaluateFocus v) := by
  have hquiet : v.setup.quiet = h.setup.quiet := by rw [hv.carried.setup]
  have happlied : (focusSet h).applied = h.fc.applied := rfl
  rw [hv.evaluateFocus_eq, judgeTrim_not (s := { v with fc := focusSet h }) fun base hbase hc => ?_]
  · exact { fc := rfl, carried := hv.carried.trans ⟨rfl, rfl⟩, tref := hv.tref, base := hv.base, entry := hv.entry
            focus := hv.focus, zoom := hv.zoom, sampled := hv.sampled.trans (sampled_of_scan rfl), kept := hv.kept
            run := hv.run }
  · obtain ⟨hmode, hfree, hfar⟩ := hc
    dsimp only at hfar
    rw [hquiet, happlied] at hfar
    exact hnot base (hv.base.symm.trans hbase) ⟨hv.run.mp hmode, (hv.free hentry).symm.trans hfree, hfar⟩

theorem focusStill_heard (hentry : h.entryOf .focus = none) : FocusStill h h.fc h where
  fc := rfl
  carried := .refl h
  tref := rfl
  base := rfl
  entry := hentry
  focus := rfl
  zoom := rfl
  sampled := .refl h
  kept := .refl _
  run := .rfl

theorem driftCoefficient_eq (table : DriftTable) {z : Nat} (hz : z ≤ 4000) : driftCoefficient table z
    = let points := [table.c0, table.c1, table.c2, table.c3, table.c4]
      let i := if z = 4000 then 3 else z / 1000
      roundHalfAway (1000 * points.getD i 0 + (points.getD (i + 1) 0 - points.getD i 0) * ((z : Int) - 1000 * i)) 1000 := by
  have hi : min (z / 1000) 3 = if z = 4000 then 3 else z / 1000 := by split <;> omega
  unfold driftCoefficient
  dsimp only
  rw [hi]
  exact congrArg (roundHalfAway · 1000) (by ring)

theorem compensation_eq (coef : Int) (h : State) : compensation coef h
    = if h.setup.focusOn = false then 0
      else match h.setup.tref, h.cc.seen.get .s3 with
        | none, _ => 0
        | some _, none => h.fc.comp
        | some tref, some t3 => max (-150) (min (roundHalfAway (coef * (t3 - tref)) 100) 150) := by
  unfold compensation
  cases h.setup.focusOn with
  | false => rfl
  | true =>
    cases h.setup.tref with
    | none => rfl
    | some tref =>
      cases h.cc.seen.get .s3 with
      | none => rfl
      | some t3 => exact clampInt_eq_max_min (by decide)

theorem focusFree_iff (hentry : h.entryOf .focus = none) : focusFree h = true
    ↔ (h.lens.get .focus).cal ≠ none ∧ (h.lens.get .focus).state = .idle := by
  rw [focusFree, hentry]
  simp [Option.isSome_iff_ne_none]

/-- What the signal hands the Focus Compensator is what stands at the sample (R102, R105). -/
theorem focusEvaluated {raw : Raw} (hclear : sensorsAtTrip (heard raw s) = 0) (hnone : s.entryOf .focus = none) :
    FocusEvaluated s (endSlow .s7 raw s) := by
  have hseen := heard_seen (raw := raw) (s := s) .s3
  have hpots : (heard raw s).scan.pots = s.scan.pots := by
    obtain ⟨-, -, hpots, -⟩ := endSlow_scan (sn := .s7) (raw := raw) (s := s)
    have hsampled : Sampled (heard raw s) (endSlow .s7 raw s) := by
      rw [endSlow_s7]
      exact (received_keeps (fun r v hv => Sampled.trans hv (sampled_receive r)) (.refl _)).trans (sampled_grant _ _)
    exact hsampled.pots.symm.trans hpots
  have hreading : (heard raw s).reading .zoom = s.reading .zoom := by
    unfold State.reading
    rw [hpots]
  obtain ⟨c, a, heq⟩ := heard_eq raw s
  have hfields : (heard raw s).setup = s.setup ∧ (heard raw s).fc = s.fc ∧ (heard raw s).lens = s.lens
      ∧ (heard raw s).mc = s.mc ∧ (heard raw s).entryOf .focus = none := by
    rw [heq]
    exact ⟨rfl, rfl, rfl, rfl, hnone⟩
  obtain ⟨hsetup, hfc, hlens, hmc, hentry⟩ := hfields
  unfold FocusEvaluated
  intro z points i coef comp free trims
  have hz : zoomPosition (heard raw s) = z := by
    unfold zoomPosition State.position
    rw [hreading, hlens]
  have hz4000 : z ≤ 4000 := by
    rw [← hz, zoomPosition]
    cases hposition : (heard raw s).position .zoom with
    | none => decide
    | some n => exact position_le _ hposition
  have hcoef : (focusSet (heard raw s)).coef = coef := by
    show driftCoefficient (heard raw s).fc.table (zoomPosition (heard raw s)) = coef
    rw [hz, hfc, driftCoefficient_eq _ hz4000]
  have hcomp : (focusSet (heard raw s)).comp = comp := by
    show compensation (focusSet (heard raw s)).coef (heard raw s) = comp
    have heq := compensation_eq coef (heard raw s)
    rw [hseen, hsetup, hfc] at heq
    rw [hcoef]
    exact heq
  have happlied : (focusSet (heard raw s)).applied = s.fc.applied := by rw [← hfc]; rfl
  have htable : (focusSet (heard raw s)).table = s.fc.table := by rw [← hfc]; rfl
  have htrims (base : Nat) : TrimsTo (heard raw s) base ↔ free ∧ trims base := by
    unfold TrimsTo
    rw [focusFree_iff hentry, hcomp, hlens, hmc, hsetup, hfc]
    constructor
    · rintro ⟨hm, ⟨hcal, hidle⟩, hfar⟩
      exact ⟨⟨hcal, hidle, hm⟩, hfar⟩
    · rintro ⟨⟨hcal, hidle, hm⟩, hfar⟩
      exact ⟨hm, ⟨hcal, hidle⟩, hfar⟩
  have hgrant := endSlow_s7 raw s
  by_cases hto : ∃ base, s.setup.base.get .focus = some base ∧ TrimsTo (heard raw s) base
  · obtain ⟨base, hbase, hto⟩ := hto
    have hdone : FocusTrimmed (heard raw s) { focusSet (heard raw s) with
        trim := some ⟨effectiveTarget base (focusSet (heard raw s)).comp, base⟩ }
        (effectiveTarget base (focusSet (heard raw s)).comp) (received raw s) :=
      received_by .focus (fun r v hr hv => FocusStill.receive hr hclear hv)
        (fun v hv => FocusStill.trims hv hentry (by rw [hsetup]; exact hbase) hto)
        (fun r v hr hv => FocusTrimmed.receive hr hclear hv) (focusStill_heard hentry)
    have hfcT : (endSlow .s7 raw s).fc = { focusSet (heard raw s) with
        trim := some ⟨effectiveTarget base (focusSet (heard raw s)).comp, base⟩ } := by
      rw [hgrant]
      exact hdone.fc
    have htref : (endSlow .s7 raw s).setup.tref = s.setup.tref := by rw [hgrant]; exact hdone.tref.trans (congrArg _ hsetup)
    have hwaits : Waits ⟨.focus, .trim (effectiveTarget base comp)⟩ (endSlow .s7 raw s) := by
      rw [hgrant, ← hcomp]
      exact hdone.waits
    rw [hfcT]
    refine ⟨hz, hcoef, hcomp, happlied, htable, htref,
      fun base' _ hbase' _ => ?_, fun hnot => ?_⟩
    · obtain rfl := Option.some_inj.mp (hbase.symm.trans hbase')
      exact ⟨hwaits.has, by rw [hcomp]; rfl⟩
    · obtain ⟨hfree, hfar⟩ := (htrims base).mp hto
      exact absurd hfar (hnot.elim (fun h => absurd hfree h) fun h => h base hbase)
  · have hnot : ∀ base, (heard raw s).setup.base.get .focus = some base → ¬TrimsTo (heard raw s) base := by
      rw [hsetup]
      exact fun base hbase hto' => hto ⟨base, hbase, hto'⟩
    have hdone : FocusStill (heard raw s) (focusSet (heard raw s)) (received raw s) :=
      received_by .focus (fun r v hr hv => FocusStill.receive hr hclear hv)
        (fun v hv => FocusStill.not_trims hv hentry hnot)
        (fun r v hr hv => FocusStill.receive hr hclear hv) (focusStill_heard hentry)
    have hfcT : (endSlow .s7 raw s).fc = focusSet (heard raw s) := by rw [hgrant]; exact hdone.fc
    rw [hfcT]
    refine ⟨hz, hcoef, hcomp, happlied, htable, ?_,
      fun base hfree hbase hfar => absurd ⟨base, hbase, (htrims base).mpr ⟨hfree, hfar⟩⟩ hto, fun _ => ⟨?_, ?_⟩⟩
    · rw [hgrant]; exact hdone.tref.trans (by rw [hsetup])
    · rw [hgrant]; exact hdone.entry
    · rw [hgrant]; exact hdone.focus.trans (by rw [hlens])

end Sys2Proof.Machine
end

section
-- One declaration at a time: many proofs that wait at once hold a thread each.
set_option Elab.async false
/-! A thermal evaluation in each mode (R96, R118 to R123, R129, R130, R167). -/

namespace Sys2Proof.Machine

variable {s t u v h : State} {raw : Raw} {r : Receiver} {fan : Fan} {ax : Axis}

/-! ## In STANDBY and TRIP, and in STARTING without a trip -/

/-- Neither the mode record nor the fans and the light limit have changed. -/
def ModeStill (h v : State) : Prop := v.mc = h.mc ∧ ∃ b, v.cc = { h.cc with sensorTrip := b }

theorem evaluateCooling_mark (hmode : s.mc.mode = .standby ∨ s.mc.mode = .trip
      ∨ s.mc.mode = .starting ∧ sensorsAtTrip s = 0) :
    ∃ b, evaluateCooling s = s.mapCc fun c => { c with sensorTrip := b } := by
  obtain hmode | hmode | ⟨hmode, hclear⟩ := hmode
  · exact evaluateCooling_still (.inl hmode)
  · exact evaluateCooling_still (.inr hmode)
  · refine ⟨false, ?_⟩
    rw [evaluateCooling_clear hclear, modeWork, hmode]

theorem modeStill_receive (hmode : h.mc.mode = .standby ∨ h.mc.mode = .trip
      ∨ h.mc.mode = .starting ∧ sensorsAtTrip h = 0) (hv : ModeStill h v) : ModeStill h (receive r v) := by
  obtain ⟨hmc, b, hcc⟩ := hv
  cases r with
  | cooling =>
    have hat : sensorsAtTrip v = sensorsAtTrip h := sensorsAtTrip_congr (by rw [hcc]; rfl)
    obtain ⟨b', hcool⟩ := evaluateCooling_mark (s := v) (by rw [hmc, hat]; exact hmode)
    rw [receive_cooling, hcool]
    refine ⟨hmc, b', ?_⟩
    show ({ v.cc with sensorTrip := b' } : Cooling) = _
    rw [hcc]
  | focus => exact ⟨lensOnly_evaluateFocus.mc.trans hmc, b, lensOnly_evaluateFocus.cc.trans hcc⟩
  | queue => exact ⟨lensOnly_evaluateQueue.mc.trans hmc, b, lensOnly_evaluateQueue.cc.trans hcc⟩
  | mode =>
    rw [receive_mode, evaluateMode_stays]
    · exact ⟨hmc, b, hcc⟩
    · rintro ⟨hcooldown, -⟩
      rw [hmc] at hcooldown
      rw [hcooldown] at hmode
      rcases hmode with h | h | ⟨h, -⟩ <;> cases h

/-! ## In RUN (R120 to R122, R129) -/

/-- Before Cooling takes the signal in RUN: the lens at most moves on. -/
structure RunBefore (h v : State) : Prop where
  mc : v.mc = h.mc
  cc : v.cc = h.cc
  carried : Carried h v
  now : v.now = h.now

/-- After Cooling has taken it: every fan and the light limit hold what it gave. -/
structure RunAfter (h v : State) : Prop where
  mc : v.mc = h.mc
  fans : ∀ fan, v.cc.fans.get fan = capped (capInForce h fan) (ranFan h fan)
  override : ∀ fan, entersOverride h fan = true → v.flagged .override
  light : ∃ u, v.cc.light = deratedLight u ∧ u.cc = { h.cc with fans := v.cc.fans } ∧ u.ge = h.ge
    ∧ u.setup.quiet = h.setup.quiet
  derate : v.cc.light ≠ h.cc.light → v.flagged .derate

theorem carried_mapFc (f : FocusCompensator → FocusCompensator) : Carried s (s.mapFc f) := carried_of_setup rfl rfl

theorem carried_mapMq (f : MotionQueue → MotionQueue) : Carried s (s.mapMq f) := carried_of_setup rfl rfl

theorem carried_judgeTrim : Carried s (judgeTrim s) := by
  unfold judgeTrim
  split
  · exact .refl s
  · dsimp only
    split
    · exact ((carried_mapFc _).trans (carried_mapMq _)).trans carried_dispatch
    · exact .refl s

theorem carried_evaluateFocus : Carried s (evaluateFocus s) :=
  (carried_mapFc _).trans carried_judgeTrim

theorem carried_evaluateQueue : Carried s (evaluateQueue s) := by
  unfold evaluateQueue
  dsimp only
  split
  · exact (carried_mapMq _).trans carried_dispatch
  · exact carried_mapMq _

theorem RunBefore.receive (hmode : h.mc.mode = .run) (hr : r ≠ .cooling) (hv : RunBefore h v) :
    RunBefore h (receive r v) := by
  cases r with
  | cooling => exact absurd rfl hr
  | focus => exact ⟨lensOnly_evaluateFocus.mc.trans hv.mc, lensOnly_evaluateFocus.cc.trans hv.cc,
      hv.carried.trans carried_evaluateFocus, lensOnly_evaluateFocus.now.trans hv.now⟩
  | queue => exact ⟨lensOnly_evaluateQueue.mc.trans hv.mc, lensOnly_evaluateQueue.cc.trans hv.cc,
      hv.carried.trans carried_evaluateQueue, lensOnly_evaluateQueue.now.trans hv.now⟩
  | mode =>
    rw [receive_mode, evaluateMode_stays (by rw [hv.mc, hmode]; exact fun hc => nomatch hc.1)]
    exact hv

theorem flagged_runCut (henters : entersOverride s fan = true) : (runCut s).flagged .override := by
  have hany : fans.any (entersOverride s) = true := List.any_eq_true.mpr ⟨fan, by cases fan <;> decide, henters⟩
  have hflag : (occurIf (fans.any (entersOverride s)) .override (runFans s)).flagged .override :=
    flagged_occurIf_self (.inr hany)
  unfold runCut capCut
  split <;> exact hflag

theorem runCut_cc (hmode : s.mc.mode = .run) : (runCut s).cc = { s.cc with
    fans := .make fun fan => capped (capInForce s fan) (ranFan s fan) } := by
  obtain ⟨f, hcut⟩ := capCut_cc (occurIf (fans.any (entersOverride s)) .override (runFans s))
  have hcc : (runCut s).cc = { s.cc with fans := (runCut s).cc.fans } := by
    rw [runCut, hcut, occurIf_au]
    rfl
  rw [hcc]
  refine congrArg (fun f => ({ s.cc with fans := f } : Cooling)) (PerFan.ext_get fun fan => ?_)
  rw [runCut_fans hmode, PerFan.get_make]

theorem runCut_frame : (runCut s).ge = s.ge ∧ (runCut s).setup = s.setup ∧ (runCut s).mc = s.mc := by
  have hcooled : Cooled s (runCut s) := ((cooled_mapFans _).trans (cooled_occurIf _ _)).trans cooled_capCut
  obtain ⟨c, a, heq⟩ := hcooled
  rw [heq]
  exact ⟨rfl, rfl, rfl⟩

/-- What an evaluation in RUN leaves of Cooling, and the flags that it sets (R120 to R122, R129). -/
theorem runEvaluation_does (hmode : s.mc.mode = .run) : (runEvaluation s).mc = s.mc
    ∧ (runEvaluation s).cc = { (runCut s).cc with light := deratedLight (runCut s) }
    ∧ (∀ fan, entersOverride s fan = true → (runEvaluation s).flagged .override)
    ∧ ((runEvaluation s).cc.light ≠ s.cc.light → (runEvaluation s).flagged .derate) := by
  have hbefore : (runCut s).cc.light = s.cc.light := by rw [runCut_cc hmode]
  have hflag (fan : Fan) (henters : entersOverride s fan = true) := flagged_runCut henters
  have hmc := (runCut_frame (s := s)).2.2
  rw [runEvaluation_eq]
  generalize runCut s = u at *
  generalize deratedLight u = l
  have hcc := setLight_cc l u
  refine ⟨?_, hcc, fun fan henters => ?_, fun hne => ?_⟩
  · rw [setLight, occurIf_au]
    exact hmc
  · rw [setLight]
    exact flagged_occurIf _ _ (flagged_of_au (hflag fan henters) rfl)
  · rw [hcc] at hne
    rw [setLight]
    exact flagged_occurIf_self (.inr (decide_eq_true (by rw [hbefore]; exact hne)))

theorem RunBefore.cools (hmode : h.mc.mode = .run) (hclear : sensorsAtTrip h = 0) (hv : RunBefore h v) :
    RunAfter h (Machine.receive .cooling v) := by
  have hmodeV : v.mc.mode = .run := by rw [hv.mc]; exact hmode
  have hquiet : v.setup.quiet = h.setup.quiet := by rw [hv.carried.setup]
  obtain ⟨hge, hsetup, -⟩ := runCut_frame (s := v)
  have hran (fan : Fan) := ranFan_congr (fan := fan) hv.cc hv.carried.ge hquiet hv.now
  have hcap (fan : Fan) : capInForce v fan = capInForce h fan := by rw [capInForce, hquiet]; rfl
  have hcut := runCut_cc hmodeV
  have hfans (fan : Fan) := runCut_fans hmodeV fan
  have hwork : modeWork v = runEvaluation v := by rw [modeWork, hmodeV]
  have hat : sensorsAtTrip v = 0 := by rw [← hclear]; exact sensorsAtTrip_congr (settingsKept_of_eq hv.cc)
  obtain ⟨hmc, hcc, hover, hderate⟩ := runEvaluation_does hmodeV
  rw [receive_cooling, evaluateCooling_clear hat, hwork]
  generalize runEvaluation v = w at *
  generalize runCut v = u at *
  refine {
    mc := hmc.trans hv.mc
    fans := fun fan => ?fans
    override := fun fan henters => flagged_of_au (hover fan ((hran fan).2.trans henters)) rfl
    light := ⟨u, ?light, ?cc, hge.trans hv.carried.ge, by rw [hsetup, hquiet]⟩
    derate := fun hne => flagged_of_au (hderate (by rw [hv.cc]; exact hne)) rfl }
  case fans =>
    show w.cc.fans.get fan = _
    rw [hcc]
    exact (hfans fan).trans (by rw [(hran fan).1, hcap])
  case light =>
    show w.cc.light = _
    rw [hcc]
  case cc =>
    show u.cc = ({ h.cc with fans := w.cc.fans } : Cooling)
    rw [hcc, hcut, hv.cc]

theorem RunAfter.receive (hmode : h.mc.mode = .run) (hr : r ≠ .cooling) (hv : RunAfter h v) :
    RunAfter h (receive r v) := by
  have hflags := (laws_receive (s := v) r).flagged
  have hsame : (Machine.receive r v).mc = v.mc ∧ (Machine.receive r v).cc = v.cc := by
    cases r with
    | cooling => exact absurd rfl hr
    | focus => exact ⟨lensOnly_evaluateFocus.mc, lensOnly_evaluateFocus.cc⟩
    | queue => exact ⟨lensOnly_evaluateQueue.mc, lensOnly_evaluateQueue.cc⟩
    | mode =>
      rw [receive_mode, evaluateMode_stays (by rw [hv.mc, hmode]; exact fun hc => nomatch hc.1)]
      exact ⟨rfl, rfl⟩
  obtain ⟨hmc, hcc⟩ := hsame
  exact {
    mc := hmc.trans hv.mc
    fans := by rw [hcc]; exact hv.fans
    override := fun fan henters => hflags _ (hv.override fan henters)
    light := by rw [hcc]; exact hv.light
    derate := fun hne => hflags _ (hv.derate (by rw [hcc] at hne; exact hne)) }

end Sys2Proof.Machine
end

section
-- One declaration at a time: many proofs that wait at once hold a thread each.
set_option Elab.async false
/-! A thermal evaluation in COOLDOWN, and the evaluation as a whole (R46, R118, R123, R167). -/

namespace Sys2Proof.Machine

variable {s t u v h : State} {raw : Raw} {r : Receiver} {fan : Fan} {ax : Axis} {e : Entry}

/-! ## The end of a cooldown -/

theorem modeWork_cooldown (hmode : s.mc.mode = .cooldown) : modeWork s = cooldownPipeline s := by rw [modeWork, hmode]

/-- Before the Mode Controller takes the signal with the lens at rest: nothing has moved. -/
structure RestBefore (s h v : State) : Prop where
  mc : v.mc = s.mc
  rest : v.lensAtRest = true
  light : v.cc.light = s.cc.light
  fans : ∀ fan, (v.cc.fans.get fan).faulted = (s.cc.fans.get fan).faulted
    ∧ (v.cc.fans.get fan).low = (s.cc.fans.get fan).low ∧ (v.cc.fans.get fan).good = (s.cc.fans.get fan).good
  outer : Outer s v
  kept : SettingsKept h.cc v.cc

theorem lensAtRest_congr (hlens : t.lens = s.lens) (hmq : t.mq.entries = s.mq.entries) : t.lensAtRest = s.lensAtRest := by
  unfold State.lensAtRest State.anyMoving State.moving
  rw [hlens, hmq]

theorem cooldownPipeline_cc : (cooldownPipeline s).cc.light = s.cc.light ∧ ∀ fan,
    ((cooldownPipeline s).cc.fans.get fan).faulted = (s.cc.fans.get fan).faulted
      ∧ ((cooldownPipeline s).cc.fans.get fan).low = (s.cc.fans.get fan).low
      ∧ ((cooldownPipeline s).cc.fans.get fan).good = (s.cc.fans.get fan).good := by
  refine ⟨rfl, fun fan => ?_⟩
  rw [cooldownPipeline_get]
  exact ⟨rfl, rfl, rfl⟩

theorem RestBefore.receive (hmode : s.mc.mode = .cooldown) (hclear : sensorsAtTrip h = 0) (hr : r ≠ .mode)
    (hv : RestBefore s h v) : RestBefore s h (receive r v) := by
  have hmodeV : v.mc.mode = .cooldown := by rw [hv.mc]; exact hmode
  have hkept := hv.kept.trans (settingsKept_receive r)
  cases r with
  | mode => exact absurd rfl hr
  | cooling =>
    have hat : sensorsAtTrip v = 0 := (sensorsAtTrip_congr hv.kept).trans hclear
    obtain ⟨hlight, hfans⟩ := cooldownPipeline_cc (s := v)
    rw [receive_cooling, evaluateCooling_clear hat, modeWork_cooldown hmodeV] at hkept ⊢
    exact ⟨hv.mc, hv.rest, hlight.trans hv.light, fun fan =>
      ⟨(hfans fan).1.trans (hv.fans fan).1, (hfans fan).2.1.trans (hv.fans fan).2.1,
        (hfans fan).2.2.trans (hv.fans fan).2.2⟩, hv.outer.trans ⟨rfl, rfl, rfl, rfl, rfl, rfl⟩, hkept⟩
  | focus =>
    rw [receive_focus, evaluateFocus] at hkept ⊢
    rw [judgeTrim_stays (by rw [State.mapFc, hmodeV]; decide)] at hkept ⊢
    exact ⟨hv.mc, hv.rest, hv.light, hv.fans, hv.outer.trans ⟨rfl, rfl, rfl, rfl, rfl, rfl⟩, hkept⟩
  | queue =>
    rw [receive_queue, evaluateQueue_empty (lensAtRest_iff.mp hv.rest).2] at hkept ⊢
    exact ⟨hv.mc, hv.rest, hv.light, hv.fans, hv.outer.trans ⟨rfl, rfl, rfl, rfl, rfl, rfl⟩, hkept⟩

theorem RestBefore.cools (hmode : s.mc.mode = .cooldown) (hcools : criterion h = true) (hv : RestBefore s h v) :
    CooledDown s (Machine.receive .mode v) := by
  have hmodeV : v.mc.mode = .cooldown := by rw [hv.mc]; exact hmode
  have hrest : (v.mapMc fun m => { m with thermalDone := true }).lensAtRest = true := hv.rest
  rw [receive_mode, evaluateMode_cools ⟨hmodeV, (criterion_congr hv.kept).trans hcools⟩,
    judgeCooldown_ends (s := v.mapMc fun m => { m with thermalDone := true }) ⟨hmodeV, rfl, hrest⟩]
  refine cooledDown_enterStandby ?_ rfl hmode hv.light hv.fans (hv.outer.trans ⟨rfl, rfl, rfl, rfl, rfl, rfl⟩) hrest
  show ({ ({ v.mc with thermalDone := true } : ModeController) with cooldown := none, thermalDone := true } : ModeController) = _
  rw [hv.mc]

/-- A cooldown's end is one by the mode record, the fans, the lens, the queue, the scanner and the flags alone. -/
theorem CooledDown.congr (hc : CooledDown s v) (houter : Outer v u) (hmc : u.mc = v.mc) (hlight : u.cc.light = v.cc.light)
    (hfans : u.cc.fans = v.cc.fans) (hlens : u.lens = v.lens) (hmq : u.mq.entries = v.mq.entries)
    (hscan : u.scan = v.scan) (hau : u.au = v.au) : CooledDown s u := by
  obtain ⟨hpending, hnow, hheld, hpt, hlp, hcl⟩ := houter
  unfold CooledDown State.flagged State.SameOuter at hc ⊢
  rw [hmc, hfans, hlight, lensAtRest_congr hlens hmq, hscan, hau, hpending, hnow, hheld, hpt, hlp, hcl]
  exact hc

theorem CooledDown.receive (hr : r ≠ .mode) (hc : CooledDown s v) : CooledDown s (receive r v) := by
  obtain ⟨hmc, hrest, -⟩ := id hc
  have hmode : v.mc.mode = .standby := by rw [hmc]
  cases r with
  | mode => exact absurd rfl hr
  | cooling =>
    obtain ⟨b, hcool⟩ := evaluateCooling_still (.inl hmode)
    rw [receive_cooling, hcool]
    exact hc.congr ⟨rfl, rfl, rfl, rfl, rfl, rfl⟩ rfl rfl rfl rfl rfl rfl rfl
  | focus =>
    rw [receive_focus, evaluateFocus]
    rw [judgeTrim_stays (by rw [State.mapFc, hmode]; decide)]
    exact hc.congr ⟨rfl, rfl, rfl, rfl, rfl, rfl⟩ rfl rfl rfl rfl rfl rfl rfl
  | queue =>
    rw [receive_queue, evaluateQueue_empty (lensAtRest_iff.mp hrest).2]
    exact hc.congr ⟨rfl, rfl, rfl, rfl, rfl, rfl⟩ rfl rfl rfl rfl rfl rfl rfl

/-! ## A cooldown that goes on -/

/-- Something moves, or waits and will run when its turn comes. -/
def Busy (s : State) : Prop :=
  (∃ ax, s.moving ax = true) ∨ ∃ e : Entry, (∀ up d, e.job ≠ .jog up d) ∧ Waits e s

theorem Busy.not_rest (hb : Busy s) : s.lensAtRest ≠ true :=
  hb.elim (fun ⟨_, h⟩ => not_rest_of_moving h) fun ⟨_, _, h⟩ => not_rest_of_waits h

theorem Busy.dispatch (hb : Busy s) : Busy (dispatch s) :=
  hb.imp (fun ⟨ax, h⟩ => ⟨ax, moving_dispatch h⟩) fun ⟨e, hjob, h⟩ => ⟨e, hjob, waits_dispatch hjob h⟩

theorem Busy.congr (hlens : t.lens = s.lens) (hmq : t.mq.entries = s.mq.entries) (hb : Busy s) : Busy t := by
  unfold Busy Waits State.moving at *
  rw [hlens, hmq]
  exact hb

/-- The cooldown goes on: its criterion is not met, or the lens is not at rest. -/
structure GoesOn (h v : State) : Prop where
  mode : v.mc.mode = .cooldown
  kept : SettingsKept h.cc v.cc
  ge : v.ge = h.ge
  now : v.now = h.now
  stays : criterion h = false ∨ Busy v

theorem GoesOn.receive (hclear : sensorsAtTrip h = 0) (hv : GoesOn h v) : GoesOn h (receive r v)
    ∧ (r ≠ .cooling → (receive r v).cc = v.cc) ∧ (r ≠ .mode → (receive r v).mc = v.mc) := by
  have hkept := hv.kept.trans (settingsKept_receive r)
  cases r with
  | cooling =>
    have hat : sensorsAtTrip v = 0 := (sensorsAtTrip_congr hv.kept).trans hclear
    rw [receive_cooling, evaluateCooling_clear hat, modeWork_cooldown hv.mode] at hkept ⊢
    exact ⟨⟨hv.mode, hkept, hv.ge, hv.now, hv.stays.imp_right (Busy.congr rfl rfl)⟩,
      fun hr => absurd rfl hr, fun _ => rfl⟩
  | focus =>
    rw [receive_focus, evaluateFocus] at hkept ⊢
    rw [judgeTrim_stays (by rw [State.mapFc, hv.mode]; decide)] at hkept ⊢
    exact ⟨⟨hv.mode, hkept, hv.ge, hv.now, hv.stays.imp_right (Busy.congr rfl rfl)⟩, fun _ => rfl, fun _ => rfl⟩
  | queue =>
    have hlens := lensOnly_evaluateQueue (s := v)
    refine ⟨⟨(congrArg ModeController.mode hlens.mc).trans hv.mode, hkept, carried_evaluateQueue.ge.trans hv.ge,
      hlens.now.trans hv.now, hv.stays.imp_right fun hb => ?_⟩, fun _ => hlens.cc, fun _ => hlens.mc⟩
    have hbudget (b : Nat) : Busy (v.mapMq fun q => { q with budget := b }) := hb.congr rfl rfl
    rw [receive_queue, evaluateQueue]
    split
    · exact (hbudget _).dispatch
    · exact hbudget _
  | mode =>
    rw [receive_mode] at hkept ⊢
    by_cases hcools : v.mc.mode = .cooldown ∧ criterion v = true
    · have hbusy : Busy v := hv.stays.resolve_left fun hno => by
        rw [criterion_congr hv.kept, hno] at hcools
        exact nomatch hcools.2
      have hstays : ¬((v.mapMc fun m => { m with thermalDone := true }).mc.mode = .cooldown
          ∧ (v.mapMc fun m => { m with thermalDone := true }).mc.thermalDone = true
          ∧ (v.mapMc fun m => { m with thermalDone := true }).lensAtRest = true) := fun hc => hbusy.not_rest hc.2.2
      rw [evaluateMode_cools hcools, judgeCooldown_stays hstays] at hkept ⊢
      exact ⟨⟨hv.mode, hkept, hv.ge, hv.now, hv.stays.imp_right (Busy.congr rfl rfl)⟩, fun _ => rfl, fun hr => absurd rfl hr⟩
    · rw [evaluateMode_stays hcools]
      exact ⟨hv, fun _ => rfl, fun hr => absurd rfl hr⟩

theorem GoesOn.modes (hv : GoesOn h v) : (criterion h = true → (Machine.receive .mode v).mc = { v.mc with thermalDone := true })
    ∧ (criterion h = false → (Machine.receive .mode v).mc = v.mc) := by
  rw [receive_mode]
  have hsame := criterion_congr hv.kept
  refine ⟨fun hcools => ?_, fun hno => ?_⟩
  · have hbusy : Busy v := hv.stays.resolve_left fun hno => by rw [hcools] at hno; cases hno
    rw [evaluateMode_cools ⟨hv.mode, hsame.trans hcools⟩,
      judgeCooldown_stays (s := v.mapMc fun m => { m with thermalDone := true }) fun hc => hbusy.not_rest hc.2.2]
    rfl
  · rw [evaluateMode_stays fun hc => by rw [hsame, hno] at hc; exact nomatch hc.2]

theorem GoesOn.fans (hclear : sensorsAtTrip h = 0) (hcc : v.cc = h.cc) (hv : GoesOn h v) :
    (Machine.receive .cooling v).cc.light = h.cc.light
      ∧ ∀ fan, (Machine.receive .cooling v).cc.fans.get fan = cooledFan h fan := by
  have hat : sensorsAtTrip v = 0 := (sensorsAtTrip_congr hv.kept).trans hclear
  rw [receive_cooling, evaluateCooling_clear hat, modeWork_cooldown hv.mode]
  have hlight : v.cc.light = h.cc.light := by rw [hcc]
  refine ⟨hlight, fun fan => ?_⟩
  exact (cooldownPipeline_get v fan).trans (cooledFan_congr hcc hv.ge hv.now)

/-! ## The signal and the state of the sample -/

/-- What the receivers find of the state of the sample. -/
structure Heard (raw : Raw) (s h : State) : Prop where
  mc : h.mc = s.mc
  cc : h.cc = { s.cc with
    seen := .make (endSlow .s7 raw s).validTemp, used := .make fun fan => ⟨maskInForce s fan, s.cc.curves.get fan⟩ }
  lens : h.lens = s.lens
  mq : h.mq = s.mq
  setup : h.setup = s.setup
  ge : h.ge = s.ge
  now : h.now = s.now
  outer : Outer s h

theorem heard_heard (raw : Raw) (s : State) : Heard raw s (heard raw s) := by
  obtain ⟨c, a, heq⟩ := heard_eq raw s
  rw [heq]
  exact ⟨rfl, rfl, rfl, rfl, rfl, rfl, rfl, ⟨rfl, rfl, rfl, rfl, rfl, rfl⟩⟩

theorem Heard.mask (hh : Heard raw s h) (fan : Fan) : maskInForce h fan = maskInForce s fan := by
  unfold maskInForce
  rw [hh.cc, hh.ge]

theorem Heard.cap (hh : Heard raw s h) (fan : Fan) : capInForce h fan = capInForce s fan := by
  unfold capInForce
  rw [hh.setup]

theorem Heard.seen (hh : Heard raw s h) (sn : Sensor) : h.cc.seen.get sn = (endSlow .s7 raw s).validTemp sn := by
  rw [hh.cc]
  exact PerSensor.get_make _ _

theorem Heard.reads (hh : Heard raw s h) (fan : Fan) (sn : Sensor) (x : Int) :
    (sn, x) ∈ governedBy (maskInForce h fan) h.cc.seen
      ↔ inSet (maskInForce s fan) sn = true ∧ (endSlow .s7 raw s).validTemp sn = some x := by
  rw [mem_governedBy, hh.mask, hh.seen]

theorem flagged_endSlow_s7 {f : Flag} (hf : (received raw s).flagged f) : (endSlow .s7 raw s).flagged f := by
  rw [endSlow_s7]
  exact hf

theorem endSlow_cc : (endSlow .s7 raw s).cc = (received raw s).cc ∧ (endSlow .s7 raw s).mc = (received raw s).mc
    ∧ (endSlow .s7 raw s).mq = (received raw s).mq := by
  rw [endSlow_s7]
  exact ⟨rfl, rfl, rfl⟩

/-- Cooling after an evaluation but for its fans and its light limit (R112, R115, log 39). -/
theorem endSlow_found : (endSlow .s7 raw s).cc = { s.cc with
    seen := .make (endSlow .s7 raw s).validTemp, used := .make fun fan => ⟨maskInForce s fan, s.cc.curves.get fan⟩
    sensorTrip := (endSlow .s7 raw s).cc.sensorTrip, fans := (endSlow .s7 raw s).cc.fans
    light := (endSlow .s7 raw s).cc.light } := by
  have hkept := settingsKept_received (raw := raw) (s := s)
  have hh := heard_heard raw s
  rw [endSlow_cc.1]
  rw [SettingsKept, hh.cc] at hkept
  exact hkept

theorem endSlow_still (hmode : s.mc.mode = .standby ∨ s.mc.mode = .trip
      ∨ s.mc.mode = .starting ∧ sensorsAtTrip (heard raw s) = 0) : (endSlow .s7 raw s).mc = s.mc
    ∧ (endSlow .s7 raw s).cc = { s.cc with
        seen := .make (endSlow .s7 raw s).validTemp, used := .make fun fan => ⟨maskInForce s fan, s.cc.curves.get fan⟩
        sensorTrip := (endSlow .s7 raw s).cc.sensorTrip } := by
  have hh := heard_heard raw s
  have hstill : ModeStill (heard raw s) (received raw s) :=
    received_keeps (fun r v hv => modeStill_receive (by rw [hh.mc]; exact hmode) hv)
      ⟨rfl, (heard raw s).cc.sensorTrip, rfl⟩
  obtain ⟨hmc, b, hcc⟩ := hstill
  rw [endSlow_cc.1, endSlow_cc.2.1]
  refine ⟨hmc.trans hh.mc, ?_⟩
  rw [hcc, hh.cc]

/-- In RUN, without a trip (R120 to R122, R129). -/
theorem endSlow_run (hmode : s.mc.mode = .run) (hclear : sensorsAtTrip (heard raw s) = 0) :
    (endSlow .s7 raw s).mc = s.mc ∧ (∀ fan, FanEvaluated fan s (endSlow .s7 raw s))
      ∧ LightEvaluated s (endSlow .s7 raw s) := by
  have hh := heard_heard raw s
  have hmodeH : (heard raw s).mc.mode = .run := by rw [hh.mc]; exact hmode
  have hafter : RunAfter (heard raw s) (received raw s) :=
    received_by .cooling (fun r v hr hv => RunBefore.receive hmodeH hr hv)
      (fun v hv => RunBefore.cools hmodeH hclear hv) (fun r v hr hv => RunAfter.receive hmodeH hr hv)
      ⟨rfl, rfl, .refl _, rfl⟩
  obtain ⟨hcc, hmc, -⟩ := endSlow_cc (raw := raw) (s := s)
  have hflags {f : Flag} := flagged_endSlow_s7 (raw := raw) (s := s) (f := f)
  generalize received raw s = w at hafter hcc hmc hflags
  generalize heard raw s = h at hh hafter
  have hsettings : h.cc.fans = s.cc.fans ∧ h.cc.curves = s.cc.curves ∧ h.cc.limits = s.cc.limits
      ∧ h.cc.light = s.cc.light := by
    rw [hh.cc]
    exact ⟨rfl, rfl, rfl, rfl⟩
  obtain ⟨hfans, hcurves, hlimits, hlight⟩ := hsettings
  have hfaulted (fan : Fan) : (w.cc.fans.get fan).faulted = (s.cc.fans.get fan).faulted := by
    rw [hafter.fans, (capped_faulted _ _).1, ranFan, runPipeline_faulted.1, hfans]
  refine ⟨hmc.trans (hafter.mc.trans hh.mc), fun fan => ?fans, ?light⟩
  case fans =>
    refine fanEvaluated_of_get (now := h.now) (temps := governedBy (maskInForce h fan) h.cc.seen)
      (hot := overrideAfter h.cc.limits (governedBy (maskInForce h fan) h.cc.seen) (h.cc.fans.get fan))
      (entered := entersOverride h fan) ?_ ?_ ?_ (hh.reads fan) fun henters => hflags (hafter.override fan henters)
    · rw [hlimits, hfans]
    · rw [entersOverride, hfans]
    · rw [hcc, hafter.fans, ranFan, hh.cap, hcurves, hh.ge, hfans]
  case light =>
    obtain ⟨u, hderated, hu, hge, hquiet⟩ := hafter.light
    have huSettings : u.cc.fans = w.cc.fans ∧ u.cc.limits = s.cc.limits ∧ u.cc.light = s.cc.light
        ∧ u.cc.seen = h.cc.seen ∧ u.cc.masks = s.cc.masks := by
      rw [hu]
      exact ⟨rfl, hlimits, hlight, rfl, by rw [hh.cc]⟩
    obtain ⟨huFans, huLimits, huLight, huSeen, huMasks⟩ := huSettings
    refine lightEvaluated_of_derated (u := u) (by rw [hcc, hderated]) (by rw [hcc, huFans])
      (fun sn => by rw [huSeen]; exact hh.seen sn) huLimits huLight (fun fan => ?_) (fun fan => ?_) ?_ fun hne => ?_
    · unfold maskInForce
      rw [huMasks, hge, hh.ge]
    · unfold capInForce
      rw [hquiet, hh.setup]
    · exact faultedFans_congr fun fan => by rw [huFans, hfaulted]
    · exact hflags (hafter.derate (by rw [hlight, ← hcc]; exact hne))

/-- In COOLDOWN with the criterion met and the lens at rest, without a trip (R167). -/
theorem endSlow_cooledDown (hmode : s.mc.mode = .cooldown) (hclear : sensorsAtTrip (heard raw s) = 0)
    (hcools : criterion (heard raw s) = true) (hrest : s.lensAtRest = true) : CooledDown s (endSlow .s7 raw s) := by
  have hh := heard_heard raw s
  have hbefore : RestBefore s (heard raw s) (heard raw s) := {
    mc := hh.mc
    rest := (lensAtRest_congr hh.lens (by rw [hh.mq])).trans hrest
    light := by rw [hh.cc]
    fans := fun fan => by rw [hh.cc]; exact ⟨rfl, rfl, rfl⟩
    outer := hh.outer
    kept := .refl _ }
  have hdone : CooledDown s (received raw s) :=
    received_by .mode (fun r v hr hv => RestBefore.receive hmode hclear hr hv)
      (fun v hv => RestBefore.cools hmode hcools hv) (fun r v hr hv => CooledDown.receive hr hv) hbefore
  rw [endSlow_s7]
  exact hdone.grant

/-- In COOLDOWN as it goes on, without a trip (R118, R123, R167). -/
theorem endSlow_goesOn (hmode : s.mc.mode = .cooldown) (hclear : sensorsAtTrip (heard raw s) = 0)
    (hstays : criterion (heard raw s) = false ∨ Busy s) :
    (criterion (heard raw s) = true → (endSlow .s7 raw s).mc = { s.mc with thermalDone := true })
      ∧ (criterion (heard raw s) = false → (endSlow .s7 raw s).mc = s.mc)
      ∧ (endSlow .s7 raw s).cc.light = s.cc.light ∧ ∀ fan, FanEvaluatedInCooldown fan s (endSlow .s7 raw s) := by
  have hh := heard_heard raw s
  have hbefore : GoesOn (heard raw s) (heard raw s) :=
    ⟨by rw [hh.mc]; exact hmode, .refl _, rfl, rfl, hstays.imp_right (Busy.congr hh.lens (by rw [hh.mq]))⟩
  have hmodes : (criterion (heard raw s) = true → (received raw s).mc = { s.mc with thermalDone := true })
      ∧ (criterion (heard raw s) = false → (received raw s).mc = s.mc) := by
    refine (received_by (P := fun v => GoesOn (heard raw s) v ∧ v.mc = s.mc)
      (Q := fun v => GoesOn (heard raw s) v
        ∧ (criterion (heard raw s) = true → v.mc = { s.mc with thermalDone := true })
        ∧ (criterion (heard raw s) = false → v.mc = s.mc)) .mode
      (fun r v hr ⟨hv, hmc⟩ => ?_) (fun v ⟨hv, hmc⟩ => ?_) (fun r v hr ⟨hv, hdone, hnot⟩ => ?_)
      ⟨hbefore, hh.mc⟩).2
    · obtain ⟨hgoes, -, hsame⟩ := hv.receive (r := r) hclear
      exact ⟨hgoes, (hsame hr).trans hmc⟩
    · obtain ⟨hgoes, -⟩ := hv.receive (r := .mode) hclear
      obtain ⟨hyes, hno⟩ := hv.modes
      exact ⟨hgoes, fun h => (hyes h).trans (by rw [hmc]), fun h => (hno h).trans hmc⟩
    · obtain ⟨hgoes, -, hsame⟩ := hv.receive (r := r) hclear
      exact ⟨hgoes, fun h => (hsame hr).trans (hdone h), fun h => (hsame hr).trans (hnot h)⟩
  have hfans : (received raw s).cc.light = (heard raw s).cc.light
      ∧ ∀ fan, (received raw s).cc.fans.get fan = cooledFan (heard raw s) fan := by
    refine (received_by (P := fun v => GoesOn (heard raw s) v ∧ v.cc = (heard raw s).cc)
      (Q := fun v => GoesOn (heard raw s) v ∧ v.cc.light = (heard raw s).cc.light
        ∧ ∀ fan, v.cc.fans.get fan = cooledFan (heard raw s) fan) .cooling
      (fun r v hr ⟨hv, hcc⟩ => ?_) (fun v ⟨hv, hcc⟩ => ?_) (fun r v hr ⟨hv, hlight, hdone⟩ => ?_)
      ⟨hbefore, rfl⟩).2
    · obtain ⟨hgoes, hsame, -⟩ := hv.receive (r := r) hclear
      exact ⟨hgoes, (hsame hr).trans hcc⟩
    · exact ⟨(hv.receive (r := .cooling) hclear).1, hv.fans hclear hcc⟩
    · obtain ⟨hgoes, hsame, -⟩ := hv.receive (r := r) hclear
      rw [hsame hr]
      exact ⟨hgoes, hlight, hdone⟩
  obtain ⟨hcc, hmc, -⟩ := endSlow_cc (raw := raw) (s := s)
  rw [hmc]
  refine ⟨hmodes.1, hmodes.2, ?_, fun fan => ?_⟩
  · rw [hcc, hfans.1, hh.cc]
  · refine fanEvaluatedInCooldown_of_get (u := heard raw s) (by rw [hcc]; exact hfans.2 fan) (by rw [hh.cc])
      (by rw [hh.cc]) (hh.reads fan)

/-- Settles O58: each receiver does its part whenever its turn comes, and the others leave it. -/
theorem evaluationSetsBudget : Obligations.EvaluationSetsBudget := by
  intro s start raw hheld hconverting hover
  have htrips : sensorsAtTrip (heard raw s) = 0
      ↔ ¬∃ sn x, (endSlow .s7 raw s).validTemp sn = some x ∧ (s.cc.limits.get sn).trip ≤ x := by
    rw [← heard_trips, not_not]
  refine ⟨endSlow .s7 raw s, exec_slowConversionEnd hheld hconverting hover, ?budget, ?mark, endSlow_found,
    fun hmode => endSlow_still ?still, fun hnot => ⟨fun hnone => focusEvaluated (htrips.mpr hnot) hnone,
      fun hmode => endSlow_run hmode (htrips.mpr hnot), fun hmode => ⟨fun hcools hrest =>
        endSlow_cooledDown hmode (htrips.mpr hnot) (criterion_heard.mpr hcools) hrest, fun hgoes => ?goes⟩⟩⟩
  case budget =>
    rw [endSlow_cc.2.2, received_budget]
    cases (endSlow .s7 raw s).validTemp .s7 <;> rfl
  case mark =>
    rw [endSlow_cc.1, sensorTrip_received]
    exact decide_eq_true_iff.trans heard_trips
  case still => exact hmode.imp_right (Or.imp_right fun ⟨hstarting, hnot⟩ => ⟨hstarting, htrips.mpr hnot⟩)
  case goes =>
    have hstays : criterion (heard raw s) = false ∨ Busy s := by
      rcases hgoes with hno | hmoving | ⟨e, he, hjob⟩
      · exact .inl (Bool.eq_false_iff.mpr fun h => hno (criterion_heard.mp h))
      · exact .inr (.inl hmoving)
      · exact .inr (.inr ⟨e, hjob, .inl he⟩)
    obtain ⟨hyes, hno, hlight, hfans⟩ := endSlow_goesOn hmode (htrips.mpr hnot) hstays
    exact ⟨fun hcools => hyes (criterion_heard.mpr hcools),
      fun hcools => hno (Bool.eq_false_iff.mpr fun h => hcools (criterion_heard.mp h)), hlight, hfans⟩

end Sys2Proof.Machine
end

section
-- One declaration at a time: many proofs that wait at once hold a thread each.
set_option Elab.async false
/-! The close of a tach window (R124 to R127). -/

namespace Sys2Proof.Machine

variable {s t u v : State} {fan : Fan} {f g : FanRecord} {mode : Mode} {recovered : Fan → Bool}

/-! ## The judgment of one fan (R125, R126) -/

/-- The fault mark, both window counts, the RPM and the pulses are the same. -/
structure SameCounts (f g : FanRecord) : Prop where
  faulted : g.faulted = f.faulted
  low : g.low = f.low
  good : g.good = f.good
  rpm : g.rpm = f.rpm
  pulses : g.pulses = f.pulses

theorem SameCounts.refl (f : FanRecord) : SameCounts f f := ⟨rfl, rfl, rfl, rfl, rfl⟩

theorem SameCounts.trans {e : FanRecord} (h : SameCounts e f) (k : SameCounts f g) : SameCounts e g :=
  ⟨k.faulted.trans h.faulted, k.low.trans h.low, k.good.trans h.good, k.rpm.trans h.rpm, k.pulses.trans h.pulses⟩

theorem SameCounts.ite {c : Prop} [Decidable c] {e : FanRecord} (h : SameCounts e f) (k : SameCounts e g) :
    SameCounts e (if c then f else g) := by
  split <;> assumption

/-- A fan that was not faulted, after its window (R125). -/
theorem judgeWindow_whole (h : f.faulted = false) : ((judgeWindow f).faulted = true
      ↔ f.dipped = false ∧ f.pulses * 30 < 300 ∧ f.low = 2)
    ∧ ((judgeWindow f).faulted = false
      → (judgeWindow f).low = if f.dipped = false ∧ f.pulses * 30 < 300 then f.low + 1 else 0)
    ∧ (judgeWindow f).good = 0 ∧ ((judgeWindow f).faulted = true → (judgeWindow f).low = 0) := by
  unfold judgeWindow
  rw [h]
  by_cases hlow : f.dipped = false ∧ f.pulses * 30 < 300
  · obtain ⟨hdip, hrpm⟩ := hlow
    by_cases hthird : f.low + 1 = 3
    · have hthird' : f.low = 2 := by omega
      simp [hdip, hrpm, hthird']
    · have hthird' : f.low ≠ 2 := by omega
      simp [hdip, hrpm, hthird']
  · have hcond : (!f.dipped && decide (f.pulses * 30 < 300)) = false := by
      rw [Bool.eq_false_iff, Ne, Bool.and_eq_true, Bool.not_eq_true', decide_eq_true_eq]
      exact hlow
    simp only [Bool.not_false, Bool.true_and, Bool.false_and, hcond]
    simp only [if_neg hlow]
    refine ⟨?_, fun _ => rfl, rfl, fun _ => rfl⟩
    simp only [Bool.false_eq_true, if_false]
    constructor
    · exact fun hf => Bool.noConfusion (show false = true from hf)
    · exact fun hc => absurd ⟨hc.1, hc.2.1⟩ hlow

/-- A faulted fan, after its window (R126). -/
theorem judgeWindow_faulted (h : f.faulted = true) : ((judgeWindow f).faulted = false
      ↔ f.dipped = false ∧ 600 ≤ f.pulses * 30 ∧ f.good = 2)
    ∧ ((judgeWindow f).faulted = true
      → (judgeWindow f).good = if f.dipped = false ∧ 600 ≤ f.pulses * 30 then f.good + 1 else 0)
    ∧ (judgeWindow f).low = 0 ∧ ((judgeWindow f).faulted = false → (judgeWindow f).good = 0) := by
  unfold judgeWindow
  rw [h]
  by_cases hgood : f.dipped = false ∧ 600 ≤ f.pulses * 30
  · obtain ⟨hdip, hrpm⟩ := hgood
    by_cases hthird : f.good + 1 = 3
    · have hthird' : f.good = 2 := by omega
      simp [hdip, hrpm, hthird']
    · have hthird' : f.good ≠ 2 := by omega
      simp [hdip, hrpm, hthird']
  · have hcond : (!f.dipped && decide (600 ≤ f.pulses * 30)) = false := by
      rw [Bool.eq_false_iff, Ne, Bool.and_eq_true, Bool.not_eq_true', decide_eq_true_eq]
      exact hgood
    simp only [Bool.not_true, Bool.true_and, Bool.false_and, hcond]
    simp only [if_neg hgood]
    refine ⟨?_, fun _ => rfl, rfl, fun _ => rfl⟩
    simp only [Bool.false_eq_true, if_false]
    constructor
    · exact fun hf => Bool.noConfusion (show true = false from hf)
    · exact fun hc => absurd ⟨hc.1, hc.2.1⟩ hgood

/-- A judgment leaves everything but the fault mark and the window counts. -/
theorem judgeWindow_keeps (f : FanRecord) : ∃ faulted low good,
    judgeWindow f = { f with faulted := faulted, low := low, good := good } := by
  unfold judgeWindow
  dsimp only
  generalize (if (!f.faulted && !f.dipped && decide (f.pulses * 30 < 300)) = true then f.low + 1 else 0) = low
  generalize (if (f.faulted && !f.dipped && decide (600 ≤ f.pulses * 30)) = true then f.good + 1 else 0) = good
  split
  · exact ⟨_, _, _, rfl⟩
  · split
    · exact ⟨_, _, _, rfl⟩
    · exact ⟨f.faulted, _, _, rfl⟩

/-! ## What follows a fault or a recovery for one fan (R127) -/

theorem compensate_counts (mode : Mode) (f : FanRecord) : SameCounts f (compensate mode f) := by
  unfold compensate
  split
  · exact ⟨rfl, rfl, rfl, rfl, rfl⟩
  · dsimp only
    split <;> exact ⟨rfl, rfl, rfl, rfl, rfl⟩

theorem endCompensation_counts (mode : Mode) (f : FanRecord) : SameCounts f (endCompensation mode f) := by
  unfold endCompensation
  dsimp only
  split <;> exact ⟨rfl, rfl, rfl, rfl, rfl⟩

theorem compensateRecovered_counts (mode : Mode) (f : FanRecord) : SameCounts f (compensateRecovered mode f) := by
  unfold compensateRecovered
  split <;> exact ⟨rfl, rfl, rfl, rfl, rfl⟩

theorem capped_counts (cap : Nat) (f : FanRecord) : SameCounts f (capped cap f) := by
  unfold capped
  split <;> exact ⟨rfl, rfl, rfl, rfl, rfl⟩

/-- A fan's record after the consequences of a recovery, in the state that the judgments leave. -/
def recoveredFan (recovered : Fan → Bool) (s : State) (fan : Fan) (f : FanRecord) : FanRecord :=
  if faultedFans s.cc = 0 then
    if s.mc.mode = .cooldown then aimedFan s.now s.cc fan (endCompensation s.mc.mode f) else endCompensation s.mc.mode f
  else if recovered fan then compensateRecovered s.mc.mode f else f

theorem recoveryConsequences_get (fan : Fan) : (recoveryConsequences recovered s).cc.fans.get fan
    = recoveredFan recovered s fan (s.cc.fans.get fan) := by
  unfold recoveryConsequences recoveredFan
  split
  · have hget : (mapFans s fun _ f => endCompensation s.mc.mode f).cc.fans.get fan
        = endCompensation s.mc.mode (s.cc.fans.get fan) := PerFan.get_make _ _
    have hmode : (mapFans s fun _ f => endCompensation s.mc.mode f).mc.mode = s.mc.mode := rfl
    dsimp only
    rw [hmode]
    split
    · rw [aimCooldown_get, hget]
      rfl
    · exact hget
  · exact PerFan.get_make _ _

theorem recoveryConsequences_light : (recoveryConsequences recovered s).cc.light = s.cc.light := by
  unfold recoveryConsequences
  split
  · dsimp only
    split <;> rfl
  · rfl

theorem recoveredFan_counts : SameCounts f (recoveredFan recovered s fan f) := by
  have hend := endCompensation_counts s.mc.mode f
  have haim : SameCounts (endCompensation s.mc.mode f) (aimedFan s.now s.cc fan (endCompensation s.mc.mode f)) :=
    ⟨rfl, rfl, rfl, rfl, rfl⟩
  unfold recoveredFan
  exact .ite (.ite (hend.trans haim) hend) (.ite (compensateRecovered_counts _ _) (.refl f))

theorem faultConsequences_does (s : State) :
    (∀ fan, (faultConsequences s).cc.fans.get fan = compensate s.mc.mode (s.cc.fans.get fan))
      ∧ (faultConsequences s).cc.light = min s.cc.light 60 ∧ (faultConsequences s).flagged .fanFault
      ∧ (60 < s.cc.light → (faultConsequences s).flagged .derate) := by
  have hfault : (occur .fanFault s).flagged .fanFault := flagged_occur_self _ _
  unfold faultConsequences
  have hcc := setLight_cc (min s.cc.light 60) (mapFans (occur .fanFault s) fun _ f => compensate s.mc.mode f)
  refine ⟨fun fan => ?_, congrArg Cooling.light hcc, ?_, fun hlight => ?_⟩
  · exact (congrArg (fun c : Cooling => c.fans.get fan) hcc).trans (PerFan.get_make _ _)
  · unfold setLight
    exact flagged_occurIf _ _ (flagged_of_au hfault rfl)
  · unfold setLight
    refine flagged_occurIf_self (.inr (decide_eq_true ?_))
    show min s.cc.light 60 ≠ s.cc.light
    omega

/-! ## The judgment of the three fans together (R125 to R127) -/

/-- The state after the judgments of a closing window, before what follows them. -/
def judged (s : State) : State := mapFans s fun _ f => judgeWindow f

theorem judged_get (fan : Fan) : (judged s).cc.fans.get fan = judgeWindow (s.cc.fans.get fan) := PerFan.get_make _ _

def newlyFaulted (s : State) (fan : Fan) : Bool := !(s.cc.fans.get fan).faulted && ((judged s).cc.fans.get fan).faulted

def newlyWhole (s : State) (fan : Fan) : Bool := (s.cc.fans.get fan).faulted && !((judged s).cc.fans.get fan).faulted

/-- The state after the consequences of the recoveries. -/
def recoveredState (s : State) : State :=
  if fans.any (newlyWhole s) then recoveryConsequences (newlyWhole s) (judged s) else judged s

/-- The state after the consequences of the faults, before the cap cut. -/
def spreadState (s : State) : State :=
  if fans.any (newlyFaulted s) then faultConsequences (recoveredState s) else recoveredState s

theorem judgeFans_eq (s : State) : judgeFans s = capCut (spreadState s) := rfl

theorem any_fans {p : Fan → Bool} : fans.any p = true ↔ ∃ fan, p fan = true := by
  rw [List.any_eq_true]
  constructor
  · rintro ⟨fan, -, h⟩
    exact ⟨fan, h⟩
  · rintro ⟨fan, h⟩
    exact ⟨fan, by cases fan <;> decide, h⟩

theorem cooled_recoveredState : Cooled s (recoveredState s) := by
  unfold recoveredState
  split
  · exact (cooled_mapFans _).trans (cooled_recoveryConsequences _)
  · exact cooled_mapFans _

theorem cooled_spreadState : Cooled s (spreadState s) := by
  unfold spreadState
  split
  · exact cooled_recoveredState.trans cooled_faultConsequences
  · exact cooled_recoveredState

/-- The state after the recoveries, fan by fan. -/
theorem recoveredState_get (fan : Fan) : (recoveredState s).cc.fans.get fan
    = if fans.any (newlyWhole s) then recoveredFan (newlyWhole s) (judged s) fan (judgeWindow (s.cc.fans.get fan))
      else judgeWindow (s.cc.fans.get fan) := by
  unfold recoveredState
  split
  · rw [recoveryConsequences_get, judged_get]
  · exact judged_get fan

theorem spreadState_get (fan : Fan) : (spreadState s).cc.fans.get fan
    = if fans.any (newlyFaulted s) then compensate s.mc.mode ((recoveredState s).cc.fans.get fan)
      else (recoveredState s).cc.fans.get fan := by
  have hmode : (recoveredState s).mc.mode = s.mc.mode := by
    obtain ⟨c, a, heq⟩ := cooled_recoveredState (s := s)
    rw [heq]
  unfold spreadState
  split
  · rw [(faultConsequences_does _).1, hmode]
  · rfl

theorem judgeFans_get (fan : Fan) : (judgeFans s).cc.fans.get fan
    = if s.mc.mode = .run then capped (capInForce s fan) ((spreadState s).cc.fans.get fan)
      else (spreadState s).cc.fans.get fan := by
  obtain ⟨c, a, heq⟩ := cooled_spreadState (s := s)
  have hmode : (spreadState s).mc.mode = s.mc.mode := by rw [heq]
  have hcap : capInForce (spreadState s) fan = capInForce s fan := by rw [heq]; rfl
  rw [judgeFans_eq]
  split
  · next h =>
    rw [capCut_run (hmode.trans h)]
    exact (PerFan.get_make _ _).trans (by rw [hcap])
  · next h => rw [capCut_not_run (by rw [hmode]; exact h)]

theorem judgeFans_counts (fan : Fan) :
    SameCounts (judgeWindow (s.cc.fans.get fan)) ((judgeFans s).cc.fans.get fan) := by
  have hrecovered : SameCounts (judgeWindow (s.cc.fans.get fan)) ((recoveredState s).cc.fans.get fan) := by
    rw [recoveredState_get]
    exact .ite recoveredFan_counts (.refl _)
  have hspread : SameCounts (judgeWindow (s.cc.fans.get fan)) ((spreadState s).cc.fans.get fan) := by
    rw [spreadState_get]
    exact .ite (hrecovered.trans (compensate_counts _ _)) hrecovered
  rw [judgeFans_get]
  exact .ite (hspread.trans (capped_counts _ _)) hspread

end Sys2Proof.Machine
end

section
-- One declaration at a time: many proofs that wait at once hold a thread each.
set_option Elab.async false
/-! A window closed in the mode in force: what spreads, and the fan trip (R124 to R127, R130). -/

namespace Sys2Proof.Machine

variable {s t u v : State} {fan bad good other : Fan} {f g x : FanRecord} {mode : Mode}

/-! ## The close of a window, step by step -/

/-- The state with the RPM of the closing window recorded (R124). -/
def rpmRecorded (s : State) : State := mapFans s fun _ f => recordRpm f

theorem rpmRecorded_get (fan : Fan) : (rpmRecorded s).cc.fans.get fan = recordRpm (s.cc.fans.get fan) := PerFan.get_make _ _

/-- The state with the window judged and the new one open, before a fan trip. -/
def closedWindow (s : State) : State := openWindows (windowClose s) (judgeClose (rpmRecorded s))

theorem closeWindow_eq (s : State) : closeWindow s
    = if fanTripBetween (rpmRecorded s).cc (closedWindow s).cc then tripCondition .fan 0 (closedWindow s)
      else closedWindow s := rfl

/-- The modes in which a window is judged. -/
def Judges (s : State) : Prop := s.mc.mode = .run ∨ s.mc.mode = .cooldown ∨ s.mc.mode = .trip

theorem judgeClose_active (h : Judges s) : judgeClose (rpmRecorded s) = judgeFans (rpmRecorded s) := by
  have hmode : (rpmRecorded s).mc.mode = s.mc.mode := rfl
  unfold judgeClose
  obtain h | h | h := h <;> rw [hmode, h]

/-- A fan's record after the judgment of its window alone. -/
def judgedFan (s : State) (fan : Fan) : FanRecord := judgeWindow (recordRpm (s.cc.fans.get fan))

theorem closedWindow_get (h : Judges s) (fan : Fan) : (closedWindow s).cc.fans.get fan
    = openWindow ((judgeFans (rpmRecorded s)).cc.fans.get fan) := by
  rw [closedWindow, judgeClose_active h]
  exact PerFan.get_make _ _

theorem cooled_closedWindow : Cooled s (closedWindow s) := by
  have hjudge (u : State) : Cooled u (judgeClose u) := by
    unfold judgeClose
    split
    case h_4 => exact cooled_mapFans _
    case h_5 => exact cooled_mapFans _
    all_goals exact cooled_judgeFans
  have hopen (u : State) : Cooled u (openWindows (windowClose s) u) := by
    unfold openWindows
    exact (cooled_mapFans _).trans (cooled_mapCc _)
  exact ((cooled_mapFans _).trans (hjudge _)).trans (hopen _)

theorem judgedFan_faulted (h : Judges s) (fan : Fan) :
    ((closedWindow s).cc.fans.get fan).faulted = (judgedFan s fan).faulted := by
  have hcounts := judgeFans_counts (s := rpmRecorded s) fan
  rw [rpmRecorded_get] at hcounts
  rw [closedWindow_get h]
  exact hcounts.faulted

theorem newlyFaulted_iff : newlyFaulted (rpmRecorded s) fan = true
    ↔ (s.cc.fans.get fan).faulted = false ∧ (judgedFan s fan).faulted = true := by
  rw [newlyFaulted, judged_get, rpmRecorded_get, Bool.and_eq_true, Bool.not_eq_true']
  rfl

theorem newlyWhole_iff : newlyWhole (rpmRecorded s) fan = true
    ↔ (s.cc.fans.get fan).faulted = true ∧ (judgedFan s fan).faulted = false := by
  rw [newlyWhole, judged_get, rpmRecorded_get, Bool.and_eq_true, Bool.not_eq_true']
  rfl

/-- A fan trip follows where a fan has become faulted while another is (R130). -/
theorem fanTripBetween_iff (h : Judges s) : fanTripBetween (rpmRecorded s).cc (closedWindow s).cc = true
    ↔ (∃ fan, (s.cc.fans.get fan).faulted = false ∧ (judgedFan s fan).faulted = true)
      ∧ 2 ≤ faultedFans (closedWindow s).cc := by
  rw [fanTripBetween, Bool.and_eq_true, decide_eq_true_eq, any_fans]
  simp only [Bool.and_eq_true, Bool.not_eq_true', judgedFan_faulted h, rpmRecorded_get]
  rfl

/-- Whether a window close makes a fan fault trip the part. -/
def Trips (s : State) : Prop := s.mc.mode ≠ .trip
  ∧ (∃ fan, (s.cc.fans.get fan).faulted = false ∧ (judgedFan s fan).faulted = true)
  ∧ 2 ≤ faultedFans (closedWindow s).cc

theorem closeWindow_cases (h : Judges s) : ¬Trips s ∧ closeWindow s = closedWindow s
    ∨ Trips s ∧ closeWindow s = enterTrip .fan 0 (closedWindow s) := by
  have hmode : (closedWindow s).mc.mode = s.mc.mode := by
    obtain ⟨c, a, heq⟩ := cooled_closedWindow (s := s)
    rw [heq]
  rw [closeWindow_eq]
  by_cases hbetween : fanTripBetween (rpmRecorded s).cc (closedWindow s).cc = true
  · rw [if_pos hbetween]
    by_cases htrip : s.mc.mode = .trip
    · exact .inl ⟨fun ht => ht.1 htrip, tripCondition_stays (.inr (hmode.trans htrip))⟩
    · refine .inr ⟨⟨htrip, (fanTripBetween_iff h).mp hbetween⟩, tripCondition_enters ?_⟩
      rw [hmode]
      exact h.imp_right fun h => .inr (h.resolve_right htrip)
  · rw [if_neg hbetween]
    exact .inl ⟨fun ht => hbetween ((fanTripBetween_iff h).mpr ht.2), rfl⟩

/-- A fan's record after the close, but for what the entry to TRIP makes of it. -/
theorem closeWindow_get (h : Judges s) (fan : Fan) : (closeWindow s).cc.fans.get fan = (closedWindow s).cc.fans.get fan
    ∨ (closeWindow s).cc.fans.get fan = fanOnTrip ((closedWindow s).cc.fans.get fan) := by
  obtain ⟨-, heq⟩ | ⟨-, heq⟩ := closeWindow_cases h
  · exact .inl (by rw [heq])
  · refine .inr ?_
    rw [heq, enterTrip_cc]
    exact PerFan.get_make _ _

theorem closeWindow_counts (h : Judges s) (fan : Fan) :
    ((closeWindow s).cc.fans.get fan).faulted = (judgedFan s fan).faulted
      ∧ ((closeWindow s).cc.fans.get fan).low = (judgedFan s fan).low
      ∧ ((closeWindow s).cc.fans.get fan).good = (judgedFan s fan).good
      ∧ ((closeWindow s).cc.fans.get fan).rpm = some ((s.cc.fans.get fan).pulses * 30)
      ∧ ((closeWindow s).cc.fans.get fan).pulses = 0 := by
  have hcounts := judgeFans_counts (s := rpmRecorded s) fan
  rw [rpmRecorded_get] at hcounts
  have hrpm : (judgeWindow (recordRpm (s.cc.fans.get fan))).rpm = some ((s.cc.fans.get fan).pulses * 30) := by
    obtain ⟨_, _, _, heq⟩ := judgeWindow_keeps (recordRpm (s.cc.fans.get fan))
    rw [heq]
    rfl
  have hclosed := closedWindow_get h fan
  obtain heq | heq := closeWindow_get h fan
  · rw [heq, hclosed]
    exact ⟨hcounts.faulted, hcounts.low, hcounts.good, hcounts.rpm.trans hrpm, rfl⟩
  · rw [heq, hclosed]
    exact ⟨hcounts.faulted, hcounts.low, hcounts.good, hcounts.rpm.trans hrpm, rfl⟩

theorem faultedFans_closeWindow (h : Judges s) : faultedFans (closeWindow s).cc = faultedFans (closedWindow s).cc :=
  faultedFans_congr fun fan => by rw [(closeWindow_counts h fan).1, judgedFan_faulted h]

/-- What the close does to the mode, besides a trip. -/
theorem closeWindow_mode (h : Judges s) : Trips s ∧ (closeWindow s).mc.mode = .trip
    ∨ ¬Trips s ∧ (closeWindow s).mc.mode = s.mc.mode := by
  obtain ⟨hnot, heq⟩ | ⟨htrips, heq⟩ := closeWindow_cases h
  · obtain ⟨c, a, hcooled⟩ := cooled_closedWindow (s := s)
    exact .inr ⟨hnot, by rw [heq, hcooled]⟩
  · refine .inl ⟨htrips, ?_⟩
    have htripped := tripped_enterTrip (cause := .fan) (atTrip := 0) (Onward.refl (closedWindow s))
    rw [heq, htripped.1]

theorem flagged_closeWindow {fl : Flag} (h : Judges s) (hf : (closedWindow s).flagged fl) : (closeWindow s).flagged fl := by
  obtain ⟨-, heq⟩ | ⟨-, heq⟩ := closeWindow_cases h
  · rw [heq]; exact hf
  · rw [heq]
    refine laws_afterTripEntry.flagged _ ?_
    have hmode : (setMode .trip true (closedWindow s)).flagged fl := flagged_occurIf _ _ (flagged_of_au hf rfl)
    exact flagged_of_au (flagged_occur .trip hmode) rfl

theorem closeWindow_light (h : Judges s) : (closeWindow s).cc.light = (closedWindow s).cc.light := by
  obtain ⟨-, heq⟩ | ⟨-, heq⟩ := closeWindow_cases h
  · rw [heq]
  · rw [heq, enterTrip_cc]

/-- A fan trip of a second faulted fan (R130, R168, log 40). -/
theorem tripped_closeWindow (h : Judges s) (htrips : Trips s) :
    Tripped ⟨.fan, 0, faultedFans (closeWindow s).cc, s.mc.mode⟩ s (closeWindow s) := by
  obtain ⟨hnot, -⟩ | ⟨-, heq⟩ := closeWindow_cases h
  · exact absurd htrips hnot
  · rw [faultedFans_closeWindow h, heq]
    refine tripped_enterTrip ?_
    obtain ⟨c, a, hcooled⟩ := cooled_closedWindow (s := s)
    rw [hcooled]
    exact (Onward.refl s).step ⟨rfl, rfl, rfl, rfl, rfl, rfl⟩ rfl rfl rfl id

/-! ## What a fault does to the others (R127) -/

theorem judgedFan_keeps (s : State) (fan : Fan) : (judgedFan s fan).duty = (s.cc.fans.get fan).duty
    ∧ (judgedFan s fan).target = (s.cc.fans.get fan).target ∧ (judgedFan s fan).failsafe = (s.cc.fans.get fan).failsafe
    ∧ (judgedFan s fan).demand = (s.cc.fans.get fan).demand ∧ (judgedFan s fan).override = (s.cc.fans.get fan).override := by
  obtain ⟨_, _, _, heq⟩ := judgeWindow_keeps (recordRpm (s.cc.fans.get fan))
  rw [judgedFan, heq]
  exact ⟨rfl, rfl, rfl, rfl, rfl⟩

theorem compensate_faulted (h : f.faulted = true) : (compensate mode f).compensating = false := by
  rw [compensate, if_pos h]

theorem compensate_whole (h : f.faulted = false) : (compensate mode f).compensating = true
    ∧ (mode = .cooldown ∨ mode = .run ∧ f.failsafe = false →
        (compensate mode f).duty = 100 ∧ (compensate mode f).target = 100)
    ∧ (¬(mode = .cooldown ∨ mode = .run ∧ f.failsafe = false) →
        (compensate mode f).duty = f.duty ∧ (compensate mode f).target = f.target) := by
  have hcond : (decide (mode = .cooldown) || (decide (mode = .run) && !f.failsafe)) = true
      ↔ mode = .cooldown ∨ mode = .run ∧ f.failsafe = false := by
    simp only [Bool.or_eq_true, Bool.and_eq_true, decide_eq_true_eq, Bool.not_eq_true']
  rw [compensate, if_neg (by rw [h]; nofun)]
  dsimp only
  by_cases hc : mode = .cooldown ∨ mode = .run ∧ f.failsafe = false
  · rw [if_pos (hcond.mpr hc)]
    exact ⟨rfl, fun _ => ⟨rfl, rfl⟩, fun hn => absurd hc hn⟩
  · rw [if_neg fun h => hc (hcond.mp h)]
    exact ⟨rfl, fun h => absurd h hc, fun _ => ⟨rfl, rfl⟩⟩

/-- A recovered fan while another is faulted (R127, log 20). -/
theorem compensateRecovered_does : (compensateRecovered mode f).compensating = true
    ∧ (compensateRecovered mode f).duty = f.duty ∧ (compensateRecovered mode f).failsafe = f.failsafe
    ∧ (mode ≠ .run ∨ f.failsafe = false → (compensateRecovered mode f).target = 100)
    ∧ (mode = .run → f.failsafe = true → (compensateRecovered mode f).target = f.target) := by
  have hcond : (decide (mode = .run) && f.failsafe) = true ↔ mode = .run ∧ f.failsafe = true := by
    simp only [Bool.and_eq_true, decide_eq_true_eq]
  unfold compensateRecovered
  by_cases hc : mode = .run ∧ f.failsafe = true
  · rw [if_pos (hcond.mpr hc)]
    refine ⟨rfl, rfl, rfl, fun hn => ?_, fun _ _ => rfl⟩
    obtain hn | hn := hn
    · exact absurd hc.1 hn
    · rw [hc.2] at hn
      cases hn
  · rw [if_neg fun h => hc (hcond.mp h)]
    exact ⟨rfl, rfl, rfl, fun _ => rfl, fun hm hf => absurd ⟨hm, hf⟩ hc⟩

theorem faultedFans_pos {c : Cooling} (h : (c.fans.get fan).faulted = true) : faultedFans c ≠ 0 := by
  intro hzero
  rw [faultedFans, List.length_eq_zero_iff, List.filter_eq_nil_iff] at hzero
  exact hzero (c.fans.get fan) (by cases fan <;> simp [PerFan.toList, PerFan.get]) h

theorem judged_zero_iff : faultedFans (judged (rpmRecorded s)).cc = 0 ↔ ∀ fan, (judgedFan s fan).faulted = false := by
  have hget (fan : Fan) : (judged (rpmRecorded s)).cc.fans.get fan = judgedFan s fan := by
    rw [judged_get, rpmRecorded_get]
    rfl
  constructor
  · intro hzero fan
    rw [Bool.eq_false_iff]
    exact fun hf => faultedFans_pos (fan := fan) (by rw [hget]; exact hf) hzero
  · exact fun hall => faultedFans_eq_zero fun fan => by rw [hget]; exact hall fan

/-- A fan after the recoveries while some fan is faulted: as its window left it, or compensating after its recovery. -/
theorem recoveredState_faulted (hsome : (judgedFan s bad).faulted = true) (fan : Fan) :
    (recoveredState (rpmRecorded s)).cc.fans.get fan = if newlyWhole (rpmRecorded s) fan
      then compensateRecovered s.mc.mode (judgedFan s fan) else judgedFan s fan := by
  have hnonzero : ¬faultedFans (judged (rpmRecorded s)).cc = 0 := fun hzero => by
    have := judged_zero_iff.mp hzero bad
    rw [hsome] at this
    cases this
  have hmode : (judged (rpmRecorded s)).mc.mode = s.mc.mode := rfl
  rw [recoveredState_get, rpmRecorded_get, recoveredFan, if_neg hnonzero, hmode]
  by_cases hwhole : newlyWhole (rpmRecorded s) fan = true
  · rw [if_pos (any_fans.mpr ⟨fan, hwhole⟩)]
    rfl
  · rw [if_neg hwhole, if_neg hwhole]
    exact ite_self _

end Sys2Proof.Machine
end

section
-- One declaration at a time: many proofs that wait at once hold a thread each.
set_option Elab.async false
/-! Tach windows, the fan check and the cooldown timer (R124 to R128, R130, R165, R167). -/

namespace Sys2Proof.Machine

variable {s t u v : State} {fan bad good other : Fan} {f g x : FanRecord} {mode : Mode}

/-! ## The fans, the light and the flags after a fault or a recovery -/

theorem capped_exempt {cap : Nat} (h : f.override = true ∨ f.compensating = true ∨ f.failsafe = true) :
    capped cap f = f := by
  rw [capped, if_pos (by simpa [or_assoc] using h)]

/-- A compensating fan keeps its record through the cap cut. -/
theorem judgeFans_compensating (h : ((spreadState s).cc.fans.get fan).compensating = true) :
    (judgeFans s).cc.fans.get fan = (spreadState s).cc.fans.get fan := by
  rw [judgeFans_get, capped_exempt (.inr (.inl h))]
  exact ite_self _

theorem spreadState_fault (hbad : (s.cc.fans.get bad).faulted = false) (hfault : (judgedFan s bad).faulted = true)
    (fan : Fan) : (spreadState (rpmRecorded s)).cc.fans.get fan = compensate s.mc.mode (if newlyWhole (rpmRecorded s) fan
      then compensateRecovered s.mc.mode (judgedFan s fan) else judgedFan s fan) := by
  have hmode : (rpmRecorded s).mc.mode = s.mc.mode := rfl
  rw [spreadState_get, if_pos (any_fans.mpr ⟨bad, newlyFaulted_iff.mpr ⟨hbad, hfault⟩⟩), recoveredState_faulted hfault, hmode]

/-- What a fan that is not faulted takes from another's fault (R127). -/
theorem judgeFans_fault (hbad : (s.cc.fans.get bad).faulted = false) (hfault : (judgedFan s bad).faulted = true)
    (hother : (judgedFan s other).faulted = false) :
    let f := s.cc.fans.get other
    let g := (judgeFans (rpmRecorded s)).cc.fans.get other
    g.compensating = true
    ∧ (s.mc.mode = .cooldown ∨ s.mc.mode = .run ∧ f.failsafe = false → g.duty = 100 ∧ g.target = 100)
    ∧ (s.mc.mode = .run → f.failsafe = true → g.duty = f.duty ∧ g.target = f.target)
    ∧ (s.mc.mode = .trip → g.duty = f.duty ∧ (f.target = 100 ∨ f.faulted = true → g.target = 100)) := by
  obtain ⟨hduty, htarget, hfailsafe, -, -⟩ := judgedFan_keeps s other
  obtain ⟨-, hrduty, hrfailsafe, hrtarget, hrsame⟩ :=
    compensateRecovered_does (mode := s.mc.mode) (f := judgedFan s other)
  have hspread := spreadState_fault hbad hfault other
  -- the record that the compensation finds
  have hx : ∃ x : FanRecord, (spreadState (rpmRecorded s)).cc.fans.get other = compensate s.mc.mode x
      ∧ x.faulted = false ∧ x.duty = (s.cc.fans.get other).duty ∧ x.failsafe = (s.cc.fans.get other).failsafe
      ∧ (s.mc.mode = .run → (s.cc.fans.get other).failsafe = true → x.target = (s.cc.fans.get other).target)
      ∧ (s.mc.mode = .trip → (s.cc.fans.get other).target = 100 ∨ (s.cc.fans.get other).faulted = true →
          x.target = 100) := by
    refine ⟨_, hspread, ?_⟩
    split
    · refine ⟨(compensateRecovered_counts _ _).faulted.trans hother, hrduty.trans hduty, hrfailsafe.trans hfailsafe,
        fun hm hf => (hrsame hm (hfailsafe.trans hf)).trans htarget, fun hm _ => hrtarget (.inl ?_)⟩
      rw [hm]
      nofun
    · next hnot =>
      refine ⟨hother, hduty, hfailsafe, fun _ _ => htarget, fun _ h => htarget.trans (h.resolve_right fun hf => ?_)⟩
      exact hnot (newlyWhole_iff.mpr ⟨hf, hother⟩)
  obtain ⟨x, hget, hfaulted, hxduty, hxfailsafe, hxrun, hxtrip⟩ := hx
  obtain ⟨hcomp, hraised, hkept⟩ := compensate_whole (mode := s.mc.mode) hfaulted
  intro f g
  have hg : g = compensate s.mc.mode x := by
    show (judgeFans (rpmRecorded s)).cc.fans.get other = _
    rw [judgeFans_compensating (by rw [hget]; exact hcomp), hget]
  rw [hg]
  refine ⟨hcomp, fun h => hraised (h.imp_right fun h => ⟨h.1, hxfailsafe.trans h.2⟩), fun hm hf => ?_, fun hm => ?_⟩
  · obtain ⟨hd, ht⟩ := hkept fun hc => by
      obtain hc | hc := hc
      · rw [hm] at hc; cases hc
      · rw [hxfailsafe] at hc
        exact Bool.false_ne_true (hc.2.symm.trans hf)
    exact ⟨hd.trans hxduty, ht.trans (hxrun hm hf)⟩
  · obtain ⟨hd, ht⟩ := hkept fun hc => by
      obtain hc | hc := hc
      · rw [hm] at hc; cases hc
      · rw [hm] at hc; cases hc.1
    exact ⟨hd.trans hxduty, fun h => ht.trans (hxtrip hm h)⟩

theorem recoveredState_light : (recoveredState s).cc.light = s.cc.light := by
  unfold recoveredState
  split
  · exact recoveryConsequences_light
  · rfl

theorem judgeFans_frame : (judgeFans s).cc.light = (spreadState s).cc.light ∧ (judgeFans s).au = (spreadState s).au := by
  rw [judgeFans_eq]
  unfold capCut
  split <;> exact ⟨rfl, rfl⟩

/-- The light limit and the flags of a window close that makes a fan faulted (R127). -/
theorem closedWindow_fault (h : Judges s) (hbad : (s.cc.fans.get bad).faulted = false)
    (hfault : (judgedFan s bad).faulted = true) : (closedWindow s).cc.light = min s.cc.light 60
      ∧ (closedWindow s).flagged .fanFault ∧ (60 < s.cc.light → (closedWindow s).flagged .derate) := by
  obtain ⟨hlight, hau⟩ := judgeFans_frame (s := rpmRecorded s)
  have hbefore : (recoveredState (rpmRecorded s)).cc.light = s.cc.light := recoveredState_light
  have hspread : spreadState (rpmRecorded s) = faultConsequences (recoveredState (rpmRecorded s)) :=
    if_pos (any_fans.mpr ⟨bad, newlyFaulted_iff.mpr ⟨hbad, hfault⟩⟩)
  obtain ⟨-, hmin, hflag, hderate⟩ := faultConsequences_does (recoveredState (rpmRecorded s))
  rw [← hspread] at hmin hflag hderate
  have hclosed : (closedWindow s).au = (judgeFans (rpmRecorded s)).au
      ∧ (closedWindow s).cc.light = (judgeFans (rpmRecorded s)).cc.light := by
    rw [closedWindow, judgeClose_active h]
    exact ⟨rfl, rfl⟩
  refine ⟨?_, flagged_of_au hflag (hclosed.1.trans hau), fun hl => flagged_of_au (hderate ?_) (hclosed.1.trans hau)⟩
  · rw [hclosed.2, hlight, hmin, hbefore]
  · rw [hbefore]
    exact hl

theorem judgeFans_bad (hbad : (s.cc.fans.get bad).faulted = false) (hfault : (judgedFan s bad).faulted = true) :
    ((judgeFans (rpmRecorded s)).cc.fans.get bad).compensating = false := by
  have hspread := spreadState_fault hbad hfault bad
  have hnot : ¬newlyWhole (rpmRecorded s) bad = true := fun h => by
    rw [newlyWhole_iff] at h
    exact Bool.false_ne_true (h.2.symm.trans hfault)
  rw [if_neg hnot] at hspread
  have hcomp : ((spreadState (rpmRecorded s)).cc.fans.get bad).compensating = false := by
    rw [hspread]
    exact compensate_faulted hfault
  rw [judgeFans_get]
  split
  · exact ((capped_faulted _ _).2.1).trans hcomp
  · exact hcomp

/-- A fault spreads over the other fans (R127). -/
theorem faultSpreads_closeWindow (h : Judges s) (hbad : (s.cc.fans.get bad).faulted = false)
    (hfault : (judgedFan s bad).faulted = true) : FaultSpreads bad s (closeWindow s) := by
  obtain ⟨hlight, hflag, hderate⟩ := closedWindow_fault h hbad hfault
  have hget (fan : Fan) : (closeWindow s).cc.fans.get fan = openWindow ((judgeFans (rpmRecorded s)).cc.fans.get fan)
      ∨ (closeWindow s).cc.fans.get fan = fanOnTrip (openWindow ((judgeFans (rpmRecorded s)).cc.fans.get fan)) := by
    rw [← closedWindow_get h]
    exact closeWindow_get h fan
  refine ⟨(closeWindow_light h).trans hlight, fun hl => flagged_closeWindow h (hderate hl), flagged_closeWindow h hflag, ?_,
    fun other hother => ?_⟩
  · obtain heq | heq := hget bad <;> rw [heq] <;> exact judgeFans_bad hbad hfault
  · rw [(closeWindow_counts h other).1] at hother
    obtain ⟨hcomp, hraised, hkept, htrip⟩ := judgeFans_fault hbad hfault hother
    have hcompensating : ((closeWindow s).cc.fans.get other).compensating = true := by
      obtain heq | heq := hget other <;> rw [heq] <;> exact hcomp
    obtain ⟨htrips, hmode⟩ | ⟨hnot, hmode⟩ := closeWindow_mode h
    · refine ⟨hcompensating, fun hc => ?_, fun hc => ?_, fun hc => absurd hc htrips.1⟩
      · rw [hmode] at hc
        rcases hc with hc | ⟨hc, -⟩ <;> cases hc
      · rw [hmode] at hc
        cases hc
    · have heq : (closeWindow s).cc.fans.get other = openWindow ((judgeFans (rpmRecorded s)).cc.fans.get other) := by
        obtain ⟨-, heq⟩ | ⟨htrips, -⟩ := closeWindow_cases h
        · rw [heq, closedWindow_get h]
        · exact absurd htrips hnot
      rw [hmode]
      refine ⟨hcompensating, ?_⟩
      rw [heq]
      exact ⟨hraised, hkept, fun hm => ⟨(htrip hm).1, fun ht => (htrip hm).2 (.inl ht)⟩⟩

end Sys2Proof.Machine
end

section
-- One declaration at a time: many proofs that wait at once hold a thread each.
set_option Elab.async false
/-! Recoveries, the fan check and the cooldown timer (R124, R126 to R128, R130, R165, R167). -/

namespace Sys2Proof.Machine

variable {s t u v : State} {fan bad good other : Fan} {f g x : FanRecord} {mode : Mode}

/-! ## Recoveries (R127) -/

theorem not_newly_of_whole (hall : ∀ fan, (judgedFan s fan).faulted = false) :
    ¬fans.any (newlyFaulted (rpmRecorded s)) = true := fun h => by
  obtain ⟨fan, hnew⟩ := any_fans.mp h
  rw [newlyFaulted_iff, hall fan] at hnew
  exact Bool.false_ne_true hnew.2

/-- A fan after a recovery that leaves no fan faulted, before the cap cut. -/
theorem spreadState_whole (hgood : (s.cc.fans.get good).faulted = true)
    (hall : ∀ fan, (judgedFan s fan).faulted = false) (fan : Fan) : (spreadState (rpmRecorded s)).cc.fans.get fan
      = if s.mc.mode = .cooldown then aimedFan s.now s.cc fan (endCompensation s.mc.mode (judgedFan s fan))
        else endCompensation s.mc.mode (judgedFan s fan) := by
  have hwhole : fans.any (newlyWhole (rpmRecorded s)) = true :=
    any_fans.mpr ⟨good, newlyWhole_iff.mpr ⟨hgood, hall good⟩⟩
  rw [spreadState_get, if_neg (not_newly_of_whole hall), recoveredState_get, if_pos hwhole, rpmRecorded_get, recoveredFan,
    if_pos (judged_zero_iff.mpr hall)]
  rfl

theorem endCompensation_does : (endCompensation mode f).compensating = false ∧ (endCompensation mode f).duty = f.duty
    ∧ (endCompensation mode f).demand = f.demand ∧ (endCompensation mode f).override = f.override
    ∧ (endCompensation mode f).failsafe = f.failsafe
    ∧ (endCompensation mode f).target = if mode = .run ∧ f.failsafe = false then f.demand else f.target := by
  have hcond : (decide (mode = .run) && !f.failsafe) = true ↔ mode = .run ∧ f.failsafe = false := by
    simp only [Bool.and_eq_true, decide_eq_true_eq, Bool.not_eq_true']
  unfold endCompensation
  dsimp only
  by_cases hc : mode = .run ∧ f.failsafe = false
  · rw [if_pos (hcond.mpr hc), if_pos hc]
    exact ⟨rfl, rfl, rfl, rfl, rfl, rfl⟩
  · rw [if_neg fun h => hc (hcond.mp h), if_neg hc]
    exact ⟨rfl, rfl, rfl, rfl, rfl, rfl⟩

theorem not_trips_of_whole (hall : ∀ fan, (judgedFan s fan).faulted = false) : ¬Trips s := by
  rintro ⟨-, ⟨fan, -, hf⟩, -⟩
  rw [hall fan] at hf
  cases hf

theorem AimedForCooldown.congr (h : AimedForCooldown fan s t)
    (hget : ∃ pulses dipped, u.cc.fans.get fan = { t.cc.fans.get fan with pulses := pulses, dipped := dipped }) :
    AimedForCooldown fan s u := by
  obtain ⟨p, d, hget⟩ := hget
  unfold AimedForCooldown at h ⊢
  rw [hget]
  exact h

/-- A recovery that leaves no fan faulted (R127; log 18, log 20). -/
theorem recoverySpreads_closeWindow (h : Judges s) (hgood : (s.cc.fans.get good).faulted = true)
    (hall : ∀ fan, (judgedFan s fan).faulted = false) : RecoverySpreads s (closeWindow s) := by
  obtain ⟨hlight, -⟩ := judgeFans_frame (s := rpmRecorded s)
  have hbefore : (spreadState (rpmRecorded s)).cc.light = s.cc.light := by
    rw [spreadState, if_neg (not_newly_of_whole hall)]
    exact recoveredState_light
  have hclosed : (closedWindow s).cc.light = (judgeFans (rpmRecorded s)).cc.light := by
    rw [closedWindow, judgeClose_active h]
    rfl
  have heq : closeWindow s = closedWindow s := by
    obtain ⟨-, heq⟩ | ⟨htrips, -⟩ := closeWindow_cases h
    · exact heq
    · exact absurd htrips (not_trips_of_whole hall)
  refine ⟨(closeWindow_light h).trans (by rw [hclosed, hlight, hbefore]), fun fan => ?_⟩
  obtain ⟨hduty, htarget, hfailsafe, hdemand, hoverride⟩ := judgedFan_keeps s fan
  obtain ⟨hecomp, heduty, hedemand, heover, hefail, hetarget⟩ := endCompensation_does (mode := s.mc.mode) (f := judgedFan s fan)
  have hspread := spreadState_whole hgood hall fan
  have hjudge := judgeFans_get (s := rpmRecorded s) fan
  have hmode : (rpmRecorded s).mc.mode = s.mc.mode := rfl
  have hcap : capInForce (rpmRecorded s) fan = capInForce s fan := rfl
  rw [hmode, hcap] at hjudge
  rw [heq, closedWindow_get h]
  by_cases hcool : s.mc.mode = .cooldown
  · have hnot : ¬s.mc.mode = .run := by rw [hcool]; nofun
    rw [if_neg hnot] at hjudge
    rw [if_pos hcool] at hspread
    rw [hjudge, hspread]
    refine ⟨hecomp, hedemand.trans hdemand, heover.trans hoverride, fun hn => absurd hcool hn, fun hn => absurd hn hnot,
      fun hn => absurd hn hnot, fun hn => absurd hn hnot, fun _ => ?_, fun hn => ?_⟩
    · have haimed : AimedForCooldown fan s (spreadState (rpmRecorded s)) := aimed_of_aimedFan hspread (heduty.trans hduty)
      refine haimed.congr ?_
      rw [closedWindow_get h, hjudge]
      exact ⟨0, _, rfl⟩
    · rw [hcool] at hn
      cases hn
  · rw [if_neg hcool] at hspread
    rw [hspread] at hjudge
    by_cases hrun : s.mc.mode = .run
    · rw [if_pos hrun] at hjudge
      obtain ⟨-, hcfail, hcdemand, hcduty, hctarget⟩ :=
        capped_eq (capInForce s fan) (endCompensation s.mc.mode (judgedFan s fan))
      obtain ⟨-, hccomp, hcover⟩ := capped_faulted (capInForce s fan) (endCompensation s.mc.mode (judgedFan s fan))
      rw [heover, hecomp, hefail, hoverride, hfailsafe, heduty, hduty] at hcduty
      rw [heover, hecomp, hefail, hoverride, hfailsafe, hetarget, hfailsafe, hdemand, htarget] at hctarget
      rw [hjudge]
      refine ⟨hccomp.trans hecomp, (hcdemand.trans hedemand).trans hdemand, (hcover.trans heover).trans hoverride,
        fun _ => (hcfail.trans hefail).trans hfailsafe, fun _ hf => ?_, fun _ hf ho => ?_, fun _ hf ho => ?_,
        fun hn => absurd hn hcool, fun hn => ?_⟩
      · refine ⟨hcduty.trans (if_pos (.inr (.inr hf))), hctarget.trans ((if_pos (.inr (.inr hf))).trans (if_neg ?_))⟩
        rintro ⟨-, hn⟩
        exact Bool.false_ne_true (hn.symm.trans hf)
      · exact ⟨hcduty.trans (if_pos (.inl ho)), hctarget.trans ((if_pos (.inl ho)).trans (if_pos ⟨hrun, hf⟩))⟩
      · have hnot : ¬((s.cc.fans.get fan).override = true ∨ false = true ∨ (s.cc.fans.get fan).failsafe = true) := by
          rw [ho, hf]
          decide
        refine ⟨hcduty.trans (if_neg hnot), hctarget.trans ((if_neg hnot).trans ?_)⟩
        rw [if_pos ⟨hrun, hf⟩]
      · rw [hrun] at hn
        cases hn
    · rw [if_neg hrun] at hjudge
      rw [hjudge]
      refine ⟨hecomp, hedemand.trans hdemand, heover.trans hoverride, fun _ => hefail.trans hfailsafe,
        fun hn => absurd hn hrun, fun hn => absurd hn hrun, fun hn => absurd hn hrun, fun hn => absurd hn hcool,
        fun _ => ⟨heduty.trans hduty, hetarget.trans ((if_neg fun hn => hrun hn.1).trans htarget)⟩⟩

/-- A recovery beside another faulted fan (R127, log 20). -/
theorem judgeFans_recovered (h : Judges s) (hgood : (s.cc.fans.get good).faulted = true)
    (hwhole : (judgedFan s good).faulted = false) (hother : (judgedFan s other).faulted = true) :
    let f := s.cc.fans.get good
    let g := (judgeFans (rpmRecorded s)).cc.fans.get good
    g.compensating = true ∧ (s.mc.mode ≠ .run ∨ f.failsafe = false → g.target = 100)
      ∧ (s.mc.mode = .run → f.failsafe = true → g.target = f.target) := by
  obtain ⟨-, htarget, hfailsafe, -, -⟩ := judgedFan_keeps s good
  obtain ⟨hrcomp, hrduty, hrfailsafe, hrtarget, hrsame⟩ := compensateRecovered_does (mode := s.mc.mode) (f := judgedFan s good)
  have hrecovered := recoveredState_faulted hother good
  rw [if_pos (newlyWhole_iff.mpr ⟨hgood, hwhole⟩)] at hrecovered
  have hspread := spreadState_get (s := rpmRecorded s) good
  rw [hrecovered] at hspread
  by_cases hnew : fans.any (newlyFaulted (rpmRecorded s)) = true
  · obtain ⟨bad, hbad⟩ := any_fans.mp hnew
    obtain ⟨hbad, hfault⟩ := newlyFaulted_iff.mp hbad
    obtain ⟨hcomp, hraised, hkept, htrip⟩ := judgeFans_fault hbad hfault hwhole
    refine ⟨hcomp, fun hc => ?_, fun hm hf => (hkept hm hf).2⟩
    by_cases hrun : s.mc.mode = .run
    · exact (hraised (.inr ⟨hrun, hc.resolve_left fun hn => hn hrun⟩)).2
    · obtain hm | hm := h.resolve_left hrun
      · exact (hraised (.inl hm)).2
      · exact (htrip hm).2 (.inr hgood)
  · rw [if_neg hnew] at hspread
    have hkeep := judgeFans_compensating (s := rpmRecorded s) (fan := good) (by rw [hspread]; exact hrcomp)
    intro f g
    have hg : g = compensateRecovered s.mc.mode (judgedFan s good) := hkeep.trans hspread
    rw [hg]
    exact ⟨hrcomp, fun hc => hrtarget (hc.imp_right hfailsafe.trans), fun hm hf =>
      (hrsame hm (hfailsafe.trans hf)).trans htarget⟩

theorem recovered_closeWindow (h : Judges s) (hgood : (s.cc.fans.get good).faulted = true)
    (hwhole : (judgedFan s good).faulted = false) (hother : (judgedFan s other).faulted = true) :
    ((closeWindow s).cc.fans.get good).compensating = true
      ∧ ((closeWindow s).mc.mode ≠ .run ∨ (s.cc.fans.get good).failsafe = false →
          ((closeWindow s).cc.fans.get good).target = 100)
      ∧ ((closeWindow s).mc.mode = .run → (s.cc.fans.get good).failsafe = true →
          ((closeWindow s).cc.fans.get good).target = (s.cc.fans.get good).target) := by
  obtain ⟨hcomp, hraised, hkept⟩ := judgeFans_recovered h hgood hwhole hother
  obtain ⟨htrips, hmode⟩ | ⟨hnot, hmode⟩ := closeWindow_mode h
  · obtain ⟨hn, -⟩ | ⟨-, heq⟩ := closeWindow_cases h
    · exact absurd htrips hn
    · have hget : (closeWindow s).cc.fans.get good
          = fanOnTrip (openWindow ((judgeFans (rpmRecorded s)).cc.fans.get good)) := by
        rw [heq, enterTrip_cc, ← closedWindow_get h]
        exact PerFan.get_make _ _
      rw [hmode, hget]
      exact ⟨hcomp, fun _ => rfl, fun hn => nomatch hn⟩
  · obtain ⟨-, heq⟩ | ⟨htrips, -⟩ := closeWindow_cases h
    · rw [hmode, heq, closedWindow_get h]
      exact ⟨hcomp, hraised, hkept⟩
    · exact absurd htrips hnot

/-! ## A window in STANDBY and STARTING (R124, log 29) -/

/-- A window that is only recorded. -/
def unjudgedFan (f : FanRecord) : FanRecord := { f with
  rpm := some (f.pulses * 30), pulses := 0, dipped := decide (f.duty < 30)
  low := if f.dipped then 0 else f.low, good := if f.dipped then 0 else f.good }

theorem openWindow_spoilCounts (f : FanRecord) : openWindow (spoilCounts (recordRpm f)) = unjudgedFan f := by
  unfold openWindow spoilCounts recordRpm unjudgedFan
  cases f.dipped <;> rfl

theorem closeWindow_unjudged (h : s.mc.mode = .standby ∨ s.mc.mode = .starting) : closeWindow s = { s with
    cc := { s.cc with windowStart := windowClose s, fans := .make fun fan => unjudgedFan (s.cc.fans.get fan) } } := by
  have hjudge : judgeClose (rpmRecorded s) = mapFans (rpmRecorded s) fun _ f => spoilCounts f := by
    have hmode : (rpmRecorded s).mc.mode = s.mc.mode := rfl
    unfold judgeClose
    obtain h | h := h <;> rw [hmode, h]
  have hclosed : closedWindow s = { s with
      cc := { s.cc with windowStart := windowClose s, fans := .make fun fan => unjudgedFan (s.cc.fans.get fan) } } := by
    rw [closedWindow, hjudge]
    unfold openWindows rpmRecorded mapFans State.mapCc
    simp only [PerFan.get_make, openWindow_spoilCounts]
  have hnone : fanTripBetween (rpmRecorded s).cc (closedWindow s).cc = false := by
    rw [Bool.eq_false_iff, fanTripBetween, Ne, Bool.and_eq_true, any_fans, hclosed]
    rintro ⟨⟨fan, hf⟩, -⟩
    simp only [PerFan.get_make, rpmRecorded_get, Bool.and_eq_true, Bool.not_eq_true'] at hf
    exact Bool.false_ne_true (hf.1.symm.trans hf.2)
  rw [closeWindow_eq, hnone, hclosed]
  rfl

/-! ## The fan check (R128, R165) -/

/-- The number of fans that fail the fan check. -/
def failing (s : State) : Nat := (s.cc.fans.toList.filter failsCheck).length

/-- The fans judged at the expiry of the fan check, and the new windows open. -/
def fansChecked (s : State) : State :=
  (mapFans (s.mapMc fun m => { m with fanCheck := none }) fun _ f => checkFan f).mapCc fun c =>
    { c with windowStart := some s.now }

/-- Besides, the consequences of the faults (R127, R128). -/
def checkSpread (s : State) : State := if failing s = 0 then fansChecked s else faultConsequences (fansChecked s)

theorem endFanCheck_eq (s : State) : endFanCheck s
    = if 2 ≤ failing s then tripCondition .fan 0 (checkSpread s) else enterRun (checkSpread s) := rfl

theorem fansChecked_get (fan : Fan) : (fansChecked s).cc.fans.get fan = checkFan (s.cc.fans.get fan) := PerFan.get_make _ _

theorem checkSpread_get (fan : Fan) : (checkSpread s).cc.fans.get fan
    = if failing s = 0 then checkFan (s.cc.fans.get fan) else compensate s.mc.mode (checkFan (s.cc.fans.get fan)) := by
  unfold checkSpread
  split
  · exact fansChecked_get fan
  · rw [(faultConsequences_does _).1, fansChecked_get]
    rfl

theorem checkSpread_counts (fan : Fan) : ((checkSpread s).cc.fans.get fan).faulted = failsCheck (s.cc.fans.get fan)
    ∧ ((checkSpread s).cc.fans.get fan).rpm = some ((s.cc.fans.get fan).pulses * 30) := by
  have hcounts : SameCounts (checkFan (s.cc.fans.get fan)) ((checkSpread s).cc.fans.get fan) := by
    rw [checkSpread_get]
    exact .ite (.refl _) (compensate_counts _ _)
  exact ⟨hcounts.faulted, hcounts.rpm⟩

theorem faultedFans_eq_failing {c : Cooling} (h : ∀ fan, (c.fans.get fan).faulted = failsCheck (s.cc.fans.get fan)) :
    faultedFans c = failing s := by
  have h0 : c.fans.f0.faulted = failsCheck s.cc.fans.f0 := h .f0
  have h1 : c.fans.f1.faulted = failsCheck s.cc.fans.f1 := h .f1
  have h2 : c.fans.f2.faulted = failsCheck s.cc.fans.f2 := h .f2
  simp only [faultedFans, failing, PerFan.toList, List.filter_cons, List.filter_nil, h0, h1, h2]
  split <;> split <;> split <;> rfl

theorem checkSpread_frame : Outer s (checkSpread s) ∧ (checkSpread s).mc = { s.mc with fanCheck := none }
    ∧ Onward (s.mapMc fun m => { m with fanCheck := none }) (checkSpread s)
    ∧ (failing s ≠ 0 → (checkSpread s).flagged .fanFault ∧ (checkSpread s).cc.light ≤ 60) := by
  have hcooled : Cooled (s.mapMc fun m => { m with fanCheck := none }) (checkSpread s) := by
    have hfans : Cooled (s.mapMc fun m => { m with fanCheck := none }) (fansChecked s) :=
      (cooled_mapFans _).trans (cooled_mapCc _)
    unfold checkSpread
    split
    · exact hfans
    · exact hfans.trans cooled_faultConsequences
  have hfault (h : failing s ≠ 0) : (checkSpread s).flagged .fanFault ∧ (checkSpread s).cc.light ≤ 60 := by
    obtain ⟨-, hlight, hflag, -⟩ := faultConsequences_does (fansChecked s)
    rw [checkSpread, if_neg h]
    exact ⟨hflag, hlight ▸ min_le_right _ _⟩
  obtain ⟨c, a, heq⟩ := hcooled
  refine ⟨?_, ?_, ?_, hfault⟩
  · rw [heq]; exact ⟨rfl, rfl, rfl, rfl, rfl, rfl⟩
  · rw [heq]; rfl
  · rw [heq]; exact (Onward.refl _).step ⟨rfl, rfl, rfl, rfl, rfl, rfl⟩ rfl rfl rfl id

/-- The entry to RUN (R123, R165). -/
theorem enterRun_does (s : State) : (enterRun s).mc.mode = .run ∧ (enterRun s).mc.lightPermit = true
    ∧ (enterRun s).mc.thermTrip = false ∧ (enterRun s).mc.fanCheck = none ∧ (enterRun s).cc.light = s.cc.light
    ∧ (∀ fan, (enterRun s).cc.fans.get fan = capped (capInForce s fan) (fanOnRun (s.cc.fans.get fan)))
    ∧ ∀ fl, s.flagged fl → (enterRun s).flagged fl := by
  have hflag (fl : Flag) (h : s.flagged fl) : (setMode .run true s).flagged fl := flagged_occurIf _ _ (flagged_of_au h rfl)
  have hmode : (mapFans ((setMode .run true s).mapMc fun m => { m with fanCheck := none }) fun _ f => fanOnRun f).mc.mode
      = .run := by
    rw [setMode_eq]
    rfl
  have heq : enterRun s
      = capCut (mapFans ((setMode .run true s).mapMc fun m => { m with fanCheck := none }) fun _ f => fanOnRun f) := rfl
  rw [heq, capCut_run hmode]
  refine ⟨hmode, ?_, ?_, rfl, ?_, fun fan => ?_, fun fl h => flagged_of_au (hflag fl h) rfl⟩
  · show (setMode .run true s).mc.lightPermit = true
    rw [setMode_eq]
    rfl
  · show (setMode .run true s).mc.thermTrip = false
    rw [setMode_eq]
    rfl
  · show (setMode .run true s).cc.light = s.cc.light
    rw [setMode_eq]
  · rw [setMode_eq]
    simp only [mapFans, State.mapCc, State.mapMc, PerFan.get_make]
    rfl

theorem fanOnRun_counts (f : FanRecord) : SameCounts f (fanOnRun f) := by
  unfold fanOnRun
  split <;> exact ⟨rfl, rfl, rfl, rfl, rfl⟩

theorem fanOnRun_compensating (h : f.compensating = true) : (fanOnRun f).compensating = true ∧ (fanOnRun f).duty = 100 := by
  unfold fanOnRun
  rw [if_pos h]
  exact ⟨h, rfl⟩

end Sys2Proof.Machine
end

section
-- One declaration at a time: many proofs that wait at once hold a thread each.
set_option Elab.async false
/-! TACH_WINDOW_CLOSE, FAN_CHECK_EXPIRY and COOLDOWN_TIMER_EXPIRY (R124 to R128, R130, R165, R167). -/

namespace Sys2Proof.Machine

variable {s t u v : State} {fan bad good : Fan} {f : FanRecord} {w e : Time}

theorem tachWindow_eq : tachWindow = 1000000 := by decide

theorem windowClose_eq (hw : s.cc.windowStart = some w) : windowClose s = some (w + 1000000) := by
  rw [windowClose, hw, tachWindow_eq]
  rfl

theorem exec_tachWindowClose (hheld : s.held = false) (hw : s.cc.windowStart = some w) (hdue : w + 1000000 ≤ s.now)
    (hcheck : ∀ e, s.mc.fanCheck = some e → w + 1000000 < e) : exec .tachWindowClose s = .next (closeWindow s) := by
  have hnot : checkWindow s = false := by
    rw [checkWindow, windowClose_eq hw, Bool.eq_false_iff, Ne, Option.any_eq_true]
    rintro ⟨e, he, hle⟩
    exact absurd (of_decide_eq_true hle) (Nat.not_le.mpr (hcheck e he))
  rw [exec, execTachWindowClose, event_of_due hheld]
  rw [hnot, windowClose_eq hw, Bool.and_eq_true]
  exact ⟨decide_eq_true hdue, rfl⟩

theorem outer_closeWindow : Outer s (closeWindow s) := by
  have hclosed : Outer s (closedWindow s) := by
    obtain ⟨c, a, heq⟩ := cooled_closedWindow (s := s)
    rw [heq]
    exact ⟨rfl, rfl, rfl, rfl, rfl, rfl⟩
  rw [closeWindow_eq]
  exact .ite (hclosed.trans (outer_tripCondition _ _)) hclosed

theorem closeWindow_start : (closeWindow s).cc.windowStart = windowClose s := by
  have hclosed : (closedWindow s).cc.windowStart = windowClose s := rfl
  rw [closeWindow_eq]
  split
  · obtain ⟨f, hcc⟩ := tripCondition_cc (cause := .fan) (atTrip := 0) (s := closedWindow s)
    rw [hcc]
    exact hclosed
  · exact hclosed

theorem closeWindow_recorded (fan : Fan) :
    ((closeWindow s).cc.fans.get fan).rpm = some ((s.cc.fans.get fan).pulses * 30)
      ∧ ((closeWindow s).cc.fans.get fan).pulses = 0 := by
  cases hmode : s.mc.mode with
  | standby =>
    rw [closeWindow_unjudged (.inl hmode)]
    simp only [PerFan.get_make]
    exact ⟨rfl, rfl⟩
  | starting =>
    rw [closeWindow_unjudged (.inr hmode)]
    simp only [PerFan.get_make]
    exact ⟨rfl, rfl⟩
  | run => exact (closeWindow_counts (.inl hmode) fan).2.2.2
  | cooldown => exact (closeWindow_counts (.inr (.inl hmode)) fan).2.2.2
  | trip => exact (closeWindow_counts (.inr (.inr hmode)) fan).2.2.2

/-- The close without a new fault or a second one leaves everything but Cooling and the flags. -/
theorem closeWindow_quiet (h : Judges s) (hnot : ¬Trips s) : (closeWindow s).mc = s.mc ∧ (closeWindow s).lens = s.lens
    ∧ (closeWindow s).mq = s.mq ∧ (closeWindow s).setup = s.setup ∧ (closeWindow s).scan = s.scan := by
  obtain ⟨-, heq⟩ | ⟨htrips, -⟩ := closeWindow_cases h
  · obtain ⟨c, a, hcooled⟩ := cooled_closedWindow (s := s)
    rw [heq, hcooled]
    exact ⟨rfl, rfl, rfl, rfl, rfl⟩
  · exact absurd htrips hnot

theorem endFanCheck_fans (hmode : s.mc.mode = .starting) (fan : Fan) :
    ((endFanCheck s).cc.fans.get fan).faulted = failsCheck (s.cc.fans.get fan)
      ∧ ((endFanCheck s).cc.fans.get fan).rpm = some ((s.cc.fans.get fan).pulses * 30) := by
  obtain ⟨hfaulted, hrpm⟩ := checkSpread_counts (s := s) fan
  obtain ⟨-, hmc, -⟩ := checkSpread_frame (s := s)
  rw [endFanCheck_eq]
  split
  · rw [tripCondition_enters (.inr (.inl (by rw [hmc]; exact hmode))), enterTrip_cc]
    dsimp only
    rw [PerFan.get_make]
    exact ⟨hfaulted, hrpm⟩
  · obtain ⟨-, -, -, -, -, hfans, -⟩ := enterRun_does (checkSpread s)
    have hcounts := (fanOnRun_counts ((checkSpread s).cc.fans.get fan)).trans
      (capped_counts (capInForce (checkSpread s) fan) _)
    rw [hfans]
    exact ⟨hcounts.faulted.trans hfaulted, hcounts.rpm.trans hrpm⟩

/-- Two or three failing fans trip the part (R128, R130, R168, log 40). -/
theorem tripped_endFanCheck (hmode : s.mc.mode = .starting) (hfail : 2 ≤ failing s) :
    Tripped ⟨.fan, 0, failing s, .starting⟩ s (endFanCheck s) := by
  obtain ⟨-, hmc, honward, -⟩ := checkSpread_frame (s := s)
  have h := tripped_enterTrip (cause := .fan) (atTrip := 0) honward
  rw [faultedFans_eq_failing fun fan => (checkSpread_counts fan).1] at h
  rw [endFanCheck_eq, if_pos hfail, tripCondition_enters (.inr (.inl (by rw [hmc]; exact hmode))), ← hmode]
  exact h

theorem flagged_endFanCheck (hmode : s.mc.mode = .starting) (hfail : failing s ≠ 0) : (endFanCheck s).flagged .fanFault := by
  obtain ⟨-, hmc, -, hfault⟩ := checkSpread_frame (s := s)
  obtain ⟨hflag, -⟩ := hfault hfail
  rw [endFanCheck_eq]
  split
  · rw [tripCondition_enters (.inr (.inl (by rw [hmc]; exact hmode)))]
    refine laws_afterTripEntry.flagged _ ?_
    have hset : (setMode .trip true (checkSpread s)).flagged .fanFault := flagged_occurIf _ _ (flagged_of_au hflag rfl)
    exact flagged_of_au (flagged_occur .trip hset) rfl
  · exact (enterRun_does (checkSpread s)).2.2.2.2.2.2 _ hflag

theorem outer_endFanCheck : Outer s (endFanCheck s) := by
  rw [endFanCheck_eq]
  exact .ite (checkSpread_frame.1.trans (outer_tripCondition _ _)) (checkSpread_frame.1.trans outer_enterRun)

/-- Fewer than two failing fans let RUN begin (R128, R165). -/
theorem endFanCheck_run (hfail : failing s ≤ 1) : (endFanCheck s).mc.mode = .run
    ∧ (endFanCheck s).mc.lightPermit = true ∧ (endFanCheck s).mc.thermTrip = false
    ∧ (endFanCheck s).mc.fanCheck = none
    ∧ (failing s = 1 → (endFanCheck s).cc.light ≤ 60 ∧ ∀ fan, ((endFanCheck s).cc.fans.get fan).faulted = false →
        ((endFanCheck s).cc.fans.get fan).duty = 100) := by
  obtain ⟨-, -, -, hfault⟩ := checkSpread_frame (s := s)
  obtain ⟨hmode, hpermit, htherm, hcheck, hlight, hfans, -⟩ := enterRun_does (checkSpread s)
  rw [endFanCheck_eq, if_neg (by omega)]
  refine ⟨hmode, hpermit, htherm, hcheck, fun hone => ⟨hlight ▸ (hfault (by omega)).2, fun fan hwhole => ?_⟩⟩
  rw [hfans] at hwhole ⊢
  have hspread := checkSpread_get (s := s) fan
  rw [if_neg (by omega)] at hspread
  have hcounts := (fanOnRun_counts ((checkSpread s).cc.fans.get fan)).trans (capped_counts (capInForce (checkSpread s) fan) _)
  have hcheckWhole : (checkFan (s.cc.fans.get fan)).faulted = false := by
    have h := (hcounts.faulted.symm.trans hwhole)
    rw [hspread, (compensate_counts _ _).faulted] at h
    exact h
  have hcomp : ((checkSpread s).cc.fans.get fan).compensating = true := by
    rw [hspread]
    exact (compensate_whole hcheckWhole).1
  obtain ⟨hrun, hduty⟩ := fanOnRun_compensating hcomp
  rw [capped_exempt (.inr (.inl hrun))]
  exact hduty

theorem exec_fanCheckExpiry (hheld : s.held = false) (hmode : s.mc.mode = .starting) (he : s.mc.fanCheck = some e)
    (hdue : e ≤ s.now) : exec .fanCheckExpiry s = .next (endFanCheck s) := by
  rw [exec, execFanCheckExpiry, event_of_due hheld]
  rw [hmode, he]
  exact decide_eq_true hdue

theorem exec_cooldownTimerExpiry (hheld : s.held = false) (hmode : s.mc.mode = .cooldown) (he : s.mc.cooldown = some e)
    (hdue : e ≤ s.now) : exec .cooldownTimerExpiry s
      = .next (judgeCooldown true (s.mapMc fun m => { m with cooldown := none, thermalDone := true })) := by
  rw [exec, execCooldownTimerExpiry, event_of_due hheld]
  rw [hmode, he]
  exact decide_eq_true hdue

theorem judges_or (s : State) : Judges s ∨ s.mc.mode = .standby ∨ s.mc.mode = .starting := by
  unfold Judges
  cases s.mc.mode <;> decide

/-- A fan that recovers does so in a mode in which windows are judged. -/
theorem judges_of_whole (hgood : (s.cc.fans.get good).faulted = true)
    (hwhole : ((closeWindow s).cc.fans.get good).faulted = false) : Judges s := by
  refine (judges_or s).resolve_right fun hmode => ?_
  rw [closeWindow_unjudged hmode] at hwhole
  simp only [PerFan.get_make] at hwhole
  exact Bool.false_ne_true (hwhole.symm.trans hgood)

/-- Settles O57: the windows fan by fan, the fan check, and the end of the cooldown that the timer completes. -/
theorem windowsAndModeTimers : Obligations.WindowsAndModeTimers := by
  intro s hheld
  refine ⟨fun w hw hdue hcheck => ?window, fun e hmode he hdue => ?check, fun e hmode he hdue => ?timer⟩
  case window =>
    refine ⟨closeWindow s, exec_tachWindowClose hheld hw hdue hcheck, sameOuter_of_outer outer_closeWindow,
      closeWindow_start.trans (windowClose_eq hw), fun fan => ⟨(closeWindow_recorded fan).1, (closeWindow_recorded fan).2,
        fun hjudges => ?judged⟩, fun hmode => ?unjudged, fun bad hjudges hbad hfault => ?fault, fun hquiet => ?quiet,
      fun good hgood hall => ?recovery, fun good other hgood hwhole hother => ?beside⟩
    case judged =>
      obtain ⟨hfaulted, hlow, hgood, -⟩ := closeWindow_counts (s := s) hjudges fan
      rw [hfaulted, hlow, hgood]
      refine ⟨fun hwhole => ?_, fun hfault => ?_, ?_⟩
      · obtain ⟨hiff, hcount, -, -⟩ := judgeWindow_whole (f := recordRpm (s.cc.fans.get fan)) hwhole
        exact ⟨hiff, fun hf => (faultSpreads_closeWindow hjudges hwhole hf).2.2.1, hcount⟩
      · obtain ⟨hiff, hcount, -, -⟩ := judgeWindow_faulted (f := recordRpm (s.cc.fans.get fan)) hfault
        exact ⟨hiff, hcount⟩
      · cases hf : (s.cc.fans.get fan).faulted with
        | false =>
          obtain ⟨-, -, hzero, hlow0⟩ := judgeWindow_whole (f := recordRpm (s.cc.fans.get fan)) hf
          exact ⟨hlow0, fun _ => hzero, fun hne => ⟨hlow0 (Bool.eq_true_of_not_eq_false hne), hzero⟩⟩
        | true =>
          obtain ⟨-, -, hzero, hgood0⟩ := judgeWindow_faulted (f := recordRpm (s.cc.fans.get fan)) hf
          exact ⟨fun _ => hzero, hgood0, fun hne => ⟨hzero, hgood0 (Bool.eq_false_of_not_eq_true hne)⟩⟩
    case unjudged =>
      rw [closeWindow_unjudged hmode, windowClose_eq hw]
      rfl
    case fault =>
      rw [(closeWindow_counts hjudges bad).1] at hfault
      refine ⟨faultSpreads_closeWindow hjudges hbad hfault, fun htwo htrip => tripped_closeWindow hjudges ⟨htrip, ?_, ?_⟩⟩
      · exact ⟨bad, hbad, hfault⟩
      · rw [← faultedFans_closeWindow hjudges]
        exact htwo
    case quiet =>
      obtain hjudges | hmode := judges_or s
      · refine closeWindow_quiet hjudges ?_
        rintro ⟨htrip, ⟨bad, hbad, hfault⟩, htwo⟩
        obtain hnone | hfew | h := hquiet
        · have hwhole := hnone bad hbad
          rw [(closeWindow_counts hjudges bad).1, hfault] at hwhole
          cases hwhole
        · rw [faultedFans_closeWindow hjudges] at hfew
          exact absurd htwo (Nat.not_le.mpr hfew)
        · exact htrip h
      · rw [closeWindow_unjudged hmode]
        exact ⟨rfl, rfl, rfl, rfl, rfl⟩
    case recovery =>
      have hjudges := judges_of_whole hgood (hall good)
      exact recoverySpreads_closeWindow hjudges hgood fun fan =>
        (closeWindow_counts hjudges fan).1.symm.trans (hall fan)
    case beside =>
      have hjudges := judges_of_whole hgood hwhole
      rw [(closeWindow_counts hjudges _).1] at hwhole hother
      exact recovered_closeWindow hjudges hgood hwhole hother
  case check =>
    intro failing
    have hfailing : Machine.failing s = failing := rfl
    refine ⟨endFanCheck s, exec_fanCheckExpiry hheld hmode he hdue, sameOuter_of_outer outer_endFanCheck, ?fanCheck,
      fun fan => endFanCheck_fans hmode fan, fun hfew => ?run, fun hone => (endFanCheck_run hone.le).2.2.2.2 hone,
      fun htwo => tripped_endFanCheck hmode htwo, fun hsome => flagged_endFanCheck hmode (Nat.one_le_iff_ne_zero.mp hsome)⟩
    case fanCheck =>
      by_cases hfew : failing ≤ 1
      · exact (endFanCheck_run hfew).2.2.2.1
      · rw [(tripped_endFanCheck hmode (Nat.not_le.mp hfew)).1]
    case run =>
      obtain ⟨hrun, hpermit, htherm, -⟩ := endFanCheck_run (s := s) hfew
      exact ⟨hrun, hpermit, htherm⟩
  case timer =>
    have houter : Outer s (s.mapMc fun m => { m with cooldown := none, thermalDone := true }) := outer_mapMc _
    refine ⟨_, exec_cooldownTimerExpiry hheld hmode he hdue, sameOuter_of_outer (houter.trans (outer_judgeCooldown _)),
      ?done, fun hrest => ?ends, fun hmoves => ?stays⟩
    case done =>
      unfold judgeCooldown
      split
      · next hc => rw [enterStandby_nil true (lensAtRest_iff.mp (Bool.and_eq_true_iff.mp hc).2).2]; rfl
      · rfl
    case ends =>
      rw [judgeCooldown_ends (s := s.mapMc fun m => { m with cooldown := none, thermalDone := true }) ⟨hmode, rfl, hrest⟩]
      exact cooledDown_enterStandby rfl rfl hmode rfl (fun _ => ⟨rfl, rfl, rfl⟩) houter hrest
    case stays =>
      refine judgeCooldown_stays fun hc => ?_
      have hrest : s.lensAtRest = true := hc.2.2
      rw [hmoves] at hrest
      cases hrest

end Sys2Proof.Machine
end

section
-- One declaration at a time: many proofs that wait at once hold a thread each.
set_option Elab.async false
/-! The axes of a recall, each cleared and given its RECALL entry in turn (R28, R92). -/

namespace Sys2Proof.Machine

variable {s t u v : State} {ax b : Axis} {m : Motion} {e : Entry} {st : Motion → EndStatus} {rm status : EndStatus}
  {r : Placement} {tag target : Nat} {rec : AxisRecord}

/-! ## The tag and the focus choice stay (R22, R108) -/

/-- The recall tag and the focus choice are the same. -/
structure Chosen (s t : State) : Prop where
  tag : t.setup.tag = s.setup.tag
  focusOn : t.setup.focusOn = s.setup.focusOn

theorem Chosen.refl (s : State) : Chosen s s := ⟨rfl, rfl⟩

theorem Chosen.trans (h : Chosen s t) (k : Chosen t u) : Chosen s u := ⟨k.tag.trans h.tag, k.focusOn.trans h.focusOn⟩

theorem chosen_of_setup (h : t.setup = s.setup) : Chosen s t := ⟨by rw [h], by rw [h]⟩

theorem chosen_endRecall (o : RecallOutcome) (flagged : Bool) : Chosen s (endRecall o flagged s) := by
  rw [endRecall_eq]
  exact ⟨rfl, rfl⟩

theorem chosen_recordRecall : Chosen s (recordRecall ax tag status s) := by
  have hphase (rc : Recall) (u : State) : Chosen u (axisPhaseEnd rc u) := by
    unfold axisPhaseEnd
    dsimp only
    split
    · exact .trans (t := u.mapSetup _) ⟨rfl, rfl⟩ (chosen_endRecall _ _)
    · exact ⟨rfl, rfl⟩
  unfold recordRecall
  split
  · exact .refl s
  · dsimp only
    split
    · split
      · exact .trans (t := s.mapSetup _) ⟨rfl, rfl⟩ (hphase _ _)
      · exact ⟨rfl, rfl⟩
    · exact .refl s

theorem Carried.chosen (h : Carried s t) : Chosen s t := ⟨by rw [h.setup], by rw [h.setup]⟩

theorem SetupStays.chosen (h : SetupStays s t) : Chosen s t := by
  have hsetup := h.setup
  generalize t.setup.tref = x at hsetup
  exact ⟨by rw [hsetup], by rw [hsetup]⟩

theorem chosen_setupEnd {cal : Option Calibration} {job : Job} : Chosen s (setupEnd ax cal job status s) := by
  cases job with
  | jog up d =>
    obtain ⟨base, heq, -⟩ := setupEnd_jog (ax := ax) (st := status) (up := up) (d := d) (s := s) cal
    rw [heq]
    exact ⟨rfl, rfl⟩
  | ofRecall _ tag => exact chosen_recordRecall
  | move _ => exact .refl s
  | trim _ => exact .refl s
  | park _ => exact .refl s
  | learn => exact .refl s

theorem chosen_endMotion : Chosen s (endMotion ax status s) := by
  cases hm : (s.lens.get ax).motion with
  | none => rw [endMotion_none hm]; exact .refl s
  | some m =>
    have hended : Chosen s (endedState ax m status s) := ⟨rfl, rfl⟩
    exact hended.trans (chosen_setupEnd.trans (endMotion_stays hm).chosen)

theorem chosen_requestEnd : Chosen s (requestEnd ax st s) := by
  unfold requestEnd
  split
  · exact .refl s
  · unfold applyFate
    split
    · exact ⟨rfl, rfl⟩
    · exact chosen_endMotion

theorem chosen_removeEntry : Chosen s (removeEntry ax status s) := by
  unfold removeEntry
  split
  · exact .refl s
  · unfold handRemoved
    split
    · exact .trans (t := s.mapMq _) ⟨rfl, rfl⟩ chosen_recordRecall
    all_goals exact ⟨rfl, rfl⟩

theorem chosen_clearAxis (hmode : s.mc.mode ≠ .cooldown) : Chosen s (clearAxis ax st rm s) :=
  clearAxis_keeps hmode (Chosen s) chosen_requestEnd (fun _ h => h.trans carried_dispatch.chosen)
    fun _ h => h.trans chosen_removeEntry

/-! ## One axis's turn (R28, R92) -/

/-- An axis as its RECALL entry joins: its motion sent an end request and its entry removed, RETARGETED. -/
def recallCleared (ax : Axis) (s : State) : State := clearAxis ax (fun _ => .retargeted) .retargeted s

theorem recallAxis_none (h : r.targets.get ax = none) : recallAxis r tag s ax = s := by
  rw [recallAxis, h]
  rfl

theorem recallAxis_some (h : r.targets.get ax = some target) :
    recallAxis r tag s ax = appendEntry ⟨ax, .ofRecall target tag⟩ (recallCleared ax s) := by
  rw [recallAxis, h]
  rfl

/-- What the axes of a recall leave alone in RUN: the blocks around the lens, the samples, the tag and the focus choice,
and every flag that has occurred. -/
structure RecallFrame (s t : State) : Prop where
  lens : LensOnly s t
  sampled : Sampled s t
  chosen : Chosen s t
  flagged : ∀ f, s.flagged f → t.flagged f

theorem RecallFrame.refl (s : State) : RecallFrame s s := ⟨.refl s, .refl s, .refl s, fun _ h => h⟩

theorem RecallFrame.trans (h : RecallFrame s t) (k : RecallFrame t u) : RecallFrame s u :=
  ⟨h.lens.trans k.lens, h.sampled.trans k.sampled, h.chosen.trans k.chosen, fun f hf => k.flagged f (h.flagged f hf)⟩

theorem RecallFrame.run (h : RecallFrame s t) (hmode : s.mc.mode = .run) : t.mc.mode = .run := by rw [h.lens.mc, hmode]

theorem recallCleared_frame (hmode : s.mc.mode = .run) : RecallFrame s (recallCleared ax s) := by
  have hrun : s.mc.mode ≠ .cooldown := by rw [hmode]; nofun
  exact ⟨lensOnly_clearAxis hrun _ _ _, sampled_clearAxis hrun, chosen_clearAxis hrun, (laws_clearAxis _ _ _).flagged⟩

theorem appendEntry_frame (hmode : s.mc.mode = .run) (hnone : s.entryOf e.axis = none) : RecallFrame s (appendEntry e s) :=
  ⟨lensOnly_appendEntry e, sampled_appendEntry e,
    .trans (t := s.mapMq fun q => { q with entries := q.entries ++ [e] }) ⟨rfl, rfl⟩ carried_dispatch.chosen,
    (laws_appendEntry (.inl hmode) hnone).flagged⟩

theorem recallAxis_frame (hmode : s.mc.mode = .run) (ax : Axis) : RecallFrame s (recallAxis r tag s ax) := by
  cases htarget : r.targets.get ax with
  | none => rw [recallAxis_none htarget]; exact .refl s
  | some target =>
    rw [recallAxis_some htarget]
    have hclear := recallCleared_frame (ax := ax) hmode
    exact hclear.trans (appendEntry_frame (hclear.run hmode) (entryOf_clearAxis _ _ _))

/-! ## What the turns of the others leave of an axis -/

/-- How another axis's turn leaves an axis of a state: a MOVING one is as it was, and so is one without an entry. -/
structure AtTurn (s : State) (b : Axis) (u : State) : Prop where
  moves : s.moving b = true → u.lens.get b = s.lens.get b
  idle : s.entryOf b = none →
    u.entryOf b = none ∧ u.lens.get b = s.lens.get b ∧ u.setup.base.get b = s.setup.base.get b

theorem AtTurn.trans (h : AtTurn s b t) (k : AtTurn t b u) : AtTurn s b u := by
  refine ⟨fun hmoves => ?_, fun hnone => ?_⟩
  · have hget := h.moves hmoves
    exact (k.moves (by rw [State.moving, hget]; exact hmoves)).trans hget
  · obtain ⟨he, hget, hbase⟩ := h.idle hnone
    obtain ⟨he', hget', hbase'⟩ := k.idle he
    exact ⟨he', hget'.trans hget, hbase'.trans hbase⟩

theorem atTurn_recallAxis (hmode : s.mc.mode = .run) (hb : b ≠ ax) : AtTurn s b (recallAxis r tag s ax) := by
  have hrun : s.mc.mode ≠ .cooldown := by rw [hmode]; nofun
  cases htarget : r.targets.get ax with
  | none => rw [recallAxis_none htarget]; exact ⟨fun _ => rfl, fun h => ⟨h, rfl, rfl⟩⟩
  | some target =>
    rw [recallAxis_some htarget]
    have hclear : AtTurn s b (recallCleared ax s) := ⟨clearAxis_moving hrun hb, clearAxis_other hrun hb⟩
    refine hclear.trans ⟨fun hmoves => ?_, appendEntry_other hb⟩
    exact dispatch_get (s := (recallCleared ax s).mapMq _) (.inr hmoves)

/-- How an entry stands outlives the clearing of another axis. -/
theorem Stands.clearOther (hmode : t.mc.mode ≠ .cooldown) (hne : e.axis ≠ ax) (hsampled : Sampled s t) (hnow : t.now = s.now)
    (h : Stands e rec s t) : Stands e rec s (clearAxis ax st rm t) := by
  refine (clearAxis_keeps hmode (fun w => Sampled s w ∧ w.now = s.now ∧ Stands e rec s w) ⟨?_, ?_, ?_⟩
    (fun w ⟨hs, hn, hw⟩ => ⟨hs.trans sampled_dispatch, lensOnly_dispatch.now.trans hn, hw.dispatch hs hn⟩)
    fun w ⟨hs, hn, hw⟩ => ⟨hs.trans (sampled_removeEntry _ _), (lensOnly_removeEntry _ _).now.trans hn, ?_⟩).2.2
  · exact hsampled.trans (sampled_requestEnd _)
  · exact (lensOnly_requestEnd _ _).now.trans hnow
  · exact h.congr entriesOf_requestEnd (requestEnd_get _ _ _ hne)
  · obtain ⟨hlens, -, hentries⟩ := removeEntry_frame (s := w) ax rm
    exact hw.congr (hentries _ hne) (by rw [hlens])

/-! ## All axes in turn -/

/-- What has become of an axis whose turn is over: a named one has its RECALL entry, waiting or running since, from the
state of its turn; one not named is as the others' turns leave it. -/
structure RecalledAt (r : Placement) (tag : Nat) (s : State) (b : Axis) (t : State) : Prop where
  takes : ∀ target, r.targets.get b = some target → ∃ v, RecallFrame s v ∧ AtTurn s b v
    ∧ Stands ⟨b, .ofRecall target tag⟩ ((recallCleared b v).lens.get b) s t
    ∧ ∀ f, (recallCleared b v).flagged f → t.flagged f
  stays : r.targets.get b = none → AtTurn s b t

theorem RecalledAt.step (hmode : s.mc.mode = .run) (hframe : RecallFrame s t) (hb : b ≠ ax) (h : RecalledAt r tag s b t) :
    RecalledAt r tag s b (recallAxis r tag t ax) := by
  have hrun := hframe.run hmode
  have hturn : RecallFrame t (recallAxis r tag t ax) := recallAxis_frame hrun ax
  refine ⟨fun target htarget => ?_, fun hnone => (h.stays hnone).trans (atTurn_recallAxis hrun hb)⟩
  obtain ⟨v, hv, hat, hstands, hflag⟩ := h.takes target htarget
  refine ⟨v, hv, hat, ?_, fun f hf => hturn.flagged f (hflag f hf)⟩
  cases hax : r.targets.get ax with
  | none => rw [recallAxis_none hax]; exact hstands
  | some target' =>
    rw [recallAxis_some hax]
    have hclear := hframe.trans (recallCleared_frame (ax := ax) hrun)
    exact (hstands.clearOther (by rw [hrun]; nofun) hb hframe.sampled hframe.lens.now).appendOther hb.symm
      hclear.sampled hclear.lens.now

theorem recalledAt_self (hmode : s.mc.mode = .run) (hframe : RecallFrame s t) (hturn : AtTurn s ax t) :
    RecalledAt r tag s ax (recallAxis r tag t ax) := by
  have hclear := hframe.trans (recallCleared_frame (ax := ax) (hframe.run hmode))
  have hnone : (recallCleared ax t).entryOf ax = none := entryOf_clearAxis _ _ _
  refine ⟨fun target htarget => ⟨t, hframe, hturn, ?_⟩, fun h => by rw [recallAxis_none h]; exact hturn⟩
  rw [recallAxis_some htarget]
  exact ⟨stands_appendEntry (e := ⟨ax, .ofRecall target tag⟩) hclear.sampled hclear.lens.now hnone,
    (appendEntry_frame (hclear.run hmode) hnone).flagged⟩

theorem recalledAt_fold (hmode : s.mc.mode = .run) (l : List Axis) (hl : l.Nodup) (hframe : RecallFrame s t)
    (hleft : ∀ b ∈ l, AtTurn s b t) (hdone : ∀ b, b ∉ l → RecalledAt r tag s b t) :
    RecallFrame s (l.foldl (recallAxis r tag) t) ∧ ∀ b, RecalledAt r tag s b (l.foldl (recallAxis r tag) t) := by
  induction l generalizing t with
  | nil => exact ⟨hframe, fun b => hdone b List.not_mem_nil⟩
  | cons ax l ih =>
    obtain ⟨hnot, hl⟩ := List.nodup_cons.mp hl
    have hrun := hframe.run hmode
    rw [List.foldl_cons]
    refine ih hl (hframe.trans (recallAxis_frame hrun ax)) (fun b hb => ?_) fun b hb => ?_
    · have hne : b ≠ ax := fun h => hnot (h ▸ hb)
      exact (hleft b (List.mem_cons_of_mem _ hb)).trans (atTurn_recallAxis hrun hne)
    · by_cases hax : b = ax
      · subst hax
        exact recalledAt_self hmode hframe (hleft b (List.mem_cons_self ..))
      · exact (hdone b (by rw [List.mem_cons, not_or]; exact ⟨hax, hb⟩)).step hmode hframe hax

/-- After all turns, each axis has its RECALL entry or is as it was (R28). -/
theorem recalledAt_axes (hmode : s.mc.mode = .run) : RecallFrame s (axes.foldl (recallAxis r tag) s)
    ∧ ∀ b, RecalledAt r tag s b (axes.foldl (recallAxis r tag) s) :=
  recalledAt_fold hmode axes (by decide) (.refl s) (fun b _ => ⟨fun _ => rfl, fun h => ⟨h, rfl, rfl⟩⟩)
    fun b hb => absurd (mem_axes b) hb

/-- A motion displaced in the state of its axis's turn is displaced in the state of the request (R71, R92). -/
theorem RecalledAt.displaced (hmode : s.mc.mode = .run) (htarget : r.targets.get b = some target)
    (hm : (s.lens.get b).motion = some m) (h : RecalledAt r tag s b t) : Displaced b m .retargeted s t := by
  obtain ⟨v, hframe, hturn, hstands, hflag⟩ := h.takes target htarget
  have hget := hturn.moves (by rw [State.moving, hm]; rfl)
  have hposition : v.position b = s.position b := position_eq hframe.sampled (by rw [hget])
  obtain ⟨hdrives, hbrakes, hends⟩ := displaced_of_stands (st := fun _ => .retargeted) (rm := .retargeted) (s := v)
    (e := ⟨b, .ofRecall target tag⟩) (by rw [hframe.run hmode]; nofun) (by rw [← hm, ← hget]) nofun hflag hstands
  rw [hframe.lens.now] at hdrives
  refine ⟨hdrives, hbrakes, fun hphase => ?_⟩
  obtain ⟨hended, hlast, hwaits⟩ := hends hphase
  rw [hposition] at hlast
  exact ⟨hended, fun hnone => hlast (hturn.idle hnone).1, fun hnone => hwaits (hturn.idle hnone).1⟩

theorem RecalledAt.has (htarget : r.targets.get b = some target) (h : RecalledAt r tag s b t) :
    t.Has b (.ofRecall target tag) := by
  obtain ⟨v, -, -, hstands, -⟩ := h.takes target htarget
  exact hstands.has fun _ _ h => Job.noConfusion h

end Sys2Proof.Machine
end

section
-- One declaration at a time: many proofs that wait at once hold a thread each.
set_option Elab.async false
/-! The progress of a recall while its axes take their turns, where no entry and no motion carries its tag before (R22,
R30). -/

namespace Sys2Proof.Machine

variable {s t u : State} {ax b : Axis} {m : Motion} {e x : Entry} {rest : List Entry} {st : Motion → EndStatus}
  {rm status : EndStatus} {r : Placement} {tag target : Nat} {i : Fin 24} {rc : Recall} {l todo : List Axis}

/-! ## Entries and motions of another tag -/

/-- No entry and no motion of the axis carries the tag. -/
structure Untagged (tag : Nat) (b : Axis) (u : State) : Prop where
  entries : ∀ e ∈ entriesOf b u, jobTag e.job ≠ some tag
  motion : ∀ m, (u.lens.get b).motion = some m → jobTag m.job ≠ some tag

theorem Untagged.congr (h : Untagged tag b s) (hentries : entriesOf b t = entriesOf b s)
    (hlens : t.lens.get b = s.lens.get b) : Untagged tag b t :=
  ⟨fun e he => h.entries e (hentries ▸ he), fun m hm => h.motion m (hlens ▸ hm)⟩

/-- The end of an entry or motion of another tag counts toward no recall in flight (R30). -/
theorem recordRecall_untagged {tag' : Nat} (hcurrent : s.setup.current = some rc) (h : tag' ≠ rc.tag) :
    recordRecall ax tag' status s = s := by
  refine recordRecall_not_counts fun rc' hrc ⟨_, htag, _⟩ => h ?_
  rw [← htag, ← Option.some_inj.mp (hcurrent.symm.trans hrc)]

theorem markEntry_untagged (hcurrent : s.setup.current = some rc) (h : jobTag e.job ≠ some rc.tag) : markEntry e s = s := by
  unfold markEntry
  cases htag : jobTag e.job with
  | none => rfl
  | some tag' =>
    have hne : ¬rc.tag = tag' := fun heq => h (by rw [htag, heq])
    rw [Option.elim_some, markRunning, hcurrent]
    dsimp only
    rw [if_neg (by simp [hne])]

/-- The end of a motion of another tag leaves the recall in flight alone (R30, R73). -/
theorem endMotion_untagged (hcurrent : s.setup.current = some rc) (hm : (s.lens.get ax).motion = some m)
    (h : jobTag m.job ≠ some rc.tag) :
    Carried s (endMotion ax status s) ∧ (endMotion ax status s).setup.current = s.setup.current := by
  have hend : Carried s (setupEnd ax ((endedState ax m status s).lens.get ax).cal m.job status (endedState ax m status s))
      ∧ (setupEnd ax ((endedState ax m status s).lens.get ax).cal m.job status (endedState ax m status s)).setup.current
        = s.setup.current := by
    have hsame : Carried s (endedState ax m status s) := carried_of_setup rfl rfl
    cases hjob : m.job with
    | jog up d =>
      obtain ⟨base, heq, -⟩ := setupEnd_jog (ax := ax) (st := status) (up := up) (d := d) (s := endedState ax m status s)
        ((endedState ax m status s).lens.get ax).cal
      rw [heq]
      exact ⟨⟨rfl, rfl⟩, rfl⟩
    | ofRecall target tag' =>
      rw [hjob] at h
      have hrecord := recordRecall_untagged (s := endedState ax m status s) (ax := ax) (status := status) hcurrent
        (fun heq : tag' = rc.tag => h (by rw [heq]; rfl))
      rw [setupEnd, hrecord]
      exact ⟨hsame, rfl⟩
    | move _ => exact ⟨hsame, rfl⟩
    | trim _ => exact ⟨hsame, rfl⟩
    | park _ => exact ⟨hsame, rfl⟩
    | learn => exact ⟨hsame, rfl⟩
  have hstays := endMotion_stays (st := status) hm
  refine ⟨hend.1.trans ⟨?_, hstays.ge⟩, hstays.current.1.trans hend.2⟩
  obtain ⟨hcurrent', -, -, -, -, hbase⟩ := hstays.current
  rw [hcurrent', hbase]
  exact hstays.setup

theorem requestEnd_untagged (hcurrent : s.setup.current = some rc) (h : Untagged rc.tag ax s) :
    Carried s (requestEnd ax st s) ∧ (requestEnd ax st s).setup.current = s.setup.current
      ∧ Untagged rc.tag ax (requestEnd ax st s) := by
  have hentries : ∀ e ∈ entriesOf ax (requestEnd ax st s), jobTag e.job ≠ some rc.tag := by
    rw [entriesOf_requestEnd]
    exact h.entries
  cases hm : (s.lens.get ax).motion with
  | none =>
    have hsame : requestEnd ax st s = s := by rw [requestEnd, hm]
    rw [hsame]
    exact ⟨.refl s, rfl, h⟩
  | some m =>
    have hjob := h.motion m hm
    rw [requestEnd_eq hm] at hentries ⊢
    obtain ⟨hfate, -⟩ | ⟨hfate, -⟩ | ⟨hfate, -⟩ := endRequest_cases s.now (st m) m <;> rw [hfate] at hentries ⊢
    · obtain ⟨hcarried, hsame⟩ := endMotion_untagged (status := st m) hcurrent hm hjob
      refine ⟨hcarried, hsame, hentries, fun m' hm' => ?_⟩
      rw [show applyFate ax (.ends (st m)) s = endMotion ax (st m) s from rfl, endMotion_motion] at hm'
      cases hm'
    all_goals
      refine ⟨carried_of_setup rfl rfl, rfl, hentries, fun m' hm' => ?_⟩
      rw [applyFate_goes_get] at hm'
      rw [← Option.some_inj.mp hm']
      exact hjob

theorem removeEntry_untagged (hcurrent : s.setup.current = some rc) (h : Untagged rc.tag ax s) :
    (removeEntry ax status s).setup = s.setup ∧ (removeEntry ax status s).ge = s.ge := by
  unfold removeEntry
  cases he : s.entryOf ax with
  | none => exact ⟨rfl, rfl⟩
  | some e =>
    have hmem : e ∈ entriesOf ax s := by
      rw [entryOf_eq_head] at he
      exact List.mem_of_mem_head? he
    have hjob := h.entries e hmem
    dsimp only
    unfold handRemoved
    split
    · next target tag' heq =>
      rw [heq] at hjob
      rw [recordRecall_untagged (s := s.mapMq _) hcurrent fun htag => hjob (by rw [htag]; rfl)]
      exact ⟨rfl, rfl⟩
    all_goals exact ⟨rfl, rfl⟩

/-! ## The progress in turn -/

/-- The progress of an axis while the axes of a list have their turns before them: a named one waits until its turn is
over and its entry has been dispatched (R30). -/
def recallProgress (r : Placement) (todo : List Axis) (u : State) (b : Axis) : Progress :=
  if r.targets.get b = none then .notNamed
  else if b ∈ todo ∨ u.entryOf b ≠ none then .waiting
  else .running

theorem recallProgress_congr (h : b ∉ todo → r.targets.get b ≠ none → entriesOf b t = entriesOf b s) :
    recallProgress r todo t b = recallProgress r todo s b := by
  unfold recallProgress
  split
  · rfl
  · next hnamed =>
    by_cases hb : b ∈ todo
    · rw [if_pos (.inl hb), if_pos (.inl hb)]
    · rw [entryOf_eq_head, entryOf_eq_head, h hb hnamed]

/-- A recall while its axes take their turns: what else stands in the setup and the banks stays, the progress is as each
axis's entries say, an axis before its turn and one not named hold nothing of the recall, and a named one after its turn
has at most its RECALL entry. -/
structure Tracked (i : Fin 24) (r : Placement) (tag : Nat) (todo : List Axis) (s u : State) : Prop where
  carried : Carried s u
  current : ∃ p, u.setup.current = some ⟨i, tag, p, false, none⟩ ∧ ∀ b, p.get b = recallProgress r todo u b
  fresh : ∀ b, b ∈ todo ∨ r.targets.get b = none → Untagged tag b u
  joined : ∀ b, b ∉ todo → r.targets.get b ≠ none →
    entriesOf b u = [] ∨ ∃ target, entriesOf b u = [⟨b, .ofRecall target tag⟩]

/-- A step that leaves the recall in flight, the entries of the named axes after their turns, and what is untagged. -/
theorem Tracked.step (h : Tracked i r tag todo s t) (hcarried : Carried t u) (hcurrent : u.setup.current = t.setup.current)
    (hfresh : ∀ b, b ∈ todo ∨ r.targets.get b = none → Untagged tag b u)
    (hentries : ∀ b, b ∉ todo → r.targets.get b ≠ none → entriesOf b u = entriesOf b t) : Tracked i r tag todo s u := by
  obtain ⟨p, hp, hprogress⟩ := h.current
  refine ⟨h.carried.trans hcarried, ⟨p, hcurrent.trans hp, fun b => ?_⟩, hfresh, fun b hb hnamed => ?_⟩
  · rw [hprogress, recallProgress_congr (hentries b)]
  · rw [hentries b hb hnamed]
    exact h.joined b hb hnamed

theorem Tracked.requestEnd (hax : ax ∈ todo) (h : Tracked i r tag todo s t) :
    Tracked i r tag todo s (requestEnd ax st t) := by
  obtain ⟨p, hp, -⟩ := h.current
  obtain ⟨hcarried, hcurrent, huntagged⟩ := requestEnd_untagged (st := st) hp (h.fresh ax (.inl hax))
  refine h.step hcarried hcurrent (fun b hb => ?_) fun b _ _ => entriesOf_requestEnd
  by_cases hne : b = ax
  · exact hne ▸ huntagged
  · exact (h.fresh b hb).congr entriesOf_requestEnd (requestEnd_get _ _ _ hne)

theorem Tracked.removeEntry (hax : ax ∈ todo) (h : Tracked i r tag todo s t) :
    Tracked i r tag todo s (removeEntry ax rm t) := by
  obtain ⟨p, hp, -⟩ := h.current
  obtain ⟨hsetup, hge⟩ := removeEntry_untagged (status := rm) hp (h.fresh ax (.inl hax))
  obtain ⟨hlens, -, hentries⟩ := removeEntry_frame (s := t) ax rm
  refine h.step (carried_of_setup hsetup hge) (by rw [hsetup]) (fun b hb => ?_)
    fun b hb _ => hentries b fun heq => hb (heq ▸ hax)
  by_cases hne : b = ax
  · subst hne
    refine ⟨fun e he => ?_, fun m hm => (h.fresh b hb).motion m (hlens ▸ hm)⟩
    rw [entriesOf_eq_nil.mpr (entryOf_removeEntry _ _)] at he
    cases he
  · exact (h.fresh b hb).congr (hentries b hne) (by rw [hlens])

/-- The start of an entry of another tag changes no progress; that of the recall's own makes its axis running (R30, R98). -/
theorem Tracked.startEntry (hentries : t.mq.entries = x :: rest) (h : Tracked i r tag todo s t) :
    Tracked i r tag todo s (startEntry x (t.mapMq (takeHead x rest))) := by
  obtain ⟨p, hp, hprogress⟩ := h.current
  obtain ⟨hcarried, hcurrent, -⟩ := startEntry_setup x (t.mapMq (takeHead x rest))
  have hother (b : Axis) (hb : x.axis ≠ b) := entriesOf_startEntry_other hentries hb
  have hcons : entriesOf x.axis t = x :: rest.filter (·.axis = x.axis) := by rw [entriesOf_cons hentries, if_pos rfl]
  have hcarried' : Carried t (Machine.startEntry x (t.mapMq (takeHead x rest))) :=
    (carried_of_setup (s := t) (t := t.mapMq (takeHead x rest)) rfl rfl).trans hcarried
  have hfresh (b : Axis) (hb : b ∈ todo ∨ r.targets.get b = none) :
      Untagged tag b (Machine.startEntry x (t.mapMq (takeHead x rest))) := by
    have hold := h.fresh b hb
    by_cases hax : x.axis = b
    · subst hax
      have hjob := hold.entries x (by rw [hcons]; exact .head _)
      refine ⟨fun e he => hold.entries e ?_, fun m hm => ?_⟩
      · rw [entriesOf_startEntry] at he
        rw [hcons]
        exact List.mem_cons_of_mem _ he
      · obtain ⟨m', hm', hget⟩ | ⟨m', up, d, hm', -, hget, -⟩ := startEntry_axis x (t.mapMq (takeHead x rest))
        · rw [hget] at hm
          rw [← Option.some_inj.mp hm, hm']
          exact hjob
        · rw [hget] at hm
          cases hm
    · exact hold.congr (hother b hax) (startEntry_get _ _ (Ne.symm hax))
  by_cases hax : x.axis ∈ todo ∨ r.targets.get x.axis = none
  · have hjob := (h.fresh _ hax).entries x (by rw [hcons]; exact .head _)
    rw [markEntry_untagged (s := t.mapMq (takeHead x rest)) hp hjob] at hcurrent
    refine h.step hcarried' hcurrent hfresh fun b hb hnamed => hother b fun heq => ?_
    exact hax.elim (heq ▸ hb) (heq ▸ hnamed)
  · obtain ⟨hdone, hnamed⟩ := not_or.mp hax
    have hwaits : p.get x.axis = .waiting := by
      have hentry : t.entryOf x.axis ≠ none := fun hnil => by
        rw [entryOf_eq_head, hcons] at hnil
        cases hnil
      rw [hprogress, recallProgress, if_neg hnamed, if_pos (.inr hentry)]
    obtain hnil | ⟨target, hone⟩ := h.joined x.axis hdone hnamed
    · rw [hnil] at hcons
      cases hcons
    · obtain ⟨hx, hnone⟩ := entriesOf_startEntry_one hentries hone rfl
      have hmark : (markEntry x (t.mapMq (takeHead x rest))).setup.current
          = some ⟨i, tag, p.set x.axis .running, false, none⟩ := by
        rw [markEntry, show jobTag x.job = some tag by rw [hx]; rfl]
        exact markRunning_waiting (s := t.mapMq (takeHead x rest)) hp rfl hwaits
      refine ⟨h.carried.trans hcarried', ⟨_, hcurrent.trans hmark, fun b => ?_⟩, hfresh, fun b hb hnamed' => ?_⟩
      · rw [PerAxis.get_set]
        split
        · next heq =>
          subst heq
          rw [recallProgress, if_neg hnamed, if_neg (not_or.mpr ⟨hdone, not_not.mpr (entriesOf_eq_nil.mp hnone)⟩)]
        · next hne =>
          rw [hprogress, recallProgress_congr fun _ _ => (hother b (Ne.symm hne)).symm]
      · by_cases heq : x.axis = b
        · exact .inl (heq ▸ hnone)
        · rw [hother b heq]
          exact h.joined b hb hnamed'

theorem Tracked.dispatch (h : Tracked i r tag todo s t) : Tracked i r tag todo s (dispatch t) :=
  dispatch_keeps (Tracked i r tag todo s) (fun _ _ _ h hentries _ => h.startEntry hentries) h

/-- An axis that is not named has no turn. -/
theorem Tracked.skip (hnone : r.targets.get ax = none) (h : Tracked i r tag (ax :: l) s t) : Tracked i r tag l s t := by
  obtain ⟨p, hp, hprogress⟩ := h.current
  have hne {b : Axis} (hb : r.targets.get b ≠ none) : b ≠ ax := fun heq => hb (heq ▸ hnone)
  refine ⟨h.carried, ⟨p, hp, fun b => ?_⟩, fun b hb => h.fresh b (hb.imp_left (List.mem_cons_of_mem _)),
    fun b hb hnamed => h.joined b (by rw [List.mem_cons, not_or]; exact ⟨hne hnamed, hb⟩) hnamed⟩
  rw [hprogress, recallProgress, recallProgress]
  split
  · rfl
  · next hnamed => simp only [List.mem_cons, hne hnamed, false_or]

/-- The RECALL entry joins at the end of its axis's turn, where no entry of the axis is left (R28, R80). -/
theorem Tracked.join (hnot : ax ∉ l) (htarget : r.targets.get ax = some target) (hnone : t.entryOf ax = none)
    (h : Tracked i r tag (ax :: l) s t) :
    Tracked i r tag l s (t.mapMq fun q => { q with entries := q.entries ++ [⟨ax, .ofRecall target tag⟩] }) := by
  obtain ⟨p, hp, hprogress⟩ := h.current
  have hother (b : Axis) (hb : b ≠ ax) : entriesOf b (t.mapMq fun q => { q with
      entries := q.entries ++ [⟨ax, .ofRecall target tag⟩] }) = entriesOf b t :=
    entriesOf_append_other (e := ⟨ax, .ofRecall target tag⟩) hb.symm
  have hself : entriesOf ax (t.mapMq fun q => { q with entries := q.entries ++ [⟨ax, .ofRecall target tag⟩] })
      = [⟨ax, .ofRecall target tag⟩] := by
    have hnil := entriesOf_eq_nil.mpr hnone
    unfold entriesOf at *
    rw [State.mapMq, List.filter_append, hnil]
    simp
  refine ⟨h.carried.trans (carried_of_setup rfl rfl), ⟨p, hp, fun b => ?_⟩, fun b hb => ?_, fun b hb hnamed => ?_⟩
  · rw [hprogress, recallProgress, recallProgress]
    split
    · rfl
    · by_cases hax : b = ax
      · subst hax
        have hentry : (t.mapMq fun q => { q with
            entries := q.entries ++ [⟨b, .ofRecall target tag⟩] }).entryOf b ≠ none := fun hnil => by
          rw [entryOf_eq_head, hself] at hnil
          cases hnil
        rw [if_pos (.inl (List.mem_cons_self ..)), if_pos (.inr hentry)]
      · rw [entryOf_eq_head (s := t.mapMq _), hother b hax, ← entryOf_eq_head]
        simp only [List.mem_cons, hax, false_or]
  · have hne : b ≠ ax := fun heq => hb.elim (fun hmem => hnot (heq ▸ hmem)) fun hnil => by
      rw [heq, htarget] at hnil
      cases hnil
    exact (h.fresh b (hb.imp_left (List.mem_cons_of_mem _))).congr (hother b hne) rfl
  · by_cases hax : b = ax
    · exact .inr ⟨target, by rw [hax, hself]⟩
    · rw [hother b hax]
      exact h.joined b (by rw [List.mem_cons, not_or]; exact ⟨hax, hb⟩) hnamed

theorem Tracked.recallAxis (hmode : t.mc.mode = .run) (hnot : ax ∉ l) (h : Tracked i r tag (ax :: l) s t) :
    Tracked i r tag l s (recallAxis r tag t ax) := by
  cases htarget : r.targets.get ax with
  | none => rw [recallAxis_none htarget]; exact h.skip htarget
  | some target =>
    have hmem : ax ∈ ax :: l := List.mem_cons_self ..
    have hcleared : Tracked i r tag (ax :: l) s (recallCleared ax t) :=
      clearAxis_keeps (by rw [hmode]; nofun) (Tracked i r tag (ax :: l) s) (h.requestEnd hmem) (fun _ h => h.dispatch)
        fun _ h => h.removeEntry hmem
    rw [recallAxis_some htarget]
    exact (hcleared.join hnot htarget (entryOf_clearAxis _ _ _)).dispatch

theorem Tracked.fold (hl : l.Nodup) (hmode : t.mc.mode = .run) (h : Tracked i r tag l s t) :
    Tracked i r tag [] s (l.foldl (Machine.recallAxis r tag) t) := by
  induction l generalizing t with
  | nil => exact h
  | cons ax l ih =>
    obtain ⟨hnot, hl⟩ := List.nodup_cons.mp hl
    exact ih hl ((recallAxis_frame hmode ax).run hmode) (h.recallAxis hmode hnot)

end Sys2Proof.Machine
end

section
-- One declaration at a time: many proofs that wait at once hold a thread each.
set_option Elab.async false
/-! PL_RECALL: the recall begun, the copies taken, and what is left where no axis is named (R25 to R29, R36, R108). -/

namespace Sys2Proof.Machine

variable {s t u : State} {ax b : Axis} {m : Motion} {r : Placement} {tag target : Nat} {i : Fin 24}

/-! ## Clamping again (R133) -/

theorem clampNat_self {n hi : Nat} (h : n ≤ hi) : clampNat n hi = n := by
  unfold clampNat clampInt
  split
  · omega
  · split <;> omega

theorem reclamp_reclamp (r : Raster) (g : Insets) : reclamp r (reclamp r g) = reclamp r g := by
  obtain ⟨htop, hbottom, htl, htr, hbl, hbr⟩ : (reclamp r g).Within r := clampInsets_within _ _ _ _ _ _ _
  generalize reclamp r g = g at *
  rw [reclamp, clampInsets, clampNat_self htop, clampNat_self hbottom, clampNat_self htl, clampNat_self htr,
    clampNat_self hbl, clampNat_self hbr]

/-! ## The recall begun (R25, R27) -/

/-- The report after a recall in flight, if any, has ended SUPERSEDED (R27, R36). -/
def supersededReport (s : State) : Option Report :=
  if s.setup.recallState = .none then s.setup.report
  else (s.setup.current.map (reportOf .superseded)).or s.setup.report

/-- The live setup with the new recall in MOVING, every named axis waiting (R25, R30). -/
def begunSetup (i : Fin 24) (r : Placement) (s : State) : ActiveSetup := { s.setup with
  tag := nextTag s.setup.tag, current := some (newRecall i (nextTag s.setup.tag) r), recallState := .moving
  pendingGeometry := r.geometry.map (reclamp s.ge.raster), report := supersededReport s }

theorem beginRecall_eq (i : Fin 24) (r : Placement) (s : State) : ∃ a, beginRecall i r s
      = { s with setup := begunSetup i r s, au := a }
    ∧ (s.setup.recallState ≠ .none → State.flagged { s with au := a } .recallDone) := by
  have hended : supersede s = s ∧ s.setup.recallState = .none
      ∨ supersede s = endRecall .superseded true s ∧ s.setup.recallState ≠ .none := by
    unfold supersede
    cases s.setup.recallState with
    | none => exact .inl ⟨rfl, rfl⟩
    | moving => exact .inr ⟨rfl, nofun⟩
    | applying => exact .inr ⟨rfl, nofun⟩
  unfold beginRecall begunSetup supersededReport
  obtain ⟨hsame, hnone⟩ | ⟨hend, hflight⟩ := hended
  · rw [hsame, if_pos hnone]
    exact ⟨s.au, rfl, fun h => absurd hnone h⟩
  · rw [hend, endRecall_eq, if_neg hflight]
    exact ⟨occurIn .recallDone s.au, rfl, fun _ => flagged_of_au (flagged_occur_self .recallDone s) rfl⟩

theorem beginRecall_frame (i : Fin 24) (r : Placement) (s : State) : LensOnly s (beginRecall i r s)
    ∧ (beginRecall i r s).lens = s.lens ∧ (beginRecall i r s).mq = s.mq ∧ Sampled s (beginRecall i r s)
    ∧ (beginRecall i r s).setup = begunSetup i r s ∧ (beginRecall i r s).ge = s.ge := by
  obtain ⟨a, heq, -⟩ := beginRecall_eq i r s
  rw [heq]
  exact ⟨⟨⟨rfl, rfl, rfl, rfl, rfl, rfl⟩, rfl, rfl⟩, rfl, rfl, ⟨rfl, rfl, rfl, rfl⟩, rfl, rfl⟩

theorem flagged_beginRecall (h : s.setup.recallState ≠ .none) : (beginRecall i r s).flagged .recallDone := by
  obtain ⟨a, heq, hflag⟩ := beginRecall_eq i r s
  rw [heq]
  exact flagged_of_au (hflag h) rfl

/-- Where nothing carries the new tag, the recall begins with every named axis waiting for its turn (R22, R30). -/
theorem tracked_beginRecall (hentries : ∀ e ∈ s.mq.entries, jobTag e.job ≠ some (nextTag s.setup.tag))
    (hmotions : ∀ ax m, (s.lens.get ax).motion = some m → jobTag m.job ≠ some (nextTag s.setup.tag)) :
    Tracked i r (nextTag s.setup.tag) axes (beginRecall i r s) (beginRecall i r s) := by
  obtain ⟨-, hlens, hmq, -, hsetup, -⟩ := beginRecall_frame i r s
  refine ⟨.refl _, ⟨_, by rw [hsetup]; rfl, fun b => ?_⟩, fun b _ => ⟨fun e he => hentries e ?_, fun m hm => ?_⟩,
    fun b hb => absurd (mem_axes b) hb⟩
  · have hturn : b ∈ axes ∨ (beginRecall i r s).entryOf b ≠ none := .inl (mem_axes b)
    rw [PerAxis.get_make, recallProgress, names]
    simp only [if_pos hturn]
    cases r.targets.get b <;> rfl
  · have hmem := (List.mem_filter.mp he).1
    rw [hmq] at hmem
    exact hmem
  · rw [hlens] at hm
    exact hmotions b m hm

/-! ## The copies taken (R28, R108, R122) -/

/-- The axes of a recall in their turns, after its beginning (R27, R28). -/
def turned (i : Fin 24) (r : Placement) (s : State) : State :=
  axes.foldl (recallAxis r (nextTag s.setup.tag)) (beginRecall i r s)

/-- The live record takes its copies, and the caps of the quiet level act (R28, R108, R122). -/
def copied (i : Fin 24) (r : Placement) (u : State) : State := capCut (takeCopies i r (takeFocusChoice r.focusOn u))

theorem acceptRecall_eq (i : Fin 24) (r : Placement) (s : State) : acceptRecall i r s =
    if axes.any (names r) then copied i r (turned i r s) else axislessRecall (copied i r (turned i r s)) := by
  have htag : (beginRecall i r s).setup.tag = nextTag s.setup.tag := by rw [(beginRecall_frame i r s).2.2.2.2.1]; rfl
  rw [acceptRecall, turned, ← htag]
  rfl

theorem copied_eq (hmode : u.mc.mode = .run) : copied i r u = { u with
    setup := { u.setup with
      source := some i, modified := false, quiet := r.quiet, focusOn := r.focusOn
      base := .make fun ax => (r.targets.get ax).or (u.setup.base.get ax) }
    fc := { u.fc with comp := if u.setup.focusOn && !r.focusOn then 0 else u.fc.comp }
    cc := { u.cc with fans := .make fun fan => capped (capOf r.quiet fan) (u.cc.fans.get fan) } } := by
  have hchoice : takeFocusChoice r.focusOn u
      = u.mapFc fun f => { f with comp := if u.setup.focusOn && !r.focusOn then 0 else f.comp } := by
    unfold takeFocusChoice
    split <;> rfl
  rw [copied, hchoice, capCut_run (by exact hmode)]
  rfl

/-- What an accepted recall makes of the live record, of Cooling and of the axes that it does not name (R25, R28, R108,
R122). -/
structure RecallTaken (i : Fin 24) (r : Placement) (s t : State) : Prop where
  tag : t.setup.tag = nextTag s.setup.tag
  source : t.setup.source = some i
  modified : t.setup.modified = false
  quiet : t.setup.quiet = r.quiet
  focusOn : t.setup.focusOn = r.focusOn
  comp : r.focusOn = false → s.setup.focusOn = true → t.fc.comp = 0
  cc : t.cc = { s.cc with fans := .make fun fan => capped (capOf r.quiet fan) (s.cc.fans.get fan) }
  named : ∀ ax target, r.targets.get ax = some target → t.setup.base.get ax = some target
  others : ∀ ax, r.targets.get ax = none → s.entryOf ax = none →
    t.setup.base.get ax = s.setup.base.get ax ∧ t.lens.get ax = s.lens.get ax
  outer : s.SameOuter t
  mc : t.mc = s.mc
  done : s.setup.recallState ≠ .none → t.flagged .recallDone

theorem entryOf_congr (h : t.mq = s.mq) : t.entryOf b = s.entryOf b := by
  unfold State.entryOf
  rw [h]

theorem recallTaken_copied (hmode : s.mc.mode = .run) : RecallTaken i r s (copied i r (turned i r s)) := by
  obtain ⟨hbegun, hlens, hmq, -, hsetup, -⟩ := beginRecall_frame i r s
  have hmode' : (beginRecall i r s).mc.mode = .run := by rw [hbegun.mc, hmode]
  obtain ⟨hframe, hat⟩ := recalledAt_axes (r := r) (tag := nextTag s.setup.tag) hmode'
  change RecallFrame _ (turned i r s) at hframe
  have hlensOnly : LensOnly s (turned i r s) := hbegun.trans hframe.lens
  have htag : (turned i r s).setup.tag = nextTag s.setup.tag := by rw [hframe.chosen.tag, hsetup]; rfl
  have hfocus : (turned i r s).setup.focusOn = s.setup.focusOn := by rw [hframe.chosen.focusOn, hsetup]; rfl
  rw [copied_eq (hframe.run hmode')]
  refine ⟨htag, rfl, rfl, rfl, rfl, fun hoff hon => ?_, ?_, fun ax target htarget => ?_, fun ax hnone hentry => ?_,
    sameOuter_of_outer ⟨hlensOnly.pending, hlensOnly.now, hlensOnly.held, hlensOnly.pt, hlensOnly.lp, hlensOnly.cl⟩,
    hlensOnly.mc, fun hflight => flagged_of_au (hframe.flagged _ (flagged_beginRecall hflight)) rfl⟩
  · exact if_pos (by rw [hfocus, hon, hoff]; rfl)
  · simp only [hlensOnly.cc]
  · simp only [PerAxis.get_make, htarget, Option.some_or]
  · obtain ⟨-, hget, hbase⟩ := ((hat ax).stays hnone).idle ((entryOf_congr hmq).trans hentry)
    simp only [PerAxis.get_make, hnone, Option.none_or]
    rw [hlens] at hget
    rw [hsetup] at hbase
    exact ⟨hbase, hget⟩

/-! ## A recall that names no axis (R29) -/

theorem turned_axisless (h : ∀ ax, r.targets.get ax = none) : turned i r s = beginRecall i r s := by
  have hfold (l : List Axis) (u : State) : l.foldl (recallAxis r (nextTag s.setup.tag)) u = u := by
    induction l generalizing u with
    | nil => rfl
    | cons ax l ih => rw [List.foldl_cons, recallAxis_none (h ax), ih]
  exact hfold axes _

/-- The new recall where the placement names no axis. -/
def axisless (i : Fin 24) (tag : Nat) : Recall :=
  ⟨i, tag, ⟨.notNamed, .notNamed, .notNamed, .notNamed⟩, false, none⟩

theorem newRecall_axisless (h : ∀ ax, r.targets.get ax = none) : newRecall i tag r = axisless i tag := by
  have hnames (ax : Axis) : names r ax = false := by rw [names, h ax]; rfl
  unfold newRecall axisless
  simp only [hnames]
  rfl

theorem phaseOutcome_axisless : phaseOutcome (axisless i tag) = .complete := rfl

/-- With no axis named, the axis phase is over at once: a geometry is applied, and without one the recall is COMPLETE
(R29). -/
theorem axislessRecall_eq (hcurrent : t.setup.current = some (axisless i tag)) :
    (∀ g, t.setup.pendingGeometry = some g → axislessRecall t = { t with
      setup := { t.setup with recallState := .applying, pendingGeometry := none
                              current := some { axisless i tag with applied := true, outcome := some .complete } }
      ge := { t.ge with active := reclamp t.ge.raster g
                        staged := .computing ⟨reclamp t.ge.raster g, t.ge.raster, t.ge.orient⟩ } })
    ∧ (t.setup.pendingGeometry = none → ∃ a, axislessRecall t = { t with
        au := occurIn .recallDone a
        setup := { t.setup with report := some (reportOf .complete (axisless i tag))
                                current := none, recallState := .none, pendingGeometry := none } }) := by
  have hself : t.mapSetup (fun a => { a with current := some (axisless i tag) }) = t := by
    rw [← hcurrent]
    rfl
  have hstep : axislessRecall t = axisPhaseEnd (axisless i tag) (t.mapSetup fun a => { a with current := some (axisless i tag) }) := by
    rw [axislessRecall, hcurrent, hself]
  have hkeeps : (t.setup.modified || decide (RecallOutcome.complete = .partly)) = t.setup.modified := Bool.or_false _
  rw [hstep]
  refine ⟨fun g hg => ?_, fun hnone => ?_⟩
  · rw [axisPhaseEnd_some _ hg, phaseOutcome_axisless, hkeeps]
  · obtain ⟨a, heq⟩ := axisPhaseEnd_none (axisless i tag) hnone
    rw [heq, phaseOutcome_axisless, hkeeps]
    exact ⟨a, rfl⟩

/-- The end of the axis phase leaves what the recall has taken. -/
theorem recallTaken_axisless (hcurrent : t.setup.current = some (axisless i tag)) (h : RecallTaken i r s t) :
    RecallTaken i r s (axislessRecall t) := by
  obtain ⟨hsome, hnone⟩ := axislessRecall_eq hcurrent
  obtain ⟨htag, hsource, hmodified, hquiet, hfocus, hcomp, hcc, hnamed, hothers, houter, hmc, hdone⟩ := h
  cases hpending : t.setup.pendingGeometry with
  | some g =>
    rw [hsome g hpending]
    exact ⟨htag, hsource, hmodified, hquiet, hfocus, hcomp, hcc, hnamed, hothers, houter, hmc,
      fun hflight => flagged_of_au (hdone hflight) rfl⟩
  | none =>
    obtain ⟨a, heq⟩ := hnone hpending
    rw [heq]
    exact ⟨htag, hsource, hmodified, hquiet, hfocus, hcomp, hcc, hnamed, hothers, houter, hmc,
      fun _ => flagged_of_au (flagged_occur_self .recallDone { t with au := a }) rfl⟩

end Sys2Proof.Machine
end

section
-- One declaration at a time: many proofs that wait at once hold a thread each.
set_option Elab.async false
/-! PL_RECALL accepted, with the recall that it leaves in flight (R25 to R36). -/

namespace Sys2Proof.Machine

variable {s t u : State} {ax b : Axis} {m : Motion} {r : Placement} {tag target : Nat} {i : Fin 24}

/-- PL_RECALL of a READY slot in RUN, whose named axes are healthy, is accepted (R26, R29). -/
theorem plRecall_run (hmode : s.mc.mode = .run) (hslot : s.pt.slots[i] = some r)
    (hhealthy : ∀ ax, r.targets.get ax ≠ none → s.countsUncalibrated ax = false ∧ s.countsFaulted ax = false)
    (ht : t = acceptRecall i r s) : plRecall [byte (i.val + 1)] s
      = (⟨if r.geometry.any fun g => reclamp s.ge.raster g ≠ g then .clamped else .ok,
          [byte t.setup.tag, byte (i.val + 1), axisSet fun ax => (r.targets.get ax).isSome,
            byte (recallCode t.setup.recallState)]⟩, t) := by
  have hlength : [byte (i.val + 1)].length = 1 := rfl
  have hnamed {ax : Axis} (h : names r ax = true) : r.targets.get ax ≠ none := Option.isSome_iff_ne_none.mp h
  have hcal : (axes.any fun ax => names r ax && s.countsUncalibrated ax) = false :=
    List.any_eq_false.mpr fun ax _ h => by
      obtain ⟨hname, hbad⟩ := Bool.and_eq_true_iff.mp h
      rw [(hhealthy ax (hnamed hname)).1] at hbad
      cases hbad
  have hfault : (axes.any fun ax => names r ax && s.countsFaulted ax) = false :=
    List.any_eq_false.mpr fun ax _ h => by
      obtain ⟨hname, hbad⟩ := Bool.and_eq_true_iff.mp h
      rw [(hhealthy ax (hnamed hname)).2] at hbad
      cases hbad
  have hready : slotAt s.pt i = some r := hslot
  rw [plRecall, ofLength_of_length hlength, withSlot_slot (u8_byte_slot i), if_neg (not_not.mpr hmode), hready]
  dsimp only
  rw [hcal, hfault, if_neg Bool.false_ne_true, if_neg Bool.false_ne_true, ← ht]
  rfl

theorem turned_run (hmode : s.mc.mode = .run) : (turned i r s).mc.mode = .run := by
  have hmode' : (beginRecall i r s).mc.mode = .run := by rw [(beginRecall_frame i r s).1.mc, hmode]
  exact (recalledAt_axes hmode').1.run hmode'

/-- A recall that names an axis, after all turns: MOVING, with each named axis waiting or running (R25, R30). -/
theorem inFlight_named (hmode : s.mc.mode = .run)
    (hentries : ∀ e ∈ s.mq.entries, jobTag e.job ≠ some (nextTag s.setup.tag))
    (hmotions : ∀ ax m, (s.lens.get ax).motion = some m → jobTag m.job ≠ some (nextTag s.setup.tag))
    (ht : t = copied i r (turned i r s)) : t.setup.recallState = .moving
      ∧ t.setup.pendingGeometry = r.geometry.map (reclamp s.ge.raster) ∧ t.ge = s.ge
      ∧ t.setup.report = supersededReport s
      ∧ ∃ rc, t.setup.current = some rc ∧ rc.slot = i ∧ rc.tag = nextTag s.setup.tag ∧ rc.applied = false
        ∧ ∀ ax, rc.progress.get ax = if r.targets.get ax = none then .notNamed
            else if t.entryOf ax = none then .running else .waiting := by
  obtain ⟨hbegun, -, -, -, hsetup, hge⟩ := beginRecall_frame i r s
  have hmode' : (beginRecall i r s).mc.mode = .run := by rw [hbegun.mc, hmode]
  have htracked : Tracked i r (nextTag s.setup.tag) [] (beginRecall i r s) (turned i r s) :=
    (tracked_beginRecall hentries hmotions).fold (by decide) hmode'
  have hcarried := htracked.carried.setup
  obtain ⟨p, hp, hprogress⟩ := htracked.current
  generalize (turned i r s).setup.base = base, (turned i r s).setup.tref = tref at hcarried
  rw [hp, hsetup] at hcarried
  subst ht
  rw [copied_eq (turned_run hmode)]
  refine ⟨by rw [hcarried]; rfl, by rw [hcarried]; rfl, htracked.carried.ge.trans hge, by rw [hcarried]; rfl,
    _, hp, rfl, rfl, rfl, fun ax => (hprogress ax).trans ?_⟩
  have hentry : ax ∉ ([] : List Axis) := List.not_mem_nil
  show recallProgress r [] (turned i r s) ax = if r.targets.get ax = none then .notNamed
    else if (turned i r s).entryOf ax = none then .running else .waiting
  simp only [recallProgress, hentry, false_or, ite_not]

/-- The setup and the banks of a recall that names no axis, before its axis phase ends. -/
theorem copied_axisless (hmode : s.mc.mode = .run) (h : ∀ ax, r.targets.get ax = none)
    (ht : t = copied i r (turned i r s)) : t.setup.current = some (axisless i (nextTag s.setup.tag))
      ∧ t.setup.tag = nextTag s.setup.tag ∧ t.setup.pendingGeometry = r.geometry.map (reclamp s.ge.raster) ∧ t.ge = s.ge
      ∧ t.setup.report = supersededReport s := by
  obtain ⟨hbegun, -, -, -, hsetup, hge⟩ := beginRecall_frame i r s
  subst ht
  rw [turned_axisless h, copied_eq (by rw [hbegun.mc, hmode])]
  refine ⟨?_, ?_, ?_, hge, ?_⟩
  · rw [← newRecall_axisless h]
    exact congrArg ActiveSetup.current hsetup
  · exact congrArg ActiveSetup.tag hsetup
  · exact congrArg ActiveSetup.pendingGeometry hsetup
  · exact congrArg ActiveSetup.report hsetup

/-- A recall that names no axis: APPLYING with its geometry active, or COMPLETE at once (R29, R36). -/
theorem inFlight_axisless (hmode : s.mc.mode = .run) (h : ∀ ax, r.targets.get ax = none)
    (ht : t = axislessRecall (copied i r (turned i r s))) :
    (∀ g, r.geometry = some g → t.setup.recallState = .applying ∧ t.setup.pendingGeometry = none
        ∧ t.setup.report = supersededReport s
        ∧ t.setup.current = some { axisless i (nextTag s.setup.tag) with applied := true, outcome := some .complete }
        ∧ t.ge = { s.ge with
            active := reclamp s.ge.raster g
            staged := .computing ⟨reclamp s.ge.raster g, s.ge.raster, s.ge.orient⟩ })
      ∧ (r.geometry = none → t.setup.recallState = .none ∧ t.setup.current = none ∧ t.setup.pendingGeometry = none
        ∧ t.ge = s.ge ∧ t.setup.report = some (reportOf .complete (axisless i (nextTag s.setup.tag)))
        ∧ t.flagged .recallDone) := by
  obtain ⟨hcurrent, -, hpending, hge, hreport⟩ := copied_axisless (i := i) hmode h rfl
  obtain ⟨hsome, hnone⟩ := axislessRecall_eq hcurrent
  subst ht
  refine ⟨fun g hg => ?_, fun hg => ?_⟩
  · rw [hg, Option.map_some] at hpending
    rw [hsome _ hpending, hge, reclamp_reclamp]
    exact ⟨rfl, rfl, hreport, rfl, rfl⟩
  · rw [hg, Option.map_none] at hpending
    obtain ⟨a, heq⟩ := hnone hpending
    rw [heq]
    exact ⟨rfl, rfl, rfl, hge, rfl, flagged_of_au (flagged_occur_self .recallDone { s with au := a }) rfl⟩

/-- The axes that a recall names, in the state that it leaves (R28, R92). -/
theorem named_turned (hmode : s.mc.mode = .run) (htarget : r.targets.get ax = some target) :
    (copied i r (turned i r s)).Has ax (.ofRecall target (nextTag s.setup.tag))
      ∧ ∀ m, (s.lens.get ax).motion = some m → Displaced ax m .retargeted s (copied i r (turned i r s)) := by
  obtain ⟨a, hbegin, -⟩ := beginRecall_eq i r s
  have hmode' : (beginRecall i r s).mc.mode = .run := by rw [hbegin]; exact hmode
  obtain ⟨-, hat⟩ := recalledAt_axes (r := r) (tag := nextTag s.setup.tag) hmode'
  change ∀ b, RecalledAt r _ _ b (turned i r s) at hat
  have hhas : (turned i r s).Has ax (.ofRecall target (nextTag s.setup.tag)) := (hat ax).has htarget
  rw [copied_eq (turned_run hmode)]
  refine ⟨hhas, fun m hm => ?_⟩
  have hdisplaced : Displaced ax m .retargeted (beginRecall i r s) (turned i r s) :=
    (hat ax).displaced hmode' htarget (by rw [hbegin]; exact hm)
  rw [hbegin] at hdisplaced
  exact hdisplaced

/-- Settles O27: the recall begun, the axes in their turns, the copies taken, and the recall left in flight, with the tag
not yet wrapped onto an entry or motion still there. -/
theorem recallTakesPlacement : Obligations.RecallTakesPlacement := by
  intro s i r hs hmode hslot hhealthy
  have haccept := acceptRecall_eq i r s
  have htaken := recallTaken_copied (i := i) (r := r) hmode
  have hreply := plRecall_run hmode hslot hhealthy rfl
  by_cases hany : ∃ ax, r.targets.get ax ≠ none
  · have hnames : axes.any (names r) = true := by
      obtain ⟨ax, hax⟩ := hany
      exact List.any_eq_true.mpr ⟨ax, mem_axes ax, Option.isSome_iff_ne_none.mpr hax⟩
    rw [haccept, if_pos hnames] at hreply
    refine ⟨_, request_of_reply hs (Nat.le_of_ble_eq_true rfl) hreply, htaken.tag, htaken.source, htaken.modified,
      htaken.quiet, htaken.focusOn, htaken.comp, fun ax target htarget => ?_, htaken.cc, htaken.others,
      fun hentries hmotions => ?_, htaken.done, htaken.outer, htaken.mc⟩
    · rw [htaken.tag]
      exact ⟨htaken.named ax target htarget, named_turned hmode htarget⟩
    · rw [htaken.tag] at hentries hmotions ⊢
      exact ⟨fun _ => inFlight_named hmode hentries hmotions rfl, fun g hnot => absurd hany hnot,
        fun hnot => absurd hany hnot⟩
  · have hnone (ax : Axis) : r.targets.get ax = none := by
      by_contra h
      exact hany ⟨ax, h⟩
    have hnames : ¬axes.any (names r) = true := fun h => by
      obtain ⟨ax, -, hax⟩ := List.any_eq_true.mp h
      exact hany ⟨ax, Option.isSome_iff_ne_none.mp hax⟩
    have hended := recallTaken_axisless (copied_axisless (i := i) hmode hnone rfl).1 htaken
    obtain ⟨hgeometry, hcomplete⟩ := inFlight_axisless (i := i) hmode hnone rfl
    rw [haccept, if_neg hnames] at hreply
    refine ⟨_, request_of_reply hs (Nat.le_of_ble_eq_true rfl) hreply, hended.tag, hended.source, hended.modified,
      hended.quiet, hended.focusOn, hended.comp, fun ax target htarget => ?_, hended.cc, hended.others,
      fun _ _ => ?_, hended.done, hended.outer, hended.mc⟩
    · rw [hnone ax] at htarget
      cases htarget
    · rw [hended.tag]
      exact ⟨fun h => absurd h hany, fun g _ => hgeometry g, fun _ => hcomplete⟩

end Sys2Proof.Machine
end
